-- ==== Sys2Proof/Word.lean ====
section
/-! DEFINITION. The bytes, colours and fixed-length tables that the rest of the model is written with. -/

namespace Sys2Proof

/-- One byte on a port or a link (R186). -/
abbrev Byte := BitVec 8

/-- A 24-bit colour, red, green and blue in that order (00_scope.md, Conventions). -/
abbrev Colour := BitVec 24

/-- The pixels of one tile in row-major order, pixel number 16q + p at in-tile column p and row q (R1). -/
abbrev Pixels := List Colour

/-- A fixed number of like things, given by what stands at each place. -/
def Vec.tabulate {α : Type} {n : Nat} (f : Fin n → α) : Vector α n :=
  ⟨(List.ofFn f).toArray, by simp⟩

@[simp] theorem Vec.tabulate_get {α : Type} {n : Nat} (f : Fin n → α) (i : Fin n) :
    (Vec.tabulate f)[i] = f i := by
  simp [Vec.tabulate]

@[simp] theorem Vec.tabulate_get_val {α : Type} {n : Nat} (f : Fin n → α) (i : Fin n) :
    (Vec.tabulate f)[(i : Nat)] = f i := by
  simp [Vec.tabulate]

/-- Change what stands at one place. -/
def Vec.modify {α : Type} {n : Nat} (v : Vector α n) (i : Fin n) (f : α → α) : Vector α n :=
  v.set i (f v[i])

@[simp] theorem Vec.modify_get_self {α : Type} {n : Nat} (v : Vector α n) (i : Fin n) (f : α → α) :
    (Vec.modify v i f)[i] = f v[i] := by
  simp [Vec.modify]

@[simp] theorem Vec.modify_get_self_val {α : Type} {n : Nat} (v : Vector α n) (i : Fin n) (f : α → α) :
    (Vec.modify v i f)[(i : Nat)] = f v[i] := by
  simp [Vec.modify]

theorem Vec.modify_get_ne {α : Type} {n : Nat} (v : Vector α n) (i j : Fin n) (f : α → α) (h : i ≠ j) :
    (Vec.modify v i f)[j] = v[j] := by
  have h' : (i : Nat) ≠ j := fun e => h (Fin.ext e)
  simp [Vec.modify, h']

end Sys2Proof
end

