-- ==== Sys2Proof/Syntax.lean ====
section
/-! DEFINITION. The commands of the block: one constructor of Instr for each row of
spec/opcode_table.json, with the row's operands. -/

namespace Sys2Proof

/-- A physical zone (R2). -/
inductive Zone where
  | rear
  | spine
  | front
  deriving DecidableEq, Repr

/-- A packet of the pixel input link (R74), its header fields as the bytes carry them (R186). -/
inductive Packet where
  | frameBegin (stream width height : Byte)
  | tileRun (stream : Byte) (start : BitVec 16) (count : Byte) (tiles : List Pixels)
  | frameEnd (stream : Byte)
  | discarded
  deriving DecidableEq, Repr

/-- A lookup request of the lookup port (R166, R186). -/
inductive LookupRequest where
  | point (x y : BitVec 16)
  | verify (region generation : Byte) (x y : BitVec 16)
  deriving DecidableEq, Repr

/-- The commands. A decision of a held request carries no operand of its own: its parameters stand in
the request buffer (R180; log entry 3). -/
inductive Instr where
  /-- REQUEST: the bytes of the transaction after its kind byte (R180). -/
  | request (frame : List Byte)
  /-- RESPONSE (R181). -/
  | response
  /-- STATUS (R181). -/
  | status
  /-- UNKNOWN_KIND_TRANSACTION (R179). -/
  | unknownKindTransaction
  | statusRead
  | eventClear
  | eventMask
  | geometrySet
  | geometryRead
  | keepoutSet
  | keepoutClear
  | keepoutRead
  | regionCreate
  | regionPlace
  | regionAttributes
  | regionRetire
  | regionDiscard
  | regionRead
  | regionList
  | tableSet
  | commit
  | mapRead
  | streamSet
  | streamRead
  | backgroundSet
  | scanSet
  | fillRead
  | postureSet
  | postureRead
  | layoutReady
  | layoutPin
  | layoutUnpin
  | transitionAbort
  | transitionSet
  | transitionRead
  | zoneMode
  | zoneTable
  | zoneIdle
  | zoneRestore
  | zoneRead
  | lookup
  | verify
  /-- POINT: a lookup port write of a POINT (R170). -/
  | point (x y : BitVec 16)
  /-- LOOKUP_PORT_VERIFY: a lookup port write of a VERIFY (R174). -/
  | lookupPortVerify (region generation : Byte) (x y : BitVec 16)
  /-- REJECTED_WRITE: the bytes a lookup port write carried after the address (R166). -/
  | rejectedWrite (bytes : List Byte)
  /-- ANSWER_READ: a read transaction of the lookup port begins (R167). -/
  | answerRead
  /-- FRAME_BEGIN (R76). -/
  | frameBegin (stream width height : Byte)
  /-- TILE_RUN: the header and the tiles that follow it (R77). -/
  | tileRun (stream : Byte) (start : BitVec 16) (count : Byte) (tiles : List Pixels)
  /-- STREAM_TILE: the router takes the next tile of the run (R80). -/
  | streamTile
  /-- FRAME_END (R83). -/
  | frameEnd (stream : Byte)
  /-- DISCARDED_PACKET: the bytes of the packet (R74). -/
  | discardedPacket (bytes : List Byte)
  /-- FRAME_TIMER_EXPIRY of one stream (R84). -/
  | frameTimerExpiry (stream : Fin 8)
  /-- BUILD_COMPLETE (R63). -/
  | buildComplete
  /-- SCAN_START: an assertion of the scan-start line (R99). -/
  | scanStart
  /-- SUBSTITUTE_SCAN_START: the substitute timer expires (R99). -/
  | substituteScanStart
  /-- TRANSFER_COMPLETE (R93). -/
  | transferComplete
  /-- FILL_JOB_COMPLETE (R102). -/
  | fillJobComplete
  /-- INTERVAL_TIMER_EXPIRY (R110). -/
  | intervalTimerExpiry
  /-- MEASUREMENT_COMPLETE: the rising edges of HINGE during the measurement, in microseconds from its
  start (R111). -/
  | measurementComplete (edges : List Nat)
  /-- PREPARE_TIMER_EXPIRY (R127). -/
  | prepareTimerExpiry
  /-- ZONE_FAULT_RISE (R159). -/
  | zoneFaultRise (zone : Zone)
  /-- ZONE_FAULT_FALL (R161). -/
  | zoneFaultFall (zone : Zone)
  /-- IDLE_TIMER_EXPIRY (R155). -/
  | idleTimerExpiry (zone : Zone)
  /-- RESETN_ASSERT (R72). -/
  | resetnAssert
  /-- RESETN_RELEASE: addrsel is the level of the strap, true for high (R164, R166). -/
  | resetnRelease (addrsel : Bool)
  /-- DRSTN_ASSERT (R43). -/
  | drstnAssert
  /-- DRSTN_RELEASE (R123). -/
  | drstnRelease
  deriving DecidableEq, Repr

end Sys2Proof
end

