-- ==== Sys2Proof/Decode.lean ====
section
/-! DEFINITION. The byte forms of the pixel packets, the lookup requests and the control port transactions
(R179, R186), the commands that the bytes of a bus transaction make, and the decoder of table words: no row of
the opcode table gives bits, so no word spells a command. -/

namespace Sys2Proof

/-- A multi-byte number is sent most significant byte first (R186). -/
def be16 (hi lo : Byte) : BitVec 16 := hi ++ lo

/-- A colour is three bytes, red, green and blue (R186). -/
def colourOf (r g b : Byte) : Colour := r ++ g ++ b

/-- Bytes taken three at a time as colours; a rest of one or two bytes is left out. -/
def coloursOf : List Byte → List Colour
  | r :: g :: b :: rest => colourOf r g b :: coloursOf rest
  | _ => []

/-- Count tiles of 256 pixels each, in the order of their arrival (R1). -/
def tilesOf : Nat → List Colour → List Pixels
  | 0, _ => []
  | n + 1, cs => cs.take 256 :: tilesOf n (cs.drop 256)

/-- The packet that the bytes of one packet, as the link delimits it, spell; none where its kind, its
stream or its length discards it (R74, R186). -/
def parsePacket : List Byte → Option Packet
  | [0x01#8, s, w, h] => if s.toNat ≤ 7 then some (.frameBegin s w h) else none
  | [0x03#8, s] => if s.toNat ≤ 7 then some (.frameEnd s) else none
  | 0x02#8 :: s :: hi :: lo :: c :: body =>
    if s.toNat ≤ 7 ∧ body.length = 768 * c.toNat then
      some (.tileRun s (be16 hi lo) c (tilesOf c.toNat (coloursOf body)))
    else none
  | _ => none

/-- The lookup request that the bytes of a lookup port write spell (R166, R186). -/
def parseLookup : List Byte → Option LookupRequest
  | [0x01#8, xh, xl, yh, yl] => some (.point (be16 xh xl) (be16 yh yl))
  | [0x02#8, r, g, xh, xl, yh, yl] => some (.verify r g (be16 xh xl) (be16 yh yl))
  | _ => none

/-- The command of a control port transaction, from the bytes software sends in it: the first is the kind byte, those
after it are the frame of a REQUEST and ignored in a RESPONSE or STATUS (R179). A RESPONSE or STATUS of its kind byte
alone has returned no byte: no response frame was returned and no status byte sent, so it changes nothing and has no
command (R181; log entry 25). -/
def transactionCommand : List Byte → Option Instr
  | 0x01#8 :: frame => some (.request frame)
  | 0x02#8 :: _ :: _ => some .response
  | 0x03#8 :: _ :: _ => some .status
  | [0x02#8] => none
  | [0x03#8] => none
  | _ => some .unknownKindTransaction

/-- The command of a lookup port write, from the bytes it carried after the address (R166). -/
def writeCommand (bytes : List Byte) : Instr :=
  match parseLookup bytes with
  | some (.point x y) => .point x y
  | some (.verify r g x y) => .lookupPortVerify r g x y
  | none => .rejectedWrite bytes

/-- The assertion of a reset input. -/
def Instr.assertsReset : Instr → Bool
  | .resetnAssert => true
  | .drstnAssert => true
  | _ => false

/-- A transaction whose first returned byte fixes what it does: a RESPONSE or a STATUS (R181). -/
def Instr.fixedByFirstByte : Instr → Bool
  | .response => true
  | .status => true
  | _ => false

/-- The command that a word spells by the table's bits: no row of the table gives bits, so none. -/
def decodeTableWord (_nbits _w : Nat) : Option Instr := none

end Sys2Proof
end

