-- ==== Sys2Proof/Config.lean ====
section
/-! DEFINITION. What is fixed for the part, and the free values: constants with no body that the spec
gives no value for, so that no proof can see one. -/

namespace Sys2Proof.Config

/-- Tile columns of the panel (R1). -/
def tileColumns : Nat := 128

/-- Tile rows of the panel (R1). -/
def tileRows : Nat := 112

/-- Tiles of the panel (R1). -/
def tileCount : Nat := 14336

/-- Free value (log entry 2): the time left on the Prepare timer that a TRANSITION READ gives, in 2 ms
steps, before the bounds 1 and the window it was started with are applied (R149). -/
opaque prepareTimeLeft : Nat → Nat

/-- Free value (log entry 2): the time left on a zone's idle timer that a ZONE READ gives, in units of
100 ms, before the bounds 1 and the limit it was started with are applied (R163). -/
opaque idleTimeLeft : Nat → Nat

/-- Free value (log entry 13): the Request Code echoed for a REQUEST transaction that carried no code
byte (R180, R186). -/
opaque missingCodeEcho : Nat → Byte

/-- Free value (log entry 14): the Position, as a tile number, that FILL READ gives for a job that has
advanced past the last tile and whose completion has not yet been taken (R102, R108). -/
opaque passedPosition : Nat → Nat

/-- Free value (log entry 8): the number of data bytes of a response that the spec does not lay out, before the bound
of the Data Length is applied; a function of the report (R186). -/
opaque reportLength {α : Type} (report : α) : Nat

/-- Free value (log entry 8): one of the data bytes of a response that the spec does not lay out, counted from 0; a
function of the report (R186). -/
opaque reportByte {α : Type} (report : α) (k : Nat) : Byte

/-- Free value (log entry 8): how many data bytes of STATUS READ stand before the event flags, before it is bounded by
how many there are; a function of the report (R184, R186). -/
opaque eventFlagsPlace {α : Type} (report : α) : Nat

end Sys2Proof.Config
end

