-- ==== Sys2Proof/Machine/State.lean ====
section
/-! DEFINITION. The state of the block as plain data, block by block, with the state while RESETN is
asserted and the state right after its release. -/

namespace Sys2Proof.Machine

/-! ## Shared values -/

/-- One value for each zone. -/
structure PerZone (α : Type) where
  rear : α
  spine : α
  front : α
  deriving DecidableEq, Repr

/-- A layout (00_scope.md, Terms). -/
inductive Layout where
  | folded
  | unfolded
  deriving DecidableEq, Repr

/-- A face (R7). -/
inductive Face where
  | front
  | spine
  | rear
  | whole
  deriving DecidableEq, Repr

/-- A slot of the Region Table, counted from 0: the slot of Region ID 1 is 0 (R16). -/
abbrev Slot := Fin 32

/-- An inclusive rectangle of tiles (R11, R19). -/
structure Rect where
  baseCol : Nat
  baseRow : Nat
  limitCol : Nat
  limitRow : Nat
  deriving DecidableEq, Repr

/-! ## Geometry and Keep-Out Store -/

/-- The geometry record (R3). -/
structure Geometry where
  spineStart : Nat
  spineWidth : Nat
  deriving DecidableEq, Repr

/-- The kind of a keep-out entry (R11). -/
inductive KeepOutKind where
  | hole
  | bend
  deriving DecidableEq, Repr

/-- A present keep-out entry (R11). -/
structure KeepOut where
  kind : KeepOutKind
  rect : Rect
  deriving DecidableEq, Repr

/-! ## Region Table -/

/-- What fills a placement (R19). -/
inductive Source where
  | stream (number : Fin 8) (originCol originRow : Nat)
  | fill (colour : Colour)
  deriving DecidableEq, Repr

/-- A placement part (R19). -/
structure Part where
  face : Face
  rect : Rect
  zLevel : Nat
  source : Source
  deriving DecidableEq, Repr

/-- The Touch attribute (R18). -/
inductive Touch where
  | route
  | pass
  deriving DecidableEq, Repr

/-- The Stale Action attribute (R18). -/
inductive StaleAction where
  | freeze
  | fill
  deriving DecidableEq, Repr

/-- The attributes of a copy (R18). -/
structure Attributes where
  ownerToken : Nat
  touch : Touch
  persist : Bool
  ephemeral : Bool
  staleLimit : Nat
  staleAction : StaleAction
  fallback : Colour
  deriving DecidableEq, Repr

/-- The content of a live or pending copy: attributes and placement set (R18, R19). -/
structure Content where
  attributes : Attributes
  folded : Option Part
  unfolded : Option Part
  deriving DecidableEq, Repr

/-- The lifecycle states (R23). -/
inductive Lifecycle where
  | free
  | staged
  | inService
  | quarantine
  deriving DecidableEq, Repr

/-- A record's standing in the active map (R21). -/
inductive Showing where
  | shown
  | parked
  | suppressed
  deriving DecidableEq, Repr

/-- A region record; its Region ID is its slot number (R16, R17, R18). An absent or empty copy is none. -/
structure Record where
  generation : BitVec 8
  lifecycle : Lifecycle
  showing : Showing
  stale : Bool
  retirePending : Bool
  commitPending : Bool
  inBuild : Bool
  quarantineCount : Nat
  ownedTiles : Nat
  live : Option Content
  pending : Option Content
  deriving DecidableEq, Repr

/-- A FREE slot holds nothing but its Generation (R16, R23). -/
def Record.free (generation : BitVec 8) : Record :=
  { generation, lifecycle := .free, showing := .parked, stale := false, retirePending := false,
    commitPending := false, inBuild := false, quarantineCount := 0, ownedTiles := 0, live := none,
    pending := none }

/-- The Region Table (R16, R39). -/
structure Table where
  slots : Vector Record 32
  quarantineLength : Nat
  retain : Bool
  deriving DecidableEq, Repr

/-! ## Placement Engine -/

/-- A Column Step, +1 or −1 (R8). -/
inductive ColumnStep where
  | plus
  | minus
  deriving DecidableEq, Repr

/-- The translation of a face (R8). -/
structure Translation where
  anchor : Nat
  step : ColumnStep
  mirror : Bool
  deriving DecidableEq, Repr

/-- An entry of a binding list (R46). -/
structure Binding where
  region : Slot
  originCol : Nat
  originRow : Nat
  width : Nat
  height : Nat
  baseCol : Nat
  baseRow : Nat
  translation : Translation
  deriving DecidableEq, Repr

/-- A tile entry of a map: Owner (none is 0) and Changed (R45). -/
structure TileEntry where
  owner : Option Slot
  changed : Bool
  deriving DecidableEq, Repr

/-- What a tile not listed in a map reads as: Owner 0, Changed clear (R45). -/
def TileEntry.empty : TileEntry := { owner := none, changed := false }

/-- A map: layout, tile entries that differ from the empty one by rising tile number, and one binding
list for each stream (R45). -/
structure Map where
  layout : Layout
  tiles : List (Nat × TileEntry)
  bindings : Vector (List Binding) 8
  deriving DecidableEq, Repr

/-- The empty map of a layout (R45). -/
def Map.empty (layout : Layout) : Map :=
  { layout, tiles := [], bindings := Vec.tabulate fun _ => [] }

/-- The kinds of build (R51). -/
inductive BuildKind where
  | commit
  | target
  | restore
  deriving DecidableEq, Repr

/-- What a record contributes to a build (R54, R55, R56): nothing; nothing, as an excluded Ephemeral
record; no placement, as a leaving record; content carried as suppressed; or content taken, which is
pending content where included is true and live content where it is false. -/
inductive Contribution where
  | absent
  | excluded
  | leaving
  | carried (content : Content)
  | taken (content : Content) (included : Bool)
  deriving DecidableEq, Repr

/-- A build: its kind, its layout, the snapshot, the geometry of its translations and the reference for
its Changed marks (R49). -/
structure Build where
  kind : BuildKind
  layout : Layout
  snapshot : Vector Contribution 32
  geometry : Geometry
  reference : Map
  deriving DecidableEq, Repr

/-- The engine state with what the SHADOW bank holds in it: nothing, the map being built, the built
map, or the held map with its epoch (R45, R48). -/
inductive EnginePhase where
  | idle
  | building (build : Build)
  | ready (build : Build) (map : Map)
  | draining (held : Map) (epoch : BitVec 16)
  deriving DecidableEq, Repr

/-- The waiting build claims; the COMMIT claim waits as the COMMIT latch (R51). -/
structure Claims where
  restore : Bool
  target : Option Layout
  commitLatch : Bool
  deriving DecidableEq, Repr

/-- The Placement Engine; the conflict pair is two Region IDs (R45, R47, R48, R51, R58). -/
structure Engine where
  epoch : BitVec 16
  active : Map
  phase : EnginePhase
  claims : Claims
  conflict : Nat × Nat
  deriving DecidableEq, Repr

/-! ## Stream Router -/

/-- The Last Result of a stream (R75). -/
inductive FrameResult where
  | complete
  | short
  | malformed
  | aborted
  | orphan
  deriving DecidableEq, Repr

/-- The record of an open frame; a running frame timer holds the time in ms it was started with (R75). -/
structure Frame where
  stamp : BitVec 16
  width : Nat
  height : Nat
  next : Nat
  malformed : Bool
  timer : Option Nat
  deriving DecidableEq, Repr

/-- A stream: OPEN with a frame record, or CLOSED (R75). -/
structure Stream where
  frame : Option Frame
  completed : BitVec 16
  last : FrameResult
  deriving DecidableEq, Repr

/-- The keys of the fill jobs (R101). -/
inductive Key where
  | region (slot : Slot)
  | background
  | blank
  | bend
  | zone (zone : Zone)
  deriving DecidableEq, Repr

/-- Whose tile write it is: a stream's, or a fill job's, darkening where the BEND job darkens (R93, R94). -/
inductive WriteKind where
  | stream
  | fill (key : Key) (darkening : Bool)
  deriving DecidableEq, Repr

/-- A tile write; the tile is numbered row by row, 128 to a row (R1, R93). -/
structure TileWrite where
  tile : Nat
  pixels : Pixels
  kind : WriteKind
  deriving DecidableEq, Repr

/-- The TILE RUN being taken: its stream, the tiles not yet taken, and whether it is routed or dropped whole (R74,
R77; log entry 18). -/
structure Run where
  stream : Fin 8
  tiles : List Pixels
  routed : Bool
  deriving DecidableEq, Repr

/-- The Stream Router: handing holds the accepted writes of the tile being dealt with, linkQueue the
packets that wait on the pixel input link (R75, R81, R86; log entry 5). -/
structure Router where
  streams : Vector Stream 8
  frameTimeout : Nat
  staleCounts : Vector Nat 32
  run : Option Run
  handing : List TileWrite
  linkQueue : List Packet
  deriving DecidableEq, Repr

/-! ## Panel Link Interface and Fill Writer -/

/-- A zone-control message (R93, R153). -/
structure Message where
  on : Bool
  brightness : Nat
  deriving DecidableEq, Repr

/-- A transfer of the panel link (R93). -/
inductive Transfer where
  | tile (write : TileWrite)
  | message (zone : Zone) (message : Message)
  deriving DecidableEq, Repr

/-- The Panel Link Interface: the link is FREE where flight is none (R93, R95, R96, R97, R99, R100). -/
structure Link where
  flight : Option Transfer
  streamWaiting : Option TileWrite
  fillWaiting : Option TileWrite
  fillWaitCount : Nat
  slots : PerZone (Option Message)
  interval : Nat
  timer : Option Nat
  deriving DecidableEq, Repr

/-- The job in progress; Position is a tile number, 14336 once past the last tile (R102). -/
structure Job where
  key : Key
  position : Nat
  deriving DecidableEq, Repr

/-- The Fill Writer (R101, R107). -/
structure Fill where
  queue : List Key
  job : Option Job
  foldedColour : Colour
  unfoldedColour : Colour
  deriving DecidableEq, Repr

/-! ## Posture Sampler -/

/-- The posture (R113); partly stands for PARTIAL. -/
inductive Posture where
  | unknown
  | folded
  | partly
  | unfolded
  deriving DecidableEq, Repr

/-- The class of a valid Sample (R112); partly stands for PARTIAL. -/
inductive HingeClass where
  | folded
  | partly
  | unfolded
  deriving DecidableEq, Repr

/-- The Sample Status (R121). -/
inductive SampleStatus where
  | none
  | valid
  | noSignal
  | saturated
  deriving DecidableEq, Repr

/-- The Last Direction (R115). -/
inductive Direction where
  | none
  | opening
  | closing
  | resumed
  deriving DecidableEq, Repr

/-- The Report Mode (R116). -/
inductive ReportMode where
  | opening
  | closing
  | both
  deriving DecidableEq, Repr

/-- The sampler's condition: still while RESETN is asserted, waiting with the time in ms its interval
timer was started with, or measuring (R110). -/
inductive SamplerPhase where
  | still
  | waiting (timer : Nat)
  | measuring
  deriving DecidableEq, Repr

/-- The Posture Sampler (R110 to R123). -/
structure Sampler where
  phase : SamplerPhase
  lastSample : Nat
  status : SampleStatus
  lastClass : Option HingeClass
  posture : Posture
  runClass : Option HingeClass
  runLength : Nat
  invalidRun : Nat
  lastDirection : Direction
  bendApplied : Bool
  sampleInterval : Nat
  foldLimit : Nat
  openLimit : Nat
  debounce : Nat
  reportMode : ReportMode
  bendDeferred : Bool
  deriving DecidableEq, Repr

/-! ## Transition Controller -/

/-- The Transition State (R124). -/
inductive TransitionState where
  | steady
  | prepare
  | building
  | blanking
  | holding
  | settling
  deriving DecidableEq, Repr

/-- The Transition Controller; a running Prepare timer holds the time in ms it was started with (R124). -/
structure Transition where
  state : TransitionState
  target : Option Layout
  waitingTarget : Option Layout
  pin : Option Layout
  commitJoined : Bool
  holdCount : Nat
  prepareTimer : Option Nat
  lastRequest : Option Layout
  setAside : Bool
  prepareWindow : Nat
  blankHold : Nat
  deriving DecidableEq, Repr

/-! ## Zone Controller -/

/-- The mode of a zone (R152). -/
inductive ZoneMode where
  | on
  | dim
  | off
  | tripped
  deriving DecidableEq, Repr

/-- The state of a zone; a running idle timer holds the limit it was started with, and the Activity Mask
has STREAM, FILL and LOOKUP at bits 0, 1 and 2 (R152, R186). -/
structure ZoneState where
  mode : ZoneMode
  faultActive : Bool
  tripCount : Nat
  idleLimit : Nat
  idleTimer : Option Nat
  activityMask : BitVec 3
  dimLevel : Nat
  deriving DecidableEq, Repr

/-- The Zone Controller; an entry of the zone mode table is true for ON, and tripDeferred is set where a
zone tripped while DRSTN was asserted (R152, R154, R165). -/
structure Zones where
  zone : PerZone ZoneState
  foldedTable : PerZone Bool
  unfoldedTable : PerZone Bool
  tripDeferred : Bool
  deriving DecidableEq, Repr

/-! ## Lookup Unit -/

/-- The status of a lookup answer (R186). -/
inductive LookupStatus where
  | empty
  | hit
  | none
  | outOfRange
  | keepOut
  | zoneOff
  | blank
  | current
  | gone
  | rejected
  deriving DecidableEq, Repr

/-- A lookup answer (R172). -/
structure Answer where
  status : LookupStatus
  region : Nat
  generation : BitVec 8
  ownerToken : Nat
  face : Option Face
  localX : Int
  localY : Int
  inside : Bool
  epoch : BitVec 8
  layout : Layout
  deriving DecidableEq, Repr

/-- The Lookup Unit: answer is none where the buffer is EMPTY, and returned is the answer whose frame the last
read transaction returned, byte by byte as LookupUnit.returnedByte says (R166, R167; log entry 9). -/
structure LookupUnit where
  answer : Option Answer
  address : BitVec 7
  returned : Option Answer
  deriving DecidableEq, Repr

/-! ## Control Port -/

/-- The result of a request (R181, R186). -/
inductive Result where
  | ok
  | accepted
  | busy
  | badRequest
  | badParam
  | badRegion
  | badState
  | noSlot
  | locked
  | tooLate
  | faultActive
  | nothing
  deriving DecidableEq, Repr

/-- The kinds of transfer that FILL READ tells apart (R108; log entry 26). -/
inductive TransferKind where
  | streamTile
  | fillTile
  | message
  deriving DecidableEq, Repr

/-- The engine state as STATUS READ names it (R48, R184). -/
inductive EngineState where
  | idle
  | building
  | ready
  | draining
  deriving DecidableEq, Repr

/-- GEOMETRY READ's data (R6). -/
structure GeometryReport where
  spineStart : Nat
  spineWidth : Nat
  widths : PerZone Nat
  locked : Bool
  deriving DecidableEq, Repr

/-- KEEPOUT READ's data; applied is given for a present entry (R15). -/
structure KeepOutReport where
  entries : List (Option (KeepOut × Bool))
  bendApplied : Bool
  locked : Bool
  keptOutTiles : Nat
  deriving DecidableEq, Repr

/-- An entry of REGION LIST (R41). -/
structure ListEntry where
  region : Nat
  generation : BitVec 8
  lifecycle : Lifecycle
  showing : Showing
  deriving DecidableEq, Repr

/-- REGION LIST's data (R41). -/
structure RegionListReport where
  entries : List ListEntry
  free : Nat
  staged : Nat
  inService : Nat
  quarantine : Nat
  quarantineLength : Nat
  retain : Bool
  deriving DecidableEq, Repr

/-- MAP READ's data; owner is a Region ID or 0 (R71). -/
structure MapReport where
  owner : Nat
  changed : Bool
  epoch : BitVec 16
  layout : Layout
  deriving DecidableEq, Repr

/-- The record of an open frame in STREAM READ's data; stampActive tells an active stamp from the epoch
before (R91). -/
structure FrameReport where
  stamp : BitVec 16
  width : Nat
  height : Nat
  next : Nat
  malformed : Bool
  stampActive : Bool
  deriving DecidableEq, Repr

/-- One stream in STREAM READ's data; the frame is none where the Frame State is CLOSED (R91). -/
structure StreamReport where
  frame : Option FrameReport
  completed : BitVec 16
  last : FrameResult
  deriving DecidableEq, Repr

/-- STREAM READ's data (R91). -/
structure StreamsReport where
  frameTimeout : Nat
  streams : List StreamReport
  staleCounts : List Nat
  deriving DecidableEq, Repr

/-- FILL READ's data (R108). -/
structure FillReport where
  job : Option (Key × Nat × Nat)
  queue : List Key
  idle : Bool
  fillWaits : Bool
  streamWaits : Bool
  fillWaitCount : Nat
  flight : Option TransferKind
  slots : PerZone (Option Message)
  foldedColour : Colour
  unfoldedColour : Colour
  interval : Nat
  deriving DecidableEq, Repr

/-- POSTURE READ's data (R121). -/
structure PostureReport where
  lastSample : Nat
  status : SampleStatus
  lastClass : Option HingeClass
  posture : Posture
  impliedLayout : Option Layout
  runClass : Option HingeClass
  runLength : Nat
  invalidRun : Nat
  lastDirection : Direction
  bendApplied : Bool
  measuring : Bool
  sampleInterval : Nat
  foldLimit : Nat
  openLimit : Nat
  debounce : Nat
  reportMode : ReportMode
  deriving DecidableEq, Repr

/-- TRANSITION READ's data (R149). -/
structure TransitionReport where
  state : TransitionState
  target : Option Layout
  activeLayout : Layout
  waitingTarget : Option Layout
  pin : Option Layout
  commitJoined : Bool
  prepareLeft : Nat
  holdCount : Nat
  blankHold : Nat
  prepareWindow : Nat
  lastRequest : Option Layout
  setAside : Bool
  deriving DecidableEq, Repr

/-- One zone in ZONE READ's data (R163). -/
structure ZoneReport where
  mode : ZoneMode
  firstColumn : Nat
  lastColumn : Nat
  faultActive : Bool
  tripCount : Nat
  idleLimit : Nat
  idleLeft : Option Nat
  activityMask : BitVec 3
  dimLevel : Nat
  wanted : Message
  deriving DecidableEq, Repr

/-- ZONE READ's data (R163). -/
structure ZonesReport where
  zones : PerZone ZoneReport
  foldedTable : PerZone Bool
  unfoldedTable : PerZone Bool
  deriving DecidableEq, Repr

/-- STATUS READ's data (R184). -/
structure StatusReport where
  flags : BitVec 14
  mask : BitVec 14
  engine : EngineState
  build : Option BuildKind
  claims : Claims
  epoch : BitVec 16
  layout : Layout
  conflict : Nat × Nat
  staleMap : List Bool
  transition : TransitionState
  posture : Posture
  lastDirection : Direction
  bendApplied : Bool
  deriving DecidableEq, Repr

/-- The data of a response, as a typed report: the spec gives the bytes of the answer frame and of the event flags in
STATUS READ alone, the other bytes of the reports are free values (R186; log entry 8). -/
inductive Data where
  | empty
  | created (region : Nat) (generation : BitVec 8)
  | status (report : StatusReport)
  | geometry (report : GeometryReport)
  | keepOuts (report : KeepOutReport)
  | region (id : Nat) (record : Record)
  | regionList (report : RegionListReport)
  | map (report : MapReport)
  | streams (report : StreamsReport)
  | fill (report : FillReport)
  | posture (report : PostureReport)
  | transition (report : TransitionReport)
  | zones (report : ZonesReport)
  | answer (answer : Answer)
  deriving DecidableEq, Repr

/-- A request in the request buffer: its code and the parameter bytes its Parameter Length gives (R180). -/
structure HeldRequest where
  code : Byte
  params : List Byte
  deriving DecidableEq, Repr

/-- A response in the response buffer (R180, R186). -/
structure Response where
  code : Byte
  result : Result
  data : Data
  deriving DecidableEq, Repr

/-- What the part returned in the last control port transaction, byte by byte as PortReturn.byte says: nothing
yet, 00H on every byte, a response frame, or the status frame (R179, R181; log entry 9). -/
inductive PortReturn where
  | none
  | zeros
  | response (response : Response)
  | status (portStatus : Byte) (flags : BitVec 16)
  deriving DecidableEq, Repr

/-- The Control Port: Request Held is a request in the buffer, Response Ready a response in the buffer;
the flags and the mask have the places of R186 (R180, R182, R183). -/
structure Port where
  request : Option HeldRequest
  response : Option Response
  overrun : Bool
  flags : BitVec 14
  mask : BitVec 14
  returned : PortReturn
  deriving DecidableEq, Repr

/-! ## Pins and the panel driver -/

/-- The levels of the inputs that the part follows: true where a reset input is asserted and where a
fault line is active (00_scope.md, Connections; R164). -/
structure Pins where
  resetn : Bool
  drstn : Bool
  faultLine : PerZone Bool
  deriving DecidableEq, Repr

/-- The panel driver, the part's partner: the pixels of the tiles that the part has written, by rising
tile number, and each zone's last completed message (R93; log entry 10). -/
structure Panel where
  tiles : List (Nat × Pixels)
  zones : PerZone (Option Message)
  deriving DecidableEq, Repr

/-! ## The whole state -/

/-- The state of the block. freeCount is the model's own counter of free values (log entry 2), pending
the queue of waiting commands, first in first out (log entry 1). -/
structure State where
  port : Port
  geometry : Geometry
  keepOuts : Vector (Option KeepOut) 8
  table : Table
  engine : Engine
  router : Router
  link : Link
  fill : Fill
  sampler : Sampler
  transition : Transition
  zones : Zones
  lookup : LookupUnit
  pins : Pins
  panel : Panel
  freeCount : Nat
  pending : List Instr
  deriving DecidableEq, Repr

/-- No command ends in a fault: the spec names no behaviour that stops the part. -/
inductive Fault where
  deriving DecidableEq, Repr

/-- notModelled: an arm of exec that has no meaning yet; no arm answers it. Safe: the model would stop
where the part goes on. -/
inductive Refusal where
  | notModelled (mnemonic : String)
  deriving DecidableEq, Repr

/-! ## Reset -/

/-- A CLOSED stream after either reset (R92). -/
def Stream.reset : Stream := { frame := none, completed := 0, last := .complete }

/-- The settings and trips of a zone after RESETN, in a mode its table entry gives (R164). -/
def ZoneState.reset (mode : ZoneMode) : ZoneState :=
  { mode, faultActive := false, tripCount := 0, idleLimit := 0, idleTimer := none, activityMask := 7,
    dimLevel := 40 }

/-- The FOLDED entries of the zone mode table after RESETN (R154). -/
def foldedTableDefault : PerZone Bool := { rear := false, spine := true, front := true }

/-- The UNFOLDED entries of the zone mode table after RESETN (R154). -/
def unfoldedTableDefault : PerZone Bool := { rear := true, spine := true, front := true }

/-- The Control Port at the assertion of RESETN (R183, R185). -/
def Port.reset : Port :=
  { request := none, response := none, overrun := false, flags := 0, mask := 0x3FFF, returned := .none }

/-- The Region Table after RESETN (R42). -/
def Table.reset : Table :=
  { slots := Vec.tabulate fun _ => Record.free 0, quarantineLength := 2, retain := false }

/-- The Placement Engine after RESETN (R72). -/
def Engine.reset : Engine :=
  { epoch := 0, active := Map.empty .folded, phase := .idle,
    claims := { restore := false, target := none, commitLatch := false }, conflict := (0, 0) }

/-- The Stream Router after RESETN (R90, R92). -/
def Router.reset : Router :=
  { streams := Vec.tabulate fun _ => Stream.reset, frameTimeout := 50,
    staleCounts := Vec.tabulate fun _ => 0, run := none, handing := [], linkQueue := [] }

/-- The Panel Link Interface while a reset is asserted, with an interval (R100, R109). -/
def Link.inReset (interval : Nat) : Link :=
  { flight := none, streamWaiting := none, fillWaiting := none, fillWaitCount := 0,
    slots := { rear := none, spine := none, front := none }, interval, timer := none }

/-- The Fill Writer while RESETN is asserted (R107, R109). -/
def Fill.reset : Fill := { queue := [], job := none, foldedColour := 0, unfoldedColour := 0 }

/-- The Posture Sampler while RESETN is asserted (R120, R122). -/
def Sampler.reset : Sampler :=
  { phase := .still, lastSample := 0, status := .none, lastClass := none, posture := .unknown,
    runClass := none, runLength := 0, invalidRun := 0, lastDirection := .none, bendApplied := true,
    sampleInterval := 8, foldLimit := 1200, openLimit := 3000, debounce := 3, reportMode := .both,
    bendDeferred := false }

/-- The Transition Controller after RESETN (R124, R150). -/
def Transition.reset : Transition :=
  { state := .steady, target := none, waitingTarget := none, pin := none, commitJoined := false,
    holdCount := 0, prepareTimer := none, lastRequest := none, setAside := false, prepareWindow := 100,
    blankHold := 1 }

/-- The Zone Controller with the values of R164 (R154). -/
def Zones.reset : Zones :=
  { zone := { rear := .reset .off, spine := .reset .on, front := .reset .on },
    foldedTable := foldedTableDefault, unfoldedTable := unfoldedTableDefault, tripDeferred := false }

/-- The part while RESETN is asserted, its fault lines inactive, the panel not yet written. -/
def State.held : State :=
  { port := Port.reset
    geometry := { spineStart := 60, spineWidth := 8 }
    keepOuts := Vec.tabulate fun _ => none
    table := Table.reset
    engine := Engine.reset
    router := Router.reset
    link := Link.inReset 40
    fill := Fill.reset
    sampler := Sampler.reset
    transition := Transition.reset
    zones := Zones.reset
    lookup := { answer := none, address := 0x3A, returned := none }
    pins := { resetn := true, drstn := false,
              faultLine := { rear := false, spine := false, front := false } }
    panel := { tiles := [], zones := { rear := none, spine := none, front := none } }
    freeCount := 0
    pending := [] }

/-- The part right after RESETN has returned inactive, with DRSTN and the fault lines inactive and
ADDRSEL low (log entry 6): the sampler waits for 8 ms (R122), the substitute timer runs (R100), the
BACKGROUND job offers tile 0 (R109), and of the three zone messages REAR's has been granted the link
(R96, R164). -/
def State.reset : State :=
  { State.held with
    pins := { State.held.pins with resetn := false }
    sampler := { Sampler.reset with phase := .waiting 8 }
    fill := { Fill.reset with job := some { key := .background, position := 0 } }
    link :=
      { Link.inReset 40 with
        flight := some (.message .rear { on := false, brightness := 0 })
        slots := { rear := none, spine := some { on := true, brightness := 255 },
                   front := some { on := true, brightness := 255 } }
        fillWaiting := some { tile := 0, pixels := List.replicate 256 0, kind := .fill .background false }
        timer := some 40 } }

end Sys2Proof.Machine
end

