-- ==== Sys2Proof/Machine/Panel.lean ====
section
/-! DEFINITION. Chapter 1 as functions: zones, faces and their translations, rectangles, keep-outs, the
mirroring of a tile's pixels, and the panel driver's frame memory. -/

namespace Sys2Proof.Machine

/-- What stands for one zone. -/
def PerZone.get {α : Type} (p : PerZone α) : Zone → α
  | .rear => p.rear
  | .spine => p.spine
  | .front => p.front

/-- Replace what stands for one zone. -/
def PerZone.set {α : Type} (p : PerZone α) (z : Zone) (x : α) : PerZone α :=
  match z with
  | .rear => { p with rear := x }
  | .spine => { p with spine := x }
  | .front => { p with front := x }

/-- The three zones in the order REAR, SPINE, FRONT. -/
def zoneList : List Zone := [.rear, .spine, .front]

/-- All slots in ascending Region ID (R16). -/
def slotList : List Slot := List.finRange 32

/-- The Region ID of a slot (R16). -/
def regionId (i : Slot) : Nat := i.val + 1

/-- The Region ID of an owner; no owner is 0 (R16, R45). -/
def ownerId : Option Slot → Nat
  | none => 0
  | some i => regionId i

/-- The slot a Region ID names; none where the ID is outside 1 to 32 (R16). -/
def slotOf (id : Nat) : Option Slot :=
  if h : 1 ≤ id ∧ id ≤ 32 then some ⟨id - 1, by omega⟩ else none

/-- The layout that is not the one given. -/
def Layout.other : Layout → Layout
  | .folded => .unfolded
  | .unfolded => .folded

/-! ## Tiles and rectangles -/

/-- The number of a tile, row by row (R1, R102). -/
def tileAt (col row : Nat) : Nat := row * Config.tileColumns + col

/-- The tile column of a tile number. -/
def tileCol (t : Nat) : Nat := t % Config.tileColumns

/-- The tile row of a tile number. -/
def tileRow (t : Nat) : Nat := t / Config.tileColumns

/-- A rectangle includes both its Base and its Limit tiles (00_scope.md, Ranges). -/
def Rect.contains (r : Rect) (col row : Nat) : Bool :=
  decide (r.baseCol ≤ col ∧ col ≤ r.limitCol ∧ r.baseRow ≤ row ∧ row ≤ r.limitRow)

/-- The width of a rectangle in tiles. -/
def Rect.width (r : Rect) : Nat := r.limitCol + 1 - r.baseCol

/-- The height of a rectangle in tiles. -/
def Rect.height (r : Rect) : Nat := r.limitRow + 1 - r.baseRow

/-- Two rectangles share at least one tile (R57). -/
def Rect.meets (a b : Rect) : Bool :=
  decide (a.baseCol ≤ b.limitCol ∧ b.baseCol ≤ a.limitCol ∧ a.baseRow ≤ b.limitRow ∧ b.baseRow ≤ a.limitRow)

/-! ## Zones and faces -/

/-- The geometry values in range (R3). -/
def Geometry.inRange (g : Geometry) : Bool :=
  decide (40 ≤ g.spineStart ∧ g.spineStart ≤ 80 ∧ 4 ≤ g.spineWidth ∧ g.spineWidth ≤ 16)

/-- The zone of a tile column (R2). -/
def Geometry.zoneOf (g : Geometry) (col : Nat) : Zone :=
  if col < g.spineStart then .rear
  else if col < g.spineStart + g.spineWidth then .spine
  else .front

/-- The zone of a tile (R2). -/
def Geometry.zoneOfTile (g : Geometry) (t : Nat) : Zone := g.zoneOf (tileCol t)

/-- The widths of the zones in tile columns (R2). -/
def Geometry.widths (g : Geometry) : PerZone Nat :=
  { rear := g.spineStart, spine := g.spineWidth, front := Config.tileColumns - g.spineStart - g.spineWidth }

/-- The first tile column of a zone (R2). -/
def Geometry.firstColumn (g : Geometry) : Zone → Nat
  | .rear => 0
  | .spine => g.spineStart
  | .front => g.spineStart + g.spineWidth

/-- The last tile column of a zone (R2). -/
def Geometry.lastColumn (g : Geometry) : Zone → Nat
  | .rear => g.spineStart - 1
  | .spine => g.spineStart + g.spineWidth - 1
  | .front => Config.tileColumns - 1

/-- The face named like a zone (R7). -/
def faceOfZone : Zone → Face
  | .rear => .rear
  | .spine => .spine
  | .front => .front

/-- The face a tile column belongs to in a layout (R7). -/
def Geometry.faceAt (g : Geometry) (layout : Layout) (col : Nat) : Face :=
  match layout with
  | .folded => faceOfZone (g.zoneOf col)
  | .unfolded => .whole

/-- The last local tile column of a face (R7). -/
def Geometry.lastLocal (g : Geometry) : Face → Nat
  | .front => Config.tileColumns - 1 - g.spineStart - g.spineWidth
  | .spine => g.spineWidth - 1
  | .rear => g.spineStart - 1
  | .whole => Config.tileColumns - 1

/-- A placement part's rectangle lies within its face (R7). -/
def Geometry.fits (g : Geometry) (face : Face) (r : Rect) : Bool :=
  decide (r.baseCol ≤ r.limitCol ∧ r.baseRow ≤ r.limitRow ∧ r.limitCol ≤ g.lastLocal face
    ∧ r.limitRow < Config.tileRows)

/-- The translation of a face (R8). -/
def Geometry.translation (g : Geometry) : Face → Translation
  | .front => { anchor := g.spineStart + g.spineWidth, step := .plus, mirror := false }
  | .spine => { anchor := g.spineStart, step := .plus, mirror := false }
  | .rear => { anchor := g.spineStart - 1, step := .minus, mirror := true }
  | .whole => { anchor := 0, step := .plus, mirror := false }

/-- The physical column of a local column (R8). -/
def Translation.physical (t : Translation) (c : Nat) : Nat :=
  match t.step with
  | .plus => t.anchor + c
  | .minus => t.anchor - c

/-- The physical rectangle that a local rectangle of a face covers (R8). -/
def Geometry.physicalRect (g : Geometry) (face : Face) (r : Rect) : Rect :=
  let t := g.translation face
  match t.step with
  | .plus => { r with baseCol := t.anchor + r.baseCol, limitCol := t.anchor + r.limitCol }
  | .minus => { r with baseCol := t.anchor - r.limitCol, limitCol := t.anchor - r.baseCol }

/-- The face-local pixel column of a physical pixel column, by the formula of a face (R9). -/
def Geometry.localPixel (g : Geometry) (face : Face) (x : Nat) : Int :=
  match face with
  | .front => (x : Int) - 16 * (g.spineStart + g.spineWidth)
  | .spine => (x : Int) - 16 * g.spineStart
  | .rear => 16 * (g.spineStart : Int) - 1 - x
  | .whole => x

/-- The pixel order of each in-tile row reversed, the rows in their order (R10). -/
def reverseRows (px : Pixels) : Pixels :=
  (List.range 256).map fun i => px.getD (16 * (i / 16) + (15 - i % 16)) 0

/-- A fill tile carries one colour in all 256 pixels (R1). -/
def solid (c : Colour) : Pixels := List.replicate 256 c

/-! ## Keep-outs -/

/-- A keep-out rectangle lies on the panel (R11). -/
def Rect.onPanel (r : Rect) : Bool :=
  decide (r.baseCol ≤ r.limitCol ∧ r.limitCol < Config.tileColumns ∧ r.baseRow ≤ r.limitRow
    ∧ r.limitRow < Config.tileRows)

/-- A present entry is applied according to its kind (R12). -/
def KeepOut.applied (bend : Bool) (k : KeepOut) : Bool :=
  match k.kind with
  | .hole => true
  | .bend => bend

/-- An entry covers a tile. -/
def KeepOut.covers (k : KeepOut) (t : Nat) : Bool := k.rect.contains (tileCol t) (tileRow t)

/-- The entries of the keep-out list that are present, in index order (R11). -/
def presentKeepOuts (ks : Vector (Option KeepOut) 8) : List KeepOut := ks.toList.filterMap id

/-- A present HOLE entry covers the tile (R12). -/
def heldByHole (ks : Vector (Option KeepOut) 8) (t : Nat) : Bool :=
  (presentKeepOuts ks).any fun k => k.kind = .hole && k.covers t

/-- A present BEND entry covers the tile (R12, R103). -/
def coveredByBend (ks : Vector (Option KeepOut) 8) (t : Nat) : Bool :=
  (presentKeepOuts ks).any fun k => k.kind = .bend && k.covers t

/-- At least one applied entry covers the tile (R12). -/
def keptOut (ks : Vector (Option KeepOut) 8) (bend : Bool) (t : Nat) : Bool :=
  (presentKeepOuts ks).any fun k => k.applied bend && k.covers t

/-- The number of kept-out tiles; a tile covered by several applied entries counts once (R15). -/
def keptOutCount (ks : Vector (Option KeepOut) 8) (bend : Bool) : Nat :=
  (List.range Config.tileCount).countP fun t => keptOut ks bend t

/-! ## The panel driver's frame memory -/

/-- Put the pixels of one tile into a list with rising tile numbers. -/
def insertTile (t : Nat) (px : Pixels) : List (Nat × Pixels) → List (Nat × Pixels)
  | [] => [(t, px)]
  | (u, q) :: rest =>
    if t < u then (t, px) :: (u, q) :: rest
    else if t = u then (t, px) :: rest
    else (u, q) :: insertTile t px rest

/-- The tile's frame memory takes the pixels (R93). -/
def Panel.write (p : Panel) (t : Nat) (px : Pixels) : Panel := { p with tiles := insertTile t px p.tiles }

/-- The pixels that the part last wrote to a tile; none for a tile it has never written (R93). -/
def Panel.read (p : Panel) (t : Nat) : Option Pixels := p.tiles.lookup t

/-- Tile numbers strictly rising: the canonical form of the frame memory. -/
def risingKeys {α : Type} : List (Nat × α) → Bool
  | a :: b :: rest => a.1 < b.1 && risingKeys (b :: rest)
  | _ => true

/-- The frame memory is in canonical form. -/
def Panel.wf (p : Panel) : Bool := risingKeys p.tiles

end Sys2Proof.Machine
end

