-- ==== Sys2Proof/Machine/Operands.lean ====
section
/-! DEFINITION. The parameter forms of the requests (R186): every field, presence byte, placement part
and attribute block, from the bytes to typed operands, with the range checks of the requests' rules. -/

namespace Sys2Proof.Machine

/-- A two-byte number, most significant byte first (R186). -/
def word16 (hi lo : Byte) : Nat := (be16 hi lo).toNat

/-- The Layout field (R186). -/
def layoutField (b : Byte) : Option Layout :=
  if b = 0x00#8 then some .folded else if b = 0x01#8 then some .unfolded else none

/-- The Face field (R186). -/
def faceField (b : Byte) : Option Face :=
  if b = 0x01#8 then some .front
  else if b = 0x02#8 then some .spine
  else if b = 0x03#8 then some .rear
  else if b = 0x04#8 then some .whole
  else none

/-- The Kind field of KEEPOUT SET (R186). -/
def keepOutKindField (b : Byte) : Option KeepOutKind :=
  if b = 0x01#8 then some .hole else if b = 0x02#8 then some .bend else none

/-- The Touch field (R186). -/
def touchField (b : Byte) : Option Touch :=
  if b = 0x00#8 then some .route else if b = 0x01#8 then some .pass else none

/-- A field with 00H for no, clear or OFF and 01H for yes, set or ON: Persist, Ephemeral, Retain, Mode
and zone mode table entry (R186). -/
def boolField (b : Byte) : Option Bool :=
  if b = 0x00#8 then some false else if b = 0x01#8 then some true else none

/-- The Stale Action field (R186). -/
def staleActionField (b : Byte) : Option StaleAction :=
  if b = 0x00#8 then some .freeze else if b = 0x01#8 then some .fill else none

/-- The Report Mode field (R186). -/
def reportModeField (b : Byte) : Option ReportMode :=
  if b = 0x01#8 then some .opening
  else if b = 0x02#8 then some .closing
  else if b = 0x03#8 then some .both
  else none

/-- The Zone field (R186). -/
def zoneField (b : Byte) : Option Zone :=
  if b = 0x00#8 then some .rear
  else if b = 0x01#8 then some .spine
  else if b = 0x02#8 then some .front
  else none

/-- A number in a range, both ends included. -/
def inRange (lo hi n : Nat) : Option Nat := if lo ≤ n ∧ n ≤ hi then some n else none

/-- Fourteen places as a two-byte number; a 1 outside them is out of range (R182, R183). -/
def placesField (hi lo : Byte) : Option (BitVec 14) :=
  if (be16 hi lo).toNat < 16384 then some ((be16 hi lo).truncate 14) else none

/-- A presence byte with no bit set at or above a place (R186). -/
def presenceOk (presence : Byte) (bits : Nat) : Bool := decide (presence.toNat < 2 ^ bits)

/-- A field that a presence bit governs: where the bit is set it takes its bytes from the front, and its
value check must pass; where it is clear it takes none (R186). -/
def optField {α : Type} (present : Bool) (size : Nat) (read : List Byte → Option α) (ps : List Byte) :
    Option (Option α × List Byte) :=
  if present then
    if size ≤ ps.length then (read (ps.take size)).map fun v => (some v, ps.drop size) else none
  else some (none, ps)

/-- A one-byte field's value check. -/
def byte1 {α : Type} (f : Byte → Option α) : List Byte → Option α
  | [b] => f b
  | _ => none

/-- A two-byte field's value check. -/
def byte2 {α : Type} (f : Nat → Option α) : List Byte → Option α
  | [hi, lo] => f (word16 hi lo)
  | _ => none

/-- A three-byte colour; every value is a 24-bit value (R186). -/
def byte3 : List Byte → Option Colour
  | [r, g, b] => some (colourOf r g b)
  | _ => none

/-! ## Placement parts -/

/-- A face agrees with the layout a part is given for (R20 step 1). -/
def faceInLayout (layout : Layout) (face : Face) : Bool :=
  match layout, face with
  | .folded, .whole => false
  | .folded, _ => true
  | .unfolded, .whole => true
  | .unfolded, _ => false

/-- The source of a placement part, from its Source Kind byte and its three bytes (R19, R186). -/
def sourceField (kind a b c : Byte) : Option Source :=
  if kind = 0x01#8 then
    if h : a.toNat < 8 then
      if b.toNat < Config.tileColumns ∧ c.toNat < Config.tileRows then
        some (.stream ⟨a.toNat, h⟩ b.toNat c.toNat)
      else none
    else none
  else if kind = 0x02#8 then some (.fill (colourOf a b c))
  else none

/-- The source rectangle of a STREAM source lies within the largest frame (R20 step 4). -/
def sourceFits (r : Rect) : Source → Bool
  | .stream _ oc orow => decide (oc + r.width ≤ Config.tileColumns ∧ orow + r.height ≤ Config.tileRows)
  | .fill _ => true

/-- A placement part that passes R20 for a layout under a geometry record. -/
def Part.admitted (g : Geometry) (layout : Layout) (p : Part) : Bool :=
  faceInLayout layout p.face && g.fits p.face p.rect && decide (p.zLevel ≤ 15) && sourceFits p.rect p.source

/-- A placement part from its ten bytes, checked under R20. -/
def partField (g : Geometry) (layout : Layout) : List Byte → Option Part
  | [f, bc, br, lc, lr, z, k, a, b, c] =>
    (faceField f).bind fun face =>
    (sourceField k a b c).bind fun source =>
    let p : Part :=
      { face, rect := { baseCol := bc.toNat, baseRow := br.toNat, limitCol := lc.toNat, limitRow := lr.toNat },
        zLevel := z.toNat, source }
    if p.admitted g layout then some p else none
  | _ => none

/-! ## Attribute blocks -/

/-- The attributes a request carries (R18, R24, R27). -/
structure AttributeEdit where
  ownerToken : Option Nat
  touch : Option Touch
  persist : Option Bool
  ephemeral : Option Bool
  staleLimit : Option Nat
  staleAction : Option StaleAction
  fallback : Option Colour
  deriving DecidableEq, Repr

/-- The request carries at least one attribute (R27). -/
def AttributeEdit.any (e : AttributeEdit) : Bool :=
  e.ownerToken.isSome || e.touch.isSome || e.persist.isSome || e.ephemeral.isSome || e.staleLimit.isSome
    || e.staleAction.isSome || e.fallback.isSome

/-- The defaults at REGION CREATE (R18). -/
def Attributes.default : Attributes :=
  { ownerToken := 0, touch := .route, persist := false, ephemeral := false, staleLimit := 0,
    staleAction := .freeze, fallback := 0 }

/-- Each attribute given replaces the same attribute (R27). -/
def AttributeEdit.apply (e : AttributeEdit) (a : Attributes) : Attributes :=
  { ownerToken := e.ownerToken.getD a.ownerToken
    touch := e.touch.getD a.touch
    persist := e.persist.getD a.persist
    ephemeral := e.ephemeral.getD a.ephemeral
    staleLimit := e.staleLimit.getD a.staleLimit
    staleAction := e.staleAction.getD a.staleAction
    fallback := e.fallback.getD a.fallback }

/-- An attribute block: a presence byte and the attributes whose bits are set, each in its range, and
nothing after them (R18, R186). -/
def attributeBlock : List Byte → Option AttributeEdit
  | [] => none
  | pres :: ps0 =>
    if presenceOk pres 7 then
      (optField (pres.getLsbD 0) 1 (byte1 fun b => inRange 0 63 b.toNat) ps0).bind fun (ownerToken, ps1) =>
      (optField (pres.getLsbD 1) 1 (byte1 touchField) ps1).bind fun (touch, ps2) =>
      (optField (pres.getLsbD 2) 1 (byte1 boolField) ps2).bind fun (persist, ps3) =>
      (optField (pres.getLsbD 3) 1 (byte1 boolField) ps3).bind fun (ephemeral, ps4) =>
      (optField (pres.getLsbD 4) 1 (byte1 fun b => some b.toNat) ps4).bind fun (staleLimit, ps5) =>
      (optField (pres.getLsbD 5) 1 (byte1 staleActionField) ps5).bind fun (staleAction, ps6) =>
      (optField (pres.getLsbD 6) 3 byte3 ps6).bind fun (fallback, ps7) =>
      if ps7.isEmpty then
        some { ownerToken, touch, persist, ephemeral, staleLimit, staleAction, fallback }
      else none
    else none

/-! ## The other requests with presence bytes -/

/-- TABLE SET's settings; at least one is carried (R39). -/
def tableSetParams : List Byte → Option (Option Nat × Option Bool)
  | [] => none
  | pres :: ps0 =>
    if presenceOk pres 2 && pres ≠ 0 then
      (optField (pres.getLsbD 0) 1 (byte1 fun b => inRange 1 15 b.toNat) ps0).bind fun (len, ps1) =>
      (optField (pres.getLsbD 1) 1 (byte1 boolField) ps1).bind fun (retain, ps2) =>
      if ps2.isEmpty then some (len, retain) else none
    else none

/-- POSTURE SET's settings (R120). -/
structure PostureEdit where
  sampleInterval : Option Nat
  foldLimit : Option Nat
  openLimit : Option Nat
  debounce : Option Nat
  reportMode : Option ReportMode
  deriving DecidableEq, Repr

/-- POSTURE SET's settings, each in its range; at least one is carried (R120). -/
def postureSetParams : List Byte → Option PostureEdit
  | [] => none
  | pres :: ps0 =>
    if presenceOk pres 5 && pres ≠ 0 then
      (optField (pres.getLsbD 0) 1 (byte1 fun b => inRange 1 64 b.toNat) ps0).bind fun (sampleInterval, ps1) =>
      (optField (pres.getLsbD 1) 2 (byte2 (inRange 1 4094)) ps1).bind fun (foldLimit, ps2) =>
      (optField (pres.getLsbD 2) 2 (byte2 (inRange 1 4094)) ps2).bind fun (openLimit, ps3) =>
      (optField (pres.getLsbD 3) 1 (byte1 fun b => inRange 1 15 b.toNat) ps3).bind fun (debounce, ps4) =>
      (optField (pres.getLsbD 4) 1 (byte1 reportModeField) ps4).bind fun (reportMode, ps5) =>
      if ps5.isEmpty then some { sampleInterval, foldLimit, openLimit, debounce, reportMode } else none
    else none

/-- A Prepare Window is 0 to 510 ms in steps of 2 ms (R124, R148). -/
def prepareWindowField (n : Nat) : Option Nat := if n ≤ 510 ∧ n % 2 = 0 then some n else none

/-- TRANSITION SET's settings; at least one is carried (R148). -/
def transitionSetParams : List Byte → Option (Option Nat × Option Nat)
  | [] => none
  | pres :: ps0 =>
    if presenceOk pres 2 && pres ≠ 0 then
      (optField (pres.getLsbD 0) 2 (byte2 prepareWindowField) ps0).bind fun (window, ps1) =>
      (optField (pres.getLsbD 1) 1 (byte1 fun b => inRange 0 7 b.toNat) ps1).bind fun (hold, ps2) =>
      if ps2.isEmpty then some (window, hold) else none
    else none

/-- ZONE TABLE's layout and entries; at least one entry is carried (R154). -/
def zoneTableParams : List Byte → Option (Layout × Option Bool × Option Bool × Option Bool)
  | lb :: pres :: ps0 =>
    if presenceOk pres 3 && pres ≠ 0 then
      (layoutField lb).bind fun layout =>
      (optField (pres.getLsbD 0) 1 (byte1 boolField) ps0).bind fun (rear, ps1) =>
      (optField (pres.getLsbD 1) 1 (byte1 boolField) ps1).bind fun (spine, ps2) =>
      (optField (pres.getLsbD 2) 1 (byte1 boolField) ps2).bind fun (front, ps3) =>
      if ps3.isEmpty then some (layout, rear, spine, front) else none
    else none
  | _ => none

/-- An Activity Mask; a set bit among bits 3 to 7 is out of range (R186). -/
def maskField (b : Byte) : Option (BitVec 3) := if b.toNat < 8 then some (b.truncate 3) else none

/-- ZONE IDLE's zone and settings: Idle Limit, Activity Mask, Dim Level; at least one is carried (R157). -/
def zoneIdleParams : List Byte → Option (Zone × Option Nat × Option (BitVec 3) × Option Nat)
  | zb :: pres :: ps0 =>
    if presenceOk pres 3 && pres ≠ 0 then
      (zoneField zb).bind fun zone =>
      (optField (pres.getLsbD 0) 1 (byte1 fun b => some b.toNat) ps0).bind fun (limit, ps1) =>
      (optField (pres.getLsbD 1) 1 (byte1 maskField) ps1).bind fun (mask, ps2) =>
      (optField (pres.getLsbD 2) 1 (byte1 fun b => some b.toNat) ps2).bind fun (dim, ps3) =>
      if ps3.isEmpty then some (zone, limit, mask, dim) else none
    else none
  | _ => none

/-- KEEPOUT SET's index and entry (R11, R13). -/
def keepOutSetParams : List Byte → Option (Fin 8 × KeepOut)
  | [i, k, bc, br, lc, lr] =>
    if h : i.toNat < 8 then
      (keepOutKindField k).bind fun kind =>
      let r : Rect := { baseCol := bc.toNat, baseRow := br.toNat, limitCol := lc.toNat, limitRow := lr.toNat }
      if r.onPanel then some (⟨i.toNat, h⟩, { kind, rect := r }) else none
    else none
  | _ => none

/-- KEEPOUT CLEAR's index, or none for ALL (R14). -/
def keepOutClearParams : List Byte → Option (Option (Fin 8))
  | [i] => if h : i.toNat < 8 then some (some ⟨i.toNat, h⟩) else if i = 0xFF#8 then some none else none
  | _ => none

end Sys2Proof.Machine
end

