-- ==== Sys2Proof/Machine/Flags.lean ====
section
/-! DEFINITION. The event flags, the mask, NOTIFY and the port status byte (R182, R183, R186). -/

namespace Sys2Proof.Machine

/-- The fourteen event flags (R182). -/
inductive EventFlag where
  | transitionStarted
  | transitionDone
  | transitionCancelled
  | prepareExpired
  | commitDone
  | commitFailed
  | conflictSuppressed
  | regionStale
  | streamAborted
  | zoneTripped
  | postureChanged
  | sensorLost
  | scanSubstituted
  | portOverrun
  deriving DecidableEq, Repr

/-- The place of a flag (R186). -/
def EventFlag.place : EventFlag → Nat
  | .transitionStarted => 0
  | .transitionDone => 1
  | .transitionCancelled => 2
  | .prepareExpired => 3
  | .commitDone => 4
  | .commitFailed => 5
  | .conflictSuppressed => 6
  | .regionStale => 7
  | .streamAborted => 8
  | .zoneTripped => 9
  | .postureChanged => 10
  | .sensorLost => 11
  | .scanSubstituted => 12
  | .portOverrun => 13

/-- The number with a 1 in the flag's place alone. -/
def EventFlag.bit (f : EventFlag) : BitVec 14 := BitVec.ofNat 14 (2 ^ f.place)

/-- A reset input is asserted. -/
def State.inReset (s : State) : Bool := s.pins.resetn || s.pins.drstn

/-- Set an event flag; while a reset input is asserted no flag is set (R182, R185). -/
def State.setFlag (f : EventFlag) (s : State) : State :=
  if s.inReset then s else { s with port := { s.port with flags := s.port.flags ||| f.bit } }

/-- A flag is set. -/
def State.flag (f : EventFlag) (s : State) : Bool := s.port.flags.getLsbD f.place

/-- NOTIFY is asserted while a flag is set whose enable is set (R183). -/
def State.notify (s : State) : Bool := decide (s.port.flags &&& s.port.mask ≠ 0)

/-- A one-bit number in a byte. -/
def bitByte (b : Bool) (place : Nat) : Byte := if b then BitVec.ofNat 8 (2 ^ place) else 0

/-- The port status byte (R181, R186). -/
def State.portStatus (s : State) : Byte :=
  bitByte s.port.request.isSome 0 ||| bitByte s.port.response.isSome 1 ||| bitByte s.port.overrun 2
    ||| bitByte s.notify 3

/-- The event flags as a 16-bit number, bits 14 and 15 reading 0 (R186). -/
def State.flagWord (s : State) : BitVec 16 := s.port.flags.zeroExtend 16

end Sys2Proof.Machine
end

