-- ==== Sys2Proof/Machine/Maps.lean ====
section
/-! DEFINITION. What a build makes of its snapshot: candidate placements, conflicts, suppression,
ownership, Changed marks and binding lists (R54 to R62), and how a map is read. -/

namespace Sys2Proof.Machine

/-- The placement part of a content for a layout (R19). -/
def Content.part (c : Content) : Layout → Option Part
  | .folded => c.folded
  | .unfolded => c.unfolded

/-- The live placement of a record for a layout. -/
def Record.livePart (r : Record) (layout : Layout) : Option Part :=
  r.live.bind fun c => c.part layout

/-! ## Reading a map -/

/-- The entry of a tile (R45). -/
def Map.entry (m : Map) (t : Nat) : TileEntry := (m.tiles.lookup t).getD TileEntry.empty

/-- The Owner of a tile (R45). -/
def Map.owner (m : Map) (t : Nat) : Option Slot := (m.entry t).owner

/-- The Changed mark of a tile (R45). -/
def Map.changed (m : Map) (t : Nat) : Bool := (m.entry t).changed

/-- The number of tiles a record owns in a map (R22). -/
def Map.ownedCount (m : Map) (i : Slot) : Nat := m.tiles.countP fun e => e.2.owner = some i

/-- A tile with this Owner is Changed in the map (R67). -/
def Map.changedOwnedBy (m : Map) (o : Option Slot) : Bool :=
  m.tiles.any fun e => e.2.changed && e.2.owner = o

/-- The canonical form of a map's tile entries: tile numbers strictly rising and on the panel, no entry
equal to what an unlisted tile reads as. -/
def Map.wf (m : Map) : Bool :=
  risingKeys m.tiles && m.tiles.all fun e => decide (e.1 < Config.tileCount ∧ e.2 ≠ TileEntry.empty)

/-! ## Contributions -/

/-- A record is committable (R53). -/
def Record.committable (r : Record) : Bool := r.commitPending && !r.inBuild

/-- Pending content taken with In Build set, or leaving where Retire Pending is set (R32). -/
def Record.pendingContribution (r : Record) : Contribution :=
  if r.retirePending then .leaving
  else match r.pending with
    | some c => .taken c true
    | none => .absent

/-- Live content taken, the record not included (R32). -/
def Record.liveContribution (r : Record) : Contribution :=
  match r.live with
  | some c => .taken c false
  | none => .absent

/-- What a slot contributes to a COMMIT build (R54). -/
def Record.commitContribution (r : Record) : Contribution :=
  match r.lifecycle with
  | .staged => r.pendingContribution
  | .inService =>
    if r.commitPending then r.pendingContribution
    else match r.showing, r.live with
      | .suppressed, some c => .carried c
      | _, _ => r.liveContribution
  | .free => .absent
  | .quarantine => .absent

/-- An Ephemeral record that a TARGET build excludes (R55). -/
def Record.excluded (r : Record) : Bool :=
  r.lifecycle = .inService && r.showing = .shown && (r.live.any fun c => c.attributes.ephemeral)

/-- What a slot contributes to a TARGET build, with Commit Joined as given (R55). -/
def Record.targetContribution (joined : Bool) (r : Record) : Contribution :=
  if r.excluded then .excluded
  else match r.lifecycle with
    | .staged => if joined && r.committable then r.pendingContribution else .absent
    | .inService => if joined && r.committable then r.pendingContribution else r.liveContribution
    | .free => .absent
    | .quarantine => .absent

/-- What a slot contributes to a RESTORE build (R56). -/
def Record.restoreContribution (r : Record) : Contribution :=
  match r.lifecycle with
  | .inService => r.liveContribution
  | .staged => .absent
  | .free => .absent
  | .quarantine => .absent

/-- What a slot contributes to a build of a kind (R54, R55, R56). -/
def Record.contribution (kind : BuildKind) (joined : Bool) (r : Record) : Contribution :=
  match kind with
  | .commit => r.commitContribution
  | .target => r.targetContribution joined
  | .restore => r.restoreContribution

/-- The contribution sets In Build: the record is included in the build (R33). -/
def Contribution.included : Contribution → Bool
  | .leaving => true
  | .taken _ inc => inc
  | .absent => false
  | .excluded => false
  | .carried _ => false

/-- The candidate placement a contribution gives in a layout, before suppression (R57). -/
def Contribution.candidate (layout : Layout) : Contribution → Option Part
  | .taken c _ => c.part layout
  | .leaving => none
  | .absent => none
  | .excluded => none
  | .carried _ => none

/-- The candidate placements in a layout, in ascending Region ID, before R59 suppresses (R57). -/
def Build.candidates (b : Build) (layout : Layout) : List (Slot × Part) :=
  slotList.filterMap fun i => (b.snapshot[i].candidate layout).map fun p => (i, p)

/-! ## Overlap, validation and suppression -/

/-- Two placements for one layout overlap (R57). -/
def Part.overlaps (a b : Part) : Bool :=
  a.face = b.face && a.zLevel = b.zLevel && a.rect.meets b.rect

/-- The placements of two slots overlap in a layout. -/
def Build.overlapIn (b : Build) (layout : Layout) (i j : Slot) : Bool :=
  match b.snapshot[i].candidate layout, b.snapshot[j].candidate layout with
  | some p, some q => p.overlaps q
  | _, _ => false

/-- The pairs of slots in ascending lower Region ID, then ascending higher Region ID (R58). -/
def slotPairs : List (Slot × Slot) :=
  slotList.flatMap fun i => (slotList.filter fun j => i < j).map fun j => (i, j)

/-- The first pair found in conflict in either layout (R58). -/
def Build.conflict (b : Build) : Option (Slot × Slot) :=
  slotPairs.find? fun p => b.overlapIn .folded p.1 p.2 || b.overlapIn .unfolded p.1 p.2

/-- Keep each placement that overlaps no lower-numbered kept one (R59). -/
def keepFree (kept : List (Slot × Part)) : List (Slot × Part) → List (Slot × Part)
  | [] => kept
  | x :: rest => if kept.any (fun k => k.2.overlaps x.2) then keepFree kept rest else keepFree (kept ++ [x]) rest

/-- The candidates of the map: in a TARGET or RESTORE build less those that R59 suppresses (R57). -/
def Build.kept (b : Build) : List (Slot × Part) :=
  match b.kind with
  | .commit => b.candidates b.layout
  | .target => keepFree [] (b.candidates b.layout)
  | .restore => keepFree [] (b.candidates b.layout)

/-- A record is a candidate of the map. -/
def Build.isKept (b : Build) (i : Slot) : Bool := b.kept.any fun k => k.1 = i

/-- R59 suppressed the record for this map. -/
def Build.suppressedNow (b : Build) (i : Slot) : Bool :=
  (b.snapshot[i].candidate b.layout).isSome && !b.isKept i

/-- The record is carried as suppressed by a COMMIT build (R54). -/
def Build.isCarried (b : Build) (i : Slot) : Bool :=
  match b.snapshot[i] with
  | .carried _ => true
  | _ => false

/-- The build suppressed at least one record (R59). -/
def Build.anySuppressed (b : Build) : Bool := slotList.any fun i => b.suppressedNow i

/-- The Showing that the swap of the map gives a record (R66). -/
def Build.showing (b : Build) (i : Slot) : Showing :=
  if b.suppressedNow i || b.isCarried i then .suppressed
  else if b.isKept i then .shown
  else .parked

/-! ## The map -/

/-- Of the placements given, the one with the highest Z Level; the first of equals (R60, R171). -/
def pickTop (ps : List (Slot × Part)) : Option (Slot × Part) :=
  ps.foldl (fun best x =>
    match best with
    | none => some x
    | some t => if t.2.zLevel < x.2.zLevel then some x else some t) none

/-- The Owner that ownership resolution decides for a tile (R60). -/
def Build.ownerAt (b : Build) (t : Nat) : Option Slot :=
  (pickTop (b.kept.filter fun k =>
    (b.geometry.physicalRect k.2.face k.2.rect).contains (tileCol t) (tileRow t))).map (·.1)

/-- The entry of a tile in the map being built (R60, R61). -/
def Build.entryAt (b : Build) (t : Nat) : TileEntry :=
  { owner := b.ownerAt t, changed := decide (b.ownerAt t ≠ b.reference.owner t) }

/-- The binding that a candidate placement gives to a stream, if its source names the stream (R46, R62). -/
def Part.binding (g : Geometry) (n : Fin 8) (i : Slot) (p : Part) : Option Binding :=
  match p.source with
  | .stream m oc orow =>
    if m = n then
      some { region := i, originCol := oc, originRow := orow, width := p.rect.width,
             height := p.rect.height, baseCol := p.rect.baseCol, baseRow := p.rect.baseRow,
             translation := g.translation p.face }
    else none
  | .fill _ => none

/-- The map that a build makes (R60, R61, R62). It is opened by its equation alone, since it holds an entry for
each tile of the panel. -/
@[irreducible] def Build.map (b : Build) : Map :=
  { layout := b.layout
    tiles := (List.range Config.tileCount).filterMap fun t =>
      if b.entryAt t = TileEntry.empty then none else some (t, b.entryAt t)
    bindings := Vec.tabulate fun n => b.kept.filterMap fun k => k.2.binding b.geometry n k.1 }

/-! ## Routing through a map -/

/-- A binding's source rectangle covers a stream tile (R79). -/
def Binding.covers (b : Binding) (s t : Nat) : Bool :=
  decide (b.originCol ≤ s ∧ s < b.originCol + b.width ∧ b.originRow ≤ t ∧ t < b.originRow + b.height)

/-- The physical tile of a covered stream tile (R46, R79). -/
def Binding.tile (b : Binding) (s t : Nat) : Nat :=
  tileAt (b.translation.physical (b.baseCol + s - b.originCol)) (b.baseRow + t - b.originRow)

end Sys2Proof.Machine
end

