-- ==== Sys2Proof/Machine/Ops.lean ====
section
/-! DEFINITION. The named operations on the state that several commands share: records, zones and their
messages, the fill queue, the tests of a tile write, build claims and builds, and transitions. -/

namespace Sys2Proof.Machine

/-! ## Records -/

/-- The active layout is the layout of the ACTIVE map (R45). -/
def State.activeLayout (s : State) : Layout := s.engine.active.layout

/-- The record in a slot. -/
def State.record (s : State) (i : Slot) : Record := s.table.slots[i]

/-- Change the record in one slot. -/
def State.updRecord (i : Slot) (f : Record → Record) (s : State) : State :=
  { s with table := { s.table with slots := Vec.modify s.table.slots i f } }

/-- Change every record. -/
def State.mapRecords (f : Slot → Record → Record) (s : State) : State :=
  { s with table := { s.table with slots := Vec.tabulate fun i => f i s.table.slots[i] } }

/-- Set a record's stale count (R86). -/
def State.setStaleCount (i : Slot) (n : Nat) (s : State) : State :=
  { s with router := { s.router with staleCounts := Vec.modify s.router.staleCounts i fun _ => n } }

/-- The live placement of a record for the active layout. -/
def State.activePart (s : State) (i : Slot) : Option Part := (s.record i).livePart s.activeLayout

/-- The record is IN_SERVICE and SHOWN. -/
def State.isShown (s : State) (i : Slot) : Bool :=
  (s.record i).lifecycle = .inService && (s.record i).showing = .shown

/-- At least one record is committable (R53). -/
def State.anyCommittable (s : State) : Bool := slotList.any fun i => (s.record i).committable

/-- A build claim of any kind waits (R4, R51). -/
def Claims.waits (c : Claims) : Bool := c.restore || c.target.isSome || c.commitLatch

/-- The Geometry Lock (R4). -/
def State.geometryLock (s : State) : Bool :=
  (slotList.any fun i => (s.record i).lifecycle = .staged || (s.record i).lifecycle = .inService)
    || (match s.engine.phase with
        | .building _ => true
        | .ready _ _ => true
        | .idle => false
        | .draining _ _ => false)
    || s.engine.claims.waits

/-! ## Zones and their messages -/

/-- The state of a zone. -/
def State.zoneState (s : State) (z : Zone) : ZoneState := s.zones.zone.get z

/-- Change the state of a zone. -/
def State.updZone (z : Zone) (f : ZoneState → ZoneState) (s : State) : State :=
  { s with zones := { s.zones with zone := s.zones.zone.set z (f (s.zones.zone.get z)) } }

/-- The zone-control message that a zone wants (R153). -/
def ZoneState.wanted (z : ZoneState) : Message :=
  match z.mode with
  | .on => { on := true, brightness := 255 }
  | .dim => { on := true, brightness := z.dimLevel }
  | .off => { on := false, brightness := 0 }
  | .tripped => { on := false, brightness := 0 }

/-- Place a zone's wanted message in its slot, replacing an unsent one; while a reset input is asserted
no message is placed (R95, R153, R165). -/
def State.placeMessage (z : Zone) (s : State) : State :=
  if s.inReset then s
  else { s with link := { s.link with slots := s.link.slots.set z (some (s.zoneState z).wanted) } }

/-- The entry of the zone mode table, true for ON (R154). -/
def State.tableEntry (s : State) (layout : Layout) (z : Zone) : Bool :=
  match layout with
  | .folded => s.zones.foldedTable.get z
  | .unfolded => s.zones.unfoldedTable.get z

/-- The idle timer as a start or restart leaves it: it does not run while the Idle Limit is 0 (R155). -/
def ZoneState.startedTimer (z : ZoneState) : Option Nat := if z.idleLimit = 0 then none else some z.idleLimit

/-- The zone set to ON, its idle timer started (R155). -/
def ZoneState.turnOn (z : ZoneState) : ZoneState := { z with mode := .on, idleTimer := z.startedTimer }

/-- The zone set to a dark or dimmed mode, its idle timer stopped (R155). -/
def ZoneState.leaveOn (mode : ZoneMode) (z : ZoneState) : ZoneState := { z with mode, idleTimer := none }

/-- The zone set to ON or OFF by the table or by software (R155, R158). -/
def ZoneState.setTo (on : Bool) (z : ZoneState) : ZoneState := if on then z.turnOn else z.leaveOn .off

/-- The kinds of activity (section 8.4). -/
inductive Activity where
  | stream
  | fill
  | lookup
  deriving DecidableEq, Repr

/-- The place of a kind of activity in the Activity Mask (R186). -/
def Activity.place : Activity → Nat
  | .stream => 0
  | .fill => 1
  | .lookup => 2

/-- The Activity Mask admits a kind (R155). -/
def ZoneState.admits (z : ZoneState) (a : Activity) : Bool := z.activityMask.getLsbD a.place

/-- An activity is reported in a zone: in ON an admitted one restarts the idle timer, in DIM it returns
the zone to ON and places the message; while a reset input is asserted none is taken (R155, R156, R165). -/
def State.activity (a : Activity) (z : Zone) (s : State) : State :=
  if s.inReset || !(s.zoneState z).admits a then s
  else match (s.zoneState z).mode with
    | .on => s.updZone z ZoneState.turnOn
    | .dim => (s.updZone z ZoneState.turnOn).placeMessage z
    | .off => s
    | .tripped => s

/-- A zone trips: TRIPPED, timer stopped, Trip Count advanced up to 255, message placed, ZONE_TRIPPED
set; while DRSTN is asserted the flag waits for its release and no message is placed (R159, R165). -/
def State.trip (z : Zone) (s : State) : State :=
  let t := s.updZone z fun q =>
    { q with mode := .tripped, idleTimer := none, tripCount := if q.tripCount < 255 then q.tripCount + 1 else 255 }
  let u := { t with zones := { t.zones with tripDeferred := t.zones.tripDeferred || s.inReset } }
  (u.placeMessage z).setFlag .zoneTripped

/-! ## The fill queue -/

/-- Queue a job at the back, unless its key already waits (R101). -/
def State.queueJob (k : Key) (s : State) : State :=
  if k ∈ s.fill.queue then s else { s with fill := { s.fill with queue := s.fill.queue ++ [k] } }

/-- The BLANK job joins the front, or is moved there (R101). -/
def State.queueBlank (s : State) : State :=
  { s with fill := { s.fill with queue := .blank :: s.fill.queue.filter fun k => k ≠ .blank } }

/-- Stop the job in progress and withdraw its waiting write (R105, R106). -/
def State.stopJob (s : State) : State :=
  { s with fill := { s.fill with job := none }, link := { s.link with fillWaiting := none } }

/-- The job in progress has the key. -/
def State.jobIs (s : State) (k : Key) : Bool := s.fill.job.any fun j => j.key = k

/-- Remove a key's waiting job, and stop its job in progress without queuing it again (R106). -/
def State.removeJob (k : Key) (s : State) : State :=
  let t := { s with fill := { s.fill with queue := s.fill.queue.filter fun q => q ≠ k } }
  if s.jobIs k then t.stopJob else t

/-- The Fill Writer is idle: no job in progress and none waiting (R101). -/
def State.fillIdle (s : State) : Bool := s.fill.job.isNone && s.fill.queue.isEmpty

/-- The background colour of a layout (R107). -/
def Fill.background (f : Fill) : Layout → Colour
  | .folded => f.foldedColour
  | .unfolded => f.unfoldedColour

/-! ## The tests of a tile write -/

/-- The TARGET map that waits READY in the SHADOW bank (R45). -/
def State.targetMap (s : State) : Option Map :=
  match s.engine.phase with
  | .ready b m => if b.kind = .target then some m else none
  | .idle => none
  | .building _ => none
  | .draining _ _ => none

/-- The blanking test is on (R131). -/
def State.blankingOn (s : State) : Bool :=
  s.transition.state = .blanking || s.transition.state = .holding

/-- The blanking test holds the tile back (R131). -/
def State.heldBack (s : State) (t : Nat) : Bool :=
  s.blankingOn && s.targetMap.any fun m => m.changed t

/-- The mode of the zone that a tile lies in (R2). -/
def State.modeAt (s : State) (t : Nat) : ZoneMode := (s.zoneState (s.geometry.zoneOfTile t)).mode

/-- The write darkens: the BEND job's write while BEND Applied is set (R103). -/
def TileWrite.darkens (w : TileWrite) : Bool :=
  match w.kind with
  | .stream => false
  | .fill _ d => d

/-- The protection test fails for a write (R94). -/
def State.protectionFails (s : State) (w : TileWrite) : Bool :=
  heldByHole s.keepOuts w.tile
    || (s.sampler.bendApplied && coveredByBend s.keepOuts w.tile && !w.darkens)
    || decide (s.modeAt w.tile = .tripped)

/-- A write is a fill write of a job other than BLANK (R104). -/
def TileWrite.blankable (w : TileWrite) : Bool :=
  match w.kind with
  | .stream => false
  | .fill k _ => k ≠ .blank

/-- A waiting write is discarded when it is chosen for a grant (R94, R104). -/
def State.grantFails (s : State) (w : TileWrite) : Bool :=
  s.protectionFails w || (w.blankable && s.heldBack w.tile)

/-! ## Quarantine -/

/-- The record's fields on entry into QUARANTINE (R36). -/
def Record.quarantined (length : Nat) (r : Record) : Record :=
  { r with lifecycle := .quarantine, quarantineCount := length, pending := none, retirePending := false,
           commitPending := false, inBuild := false, stale := false, showing := .parked, ownedTiles := 0 }

/-- A record enters QUARANTINE: its fields, its fill job and its stale count (R36, R106). -/
def State.enterQuarantine (i : Slot) (s : State) : State :=
  ((s.updRecord i (Record.quarantined s.table.quarantineLength)).removeJob (.region i)).setStaleCount i 0

/-! ## Builds and claims -/

/-- A build starts: the engine is BUILDING with the snapshot, the translations' geometry and the
reference, and the records the build includes have In Build set (R49, R54, R55, R56). -/
def State.startBuild (kind : BuildKind) (layout : Layout) (s : State) : State :=
  let snapshot : Vector Contribution 32 :=
    Vec.tabulate fun i => (s.record i).contribution kind s.transition.commitJoined
  let b : Build := { kind, layout, snapshot, geometry := s.geometry, reference := s.engine.active }
  let t := { s with engine := { s.engine with phase := .building b } }
  t.mapRecords fun i r => { r with inBuild := r.inBuild || snapshot[i].included }

/-- Change the waiting claims. -/
def State.updClaims (f : Claims → Claims) (s : State) : State :=
  { s with engine := { s.engine with claims := f s.engine.claims } }

/-- The COMMIT latch is taken: a COMMIT build starts, or with nothing to commit COMMIT_DONE is set (R53). -/
def State.takeLatch (s : State) : State :=
  let t := s.updClaims fun c => { c with commitLatch := false }
  if s.anyCommittable then t.startBuild .commit s.activeLayout else t.setFlag .commitDone

/-- The TARGET claim is taken: its build starts, and with Commit Joined set it absorbs the COMMIT latch
(R55). -/
def State.takeTarget (layout : Layout) (s : State) : State :=
  (s.updClaims fun c =>
    { c with target := none, commitLatch := c.commitLatch && !s.transition.commitJoined }).startBuild .target layout

/-- On entering IDLE the engine takes one waiting claim: RESTORE, then TARGET, then COMMIT (R52). -/
def State.takeClaim (s : State) : State :=
  match s.engine.phase with
  | .idle =>
    if s.engine.claims.restore then
      (s.updClaims fun c => { c with restore := false }).startBuild .restore s.activeLayout
    else match s.engine.claims.target with
      | some layout => s.takeTarget layout
      | none => if s.engine.claims.commitLatch then s.takeLatch else s
  | .building _ => s
  | .ready _ _ => s
  | .draining _ _ => s

/-- The engine enters IDLE, the SHADOW bank empty, and takes a waiting claim (R52). -/
def State.enterIdle (s : State) : State :=
  { s with engine := { s.engine with phase := .idle } }.takeClaim

/-- A build that fails or is abandoned clears In Build on the records it included (R35). -/
def State.settleAbandoned (s : State) : State := s.mapRecords fun _ r => { r with inBuild := false }

/-- A cancel abandons the engine's TARGET work (R70). -/
def State.abandonTarget (s : State) : State :=
  let t := s.updClaims fun c => { c with target := none }
  match s.engine.phase with
  | .building b => if b.kind = .target then t.settleAbandoned.enterIdle else t
  | .ready b _ => if b.kind = .target then t.settleAbandoned.enterIdle else t
  | .idle => t
  | .draining _ _ => t

/-- A frame stamped with an epoch is open (R68, R85). -/
def State.frameOpenWith (s : State) (epoch : BitVec 16) : Bool :=
  s.router.streams.toList.any fun st => st.frame.any fun f => f.stamp = epoch

/-- The drain ends when no frame stamped with the held epoch remains open (R69). -/
def State.drainTest (s : State) : State :=
  match s.engine.phase with
  | .draining _ e => if s.frameOpenWith e then s else s.enterIdle
  | .idle => s
  | .building _ => s
  | .ready _ _ => s

/-! ## Transitions -/

/-- Change the Transition Controller's fields. -/
def State.updTransition (f : Transition → Transition) (s : State) : State :=
  { s with transition := f s.transition }

/-- PREPARE ends: the TARGET claim is raised and the state becomes BUILDING (R127). -/
def State.raiseTarget (s : State) : State :=
  ((s.updTransition fun t => { t with state := .building, prepareTimer := none }).updClaims
    fun c => { c with target := s.transition.target }).takeClaim

/-- The Pin allows a layout when it is none or equals it (R125). -/
def Transition.allows (t : Transition) (layout : Layout) : Bool :=
  match t.pin with
  | none => true
  | some p => p = layout

/-- A start is called for with a layout: from STEADY, for a layout that is not active and that the Pin
allows, a transition starts (R125). -/
def State.callStart (layout : Layout) (s : State) : State :=
  if s.transition.state = .steady ∧ layout ≠ s.activeLayout ∧ s.transition.allows layout then
    let t := (s.updTransition fun q =>
      { q with state := .prepare, target := some layout, waitingTarget := none, commitJoined := false,
               holdCount := 0, prepareTimer := some q.prepareWindow }).setFlag .transitionStarted
    if s.transition.prepareWindow = 0 then t.raiseTarget else t
  else s

/-- A record owns in the ACTIVE map a tile that is Changed in the target map (R141). -/
def State.ownsBlanked (s : State) (m : Map) (i : Slot) : Bool :=
  m.tiles.any fun e => e.2.changed && s.engine.active.owner e.1 = some i

/-- The record's placement for the active layout has a FILL source. -/
def State.hasFillSource (s : State) (i : Slot) : Bool :=
  (s.activePart i).any fun p =>
    match p.source with
    | .fill _ => true
    | .stream _ _ _ => false

/-- The recovery jobs of a cancel after BLANKING began (R141). -/
def State.queueRecovery (s : State) : State :=
  let regions := match s.targetMap with
    | some m => slotList.filter fun i => s.isShown i && s.hasFillSource i && s.ownsBlanked m i
    | none => []
  (regions.foldl (fun t i => t.queueJob (.region i)) s).queueJob .background

/-- A cancel (R140): recovery jobs, Prepare timer, engine, BLANK job, fields, event. -/
def State.cancel (s : State) : State :=
  let r := if s.blankingOn then s.queueRecovery else s
  ((r.abandonTarget.removeJob .blank).updTransition fun q =>
    { q with state := .steady, target := none, commitJoined := false, holdCount := 0,
             prepareTimer := none }).setFlag .transitionCancelled

/-- Act on a layout by the Transition State: start, cancel, or set or clear the Waiting Target (R126,
R143, R144). -/
def State.actOnLayout (layout : Layout) (s : State) : State :=
  match s.transition.state with
  | .steady => s.callStart layout
  | .prepare => if layout = s.activeLayout then s.cancel else s
  | .building => if layout = s.activeLayout then s.cancel else s
  | .blanking => if layout = s.activeLayout then s.cancel else s
  | .holding => if layout = s.activeLayout then s.cancel else s
  | .settling =>
    s.updTransition fun q =>
      { q with waitingTarget := if layout = s.activeLayout then none else some layout }

/-- A layout request of the Posture Sampler: recorded, then set aside under a Pin or acted on (R126). -/
def State.layoutRequest (layout : Layout) (s : State) : State :=
  if s.transition.pin.isSome then
    s.updTransition fun q => { q with lastRequest := some layout, setAside := true }
  else
    (s.updTransition fun q => { q with lastRequest := some layout, setAside := false }).actOnLayout layout

/-- SETTLING ends when the Fill Writer is idle; the Waiting Target is then taken (R137, R138). -/
def State.settleTest (s : State) : State :=
  if s.transition.state = .settling ∧ s.fillIdle then
    let t := (s.updTransition fun q => { q with state := .steady, target := none, waitingTarget := none }).setFlag
      .transitionDone
    match s.transition.waitingTarget with
    | some layout => t.callStart layout
    | none => t
  else s

/-- The Implied Layout (R118). -/
def Posture.implied : Posture → Option Layout
  | .folded => some .folded
  | .unfolded => some .unfolded
  | .partly => none
  | .unknown => none

end Sys2Proof.Machine
end

