-- ==== Sys2Proof/Machine/Link.lean ====
section
/-! DEFINITION. The link at the end of an event: the fill job offers its next tile, the router hands its
next write, the arbiter grants, packets that wait on the pixel input link are taken (R74 to R106). -/

namespace Sys2Proof.Machine

/-! ## What a fill job writes -/

/-- The FILL colour of a record's placement for the active layout. -/
def State.fillColour (s : State) (i : Slot) : Option Colour :=
  (s.activePart i).bind fun p =>
    match p.source with
    | .fill c => some c
    | .stream _ _ _ => none

/-- A region's colour (R103). -/
def State.regionColour (s : State) (i : Slot) : Option Colour :=
  if s.isShown i then
    (s.activePart i).bind fun p =>
      match p.source with
      | .fill c => some c
      | .stream _ _ _ =>
        (s.record i).live.bind fun c =>
          if (s.record i).stale && c.attributes.staleAction = .fill then some c.attributes.fallback else none
  else none

/-- The repaint of a tile from the ACTIVE map: the background where the Owner is 0, the owner's FILL
colour otherwise (R103). -/
def State.repaint (s : State) (t : Nat) : Option Colour :=
  match s.engine.active.owner t with
  | none => some (s.fill.background s.activeLayout)
  | some i => s.fillColour i

/-- The colour in which a job writes a tile; none where the tile is not in its set (R103). -/
def State.jobColour (s : State) (k : Key) (t : Nat) : Option Colour :=
  match k with
  | .region i => if s.engine.active.owner t = some i then s.regionColour i else none
  | .background =>
    if s.engine.active.owner t = none then some (s.fill.background s.activeLayout) else none
  | .blank =>
    match s.targetMap with
    | some m => if m.changed t then some (s.fill.background m.layout) else none
    | none => none
  | .bend =>
    if coveredByBend s.keepOuts t && !heldByHole s.keepOuts t then
      if s.sampler.bendApplied then some 0 else s.repaint t
    else none
  | .zone z => if s.geometry.zoneOfTile t = z then s.repaint t else none

/-- The fill tile write that a job makes of a tile in a colour (R103). -/
def State.jobWrite (s : State) (k : Key) (t : Nat) (c : Colour) : TileWrite :=
  { tile := t, pixels := solid c, kind := .fill k (decide (k = .bend) && s.sampler.bendApplied) }

/-- The write that a job offers for a tile: the tile is in its set and passes the skip tests (R102, R104). -/
def State.offerFor (s : State) (k : Key) (t : Nat) : Option TileWrite :=
  (s.jobColour k t).bind fun c =>
    if s.grantFails (s.jobWrite k t c) then none else some (s.jobWrite k t c)

/-- The first tile from a Position on that the job offers; past the last tile where there is none. -/
def State.nextOffer (s : State) (k : Key) : Nat → Nat → Nat
  | 0, p => p
  | n + 1, p => if (s.offerFor k p).isSome then p else s.nextOffer k n (p + 1)

/-- With no job in progress, the job at the front leaves the queue and starts at tile 0 (R102). -/
def State.startJob (s : State) : State :=
  match s.fill.job, s.fill.queue with
  | none, k :: rest => { s with fill := { s.fill with queue := rest, job := some { key := k, position := 0 } } }
  | _, _ => s

/-- The job in progress, no write of it waiting, advances to the next tile it offers (R97, R102). -/
def State.offerTile (s : State) : State :=
  match s.fill.job, s.link.fillWaiting with
  | some j, none =>
    let p := s.nextOffer j.key (Config.tileCount - j.position) j.position
    { s with fill := { s.fill with job := some { j with position := p } },
             link := { s.link with fillWaiting := if p < Config.tileCount then s.offerFor j.key p else none } }
  | _, _ => s

/-! ## What the router hands to the link -/

/-- Change a stream. -/
def State.updStream (n : Fin 8) (f : Stream → Stream) (s : State) : State :=
  { s with router := { s.router with streams := Vec.modify s.router.streams n f } }

/-- The frame timer starts or restarts with the Frame Timeout in force (R76, R78). -/
def Stream.restartTimer (timeout : Nat) (st : Stream) : Stream :=
  { st with frame := st.frame.map fun f => { f with timer := some timeout } }

/-- The router hands its next accepted write, if none waits (R81, R97). -/
def State.handWrite (s : State) : State :=
  match s.link.streamWaiting, s.router.handing with
  | none, w :: rest =>
    { s with link := { s.link with streamWaiting := some w }, router := { s.router with handing := rest } }
  | _, _ => s

/-- The run, routed or dropped, ends when its last tile has been dealt with; its stream's frame timer restarts with
the Frame Timeout then in force (R78). -/
def State.endRun (s : State) : State :=
  match s.router.run with
  | some { stream := n, tiles := [], routed := _ } =>
    if s.link.streamWaiting.isNone && s.router.handing.isEmpty then
      { s with router := { s.router with run := none } }.updStream n (Stream.restartTimer s.router.frameTimeout)
    else s
  | _ => s

/-- Everything that waits for the arbiter at this event is offered. -/
def State.offerAll (s : State) : State := s.startJob.offerTile.handWrite.endRun

/-! ## Arbitration -/

/-- The zone whose message goes first (R96). -/
def State.messageFirst (s : State) : Option (Zone × Message) :=
  match s.link.slots.rear, s.link.slots.spine, s.link.slots.front with
  | some m, _, _ => some (.rear, m)
  | none, some m, _ => some (.spine, m)
  | none, none, some m => some (.front, m)
  | none, none, none => none

/-- A zone-control message is granted: its slot empties (R95). -/
def State.grantMessage (z : Zone) (m : Message) (s : State) : State :=
  { s with link := { s.link with flight := some (.message z m), slots := s.link.slots.set z none } }

/-- The waiting stream tile write is granted, or discarded where it fails the protection test; a grant
made while a fill tile write waits advances the Fill Wait Count and reports an activity (R94, R96, R98). -/
def State.grantStream (w : TileWrite) (s : State) : State :=
  if s.grantFails w then { s with link := { s.link with streamWaiting := none } }
  else
    { s with link := { s.link with flight := some (.tile w), streamWaiting := none,
                                   fillWaitCount := if s.link.fillWaiting.isSome then s.link.fillWaitCount + 1
                                                    else s.link.fillWaitCount } }.activity
      .stream (s.geometry.zoneOfTile w.tile)

/-- The job in progress advances its Position by one tile (R102). -/
def State.advanceJob (s : State) : State :=
  { s with fill := { s.fill with job := s.fill.job.map fun j => { j with position := j.position + 1 } } }

/-- The waiting fill tile write is granted, or discarded where it fails the protection or the blanking
test; either way the job advances (R94, R96, R98, R102, R104). -/
def State.grantFill (w : TileWrite) (s : State) : State :=
  if s.grantFails w then { s with link := { s.link with fillWaiting := none } }.advanceJob
  else
    ({ s with link := { s.link with flight := some (.tile w), fillWaiting := none,
                                    fillWaitCount := 0 } }.advanceJob).activity
      .fill (s.geometry.zoneOfTile w.tile)

/-- One decision of the arbiter: none where the link is BUSY or nothing waits (R96). -/
def State.arbitrate (s : State) : Option State :=
  match s.link.flight with
  | some _ => none
  | none =>
    match s.messageFirst with
    | some (z, m) => some (s.grantMessage z m)
    | none =>
      match s.link.streamWaiting, s.link.fillWaiting with
      | some w, none => some (s.grantStream w)
      | none, some f => some (s.grantFill f)
      | some w, some f => if s.link.fillWaitCount < 8 then some (s.grantStream w) else some (s.grantFill f)
      | none, none => none

/-- Offer and grant until the link is BUSY or nothing waits. -/
def State.pump : Nat → State → State
  | 0, s => s.offerAll
  | n + 1, s =>
    match s.offerAll.arbitrate with
    | some t => t.pump n
    | none => s.offerAll

/-- A transfer in flight whose tile fails the protection test is aborted; the link becomes FREE (R94). -/
def State.abortTest (s : State) : State :=
  match s.link.flight with
  | some (.tile w) => if s.protectionFails w then { s with link := { s.link with flight := none } } else s
  | _ => s

/-- The link and the transition settle at the end of an event: abort, offers and grants, the end of
SETTLING. Each grant or discard but four takes a write the router has in hand. -/
def State.settleLink (s : State) : State := (s.abortTest.pump (s.router.handing.length + 4)).settleTest

/-! ## Packets of the pixel input link -/

/-- A frame with a stamp is reported closed to the engine when it has been removed (R85). -/
def State.closeFrame (n : Fin 8) (result : FrameResult) (s : State) : State :=
  (s.updStream n fun st => { st with frame := none, last := result }).drainTest

/-- A frame opens, stamped with the active epoch (R76). -/
def State.openFrame (n : Fin 8) (w h : Nat) (s : State) : State :=
  s.updStream n fun st =>
    { st with frame := some { stamp := s.engine.epoch, width := w, height := h, next := 0, malformed := false,
                              timer := some s.router.frameTimeout } }

/-- Record a Last Result alone. -/
def State.setResult (n : Fin 8) (result : FrameResult) (s : State) : State :=
  s.updStream n fun st => { st with last := result }

/-- FRAME BEGIN is taken (R76). -/
def State.takeFrameBegin (n : Fin 8) (w h : Nat) (s : State) : State :=
  if 1 ≤ w ∧ w ≤ 128 ∧ 1 ≤ h ∧ h ≤ 112 then
    match s.router.streams[n].frame with
    | some _ => (((s.updStream n fun st => { st with last := .aborted }).setFlag .streamAborted).openFrame n w h).drainTest
    | none => s.openFrame n w h
  else s.setResult n .malformed

/-- The tiles of a dropped run have still to be taken from the link, if it carries any (R77). -/
def State.dropRun (n : Fin 8) (tiles : List Pixels) (s : State) : State :=
  if tiles.isEmpty then s
  else { s with router := { s.router with run := some { stream := n, tiles, routed := false } } }

/-- The header of a TILE RUN is taken: ORPHAN on a CLOSED stream, dropped whole where out of order or out
of bounds, else routed. Either way the frame timer stops until the last tile has been dealt with, which in a run
without tiles is at once (R77, R78). -/
def State.takeTileRun (n : Fin 8) (start count : Nat) (tiles : List Pixels) (s : State) : State :=
  match s.router.streams[n].frame with
  | none => (s.setResult n .orphan).dropRun n tiles
  | some f =>
    if count = 0 ∨ 128 < count ∨ start ≠ f.next ∨ f.width * f.height < start + count then
      (s.updStream n fun st =>
        { st with frame := some { f with
            malformed := true, timer := if tiles.isEmpty then some s.router.frameTimeout else none } }).dropRun n tiles
    else
      { s with router := { s.router with run := some { stream := n, tiles, routed := true } } }.updStream n fun st =>
        { st with frame := some { f with timer := none } }

/-- The map of a stamp: the ACTIVE map, or the held map of a drain (R79). -/
def State.mapOf (s : State) (stamp : BitVec 16) : Option Map :=
  if stamp = s.engine.epoch then some s.engine.active
  else match s.engine.phase with
    | .draining m e => if stamp = e then some m else none
    | .idle => none
    | .building _ => none
    | .ready _ _ => none

/-- The binding list of a stream in the map of a stamp (R79, R88). -/
def State.bindingsOf (s : State) (stamp : BitVec 16) (n : Fin 8) : List Binding :=
  match s.mapOf stamp with
  | some m => m.bindings[n]
  | none => []

/-- A COMPLETE frame clears the stale count and Stale of the records bound in the frame's map that are
IN_SERVICE and SHOWN (R88). -/
def State.clearStale (bs : List Binding) (s : State) : State :=
  bs.foldl (fun t b =>
    if t.isShown b.region then
      (t.updRecord b.region fun r => { r with stale := false }).setStaleCount b.region 0
    else t) s

/-- FRAME END is taken (R83). -/
def State.takeFrameEnd (n : Fin 8) (s : State) : State :=
  match s.router.streams[n].frame with
  | none => s.setResult n .orphan
  | some f =>
    if f.malformed then s.closeFrame n .malformed
    else if f.next < f.width * f.height then s.closeFrame n .short
    else
      ((s.clearStale (s.bindingsOf f.stamp n)).updStream n fun st =>
        { st with completed := st.completed + 1 }).closeFrame n .complete

/-- The number of a stream; none above 7 (R74, R186). -/
def streamOf (b : Byte) : Option (Fin 8) := if h : b.toNat < 8 then some ⟨b.toNat, h⟩ else none

/-- A packet is taken; one with a stream above 7 or a length its header does not give is discarded (R74). -/
def State.takePacket (p : Packet) (s : State) : State :=
  match p with
  | .frameBegin b w h =>
    match streamOf b with
    | some n => s.takeFrameBegin n w.toNat h.toNat
    | none => s
  | .tileRun b start count tiles =>
    match streamOf b with
    | some n =>
      if tiles.length = count.toNat ∧ tiles.all (fun t => t.length = 256) then
        s.takeTileRun n start.toNat count.toNat tiles
      else s
    | none => s
  | .frameEnd b =>
    match streamOf b with
    | some n => s.takeFrameEnd n
    | none => s
  | .discarded => s

/-- The router can take a packet: the pixel input link is not held off by a waiting stream tile write,
and no run is being taken (R74, R97). -/
def State.linkOpen (s : State) : Bool := s.link.streamWaiting.isNone && s.router.run.isNone

/-- The packets that wait are taken in their order, each an event of its own, while the router can. -/
def State.takePackets : Nat → State → State
  | 0, s => s
  | n + 1, s =>
    if s.linkOpen then
      match s.router.linkQueue with
      | [] => s
      | p :: rest => ({ s with router := { s.router with linkQueue := rest } }.takePacket p).takePackets n
    else s

/-- The end of an event that the link takes part in: the link settles, then the packets that waited are taken. -/
def State.finish (s : State) : State := s.settleLink.takePackets s.router.linkQueue.length

/-- A packet arrives: it is discarded while a reset input is asserted; it is taken at once where the router can
take it and none waits before it; else it waits on the link (R74; log entry 5). -/
def State.packetArrives (p : Packet) (s : State) : State :=
  if s.inReset then s
  else if s.linkOpen && s.router.linkQueue.isEmpty then s.takePacket p
  else { s with router := { s.router with linkQueue := s.router.linkQueue ++ [p] } }

/-! ## Taking a tile -/

/-- The five tests of a candidate write of a tile from a frame stamped with an epoch, through the binding
of a region (R80). -/
def State.routes (s : State) (stamp : BitVec 16) (m : Map) (b : Binding) (t : Nat) : Bool :=
  decide (m.owner t = some b.region)
    && (decide (stamp = s.engine.epoch) || !s.engine.active.changed t)
    && !keptOut s.keepOuts s.sampler.bendApplied t
    && decide (s.modeAt t ≠ .tripped)
    && !s.heldBack t

/-- The stream tile write through a binding, mirrored where the binding's Mirror flag is set (R10, R81). -/
def Binding.write (b : Binding) (t : Nat) (px : Pixels) : TileWrite :=
  { tile := t, pixels := if b.translation.mirror then reverseRows px else px, kind := .stream }

/-- The writes of one tile that pass R80, in the order of the binding list (R79, R80, R81). -/
def State.tileWrites (s : State) (n : Fin 8) (f : Frame) (px : Pixels) : List TileWrite :=
  match s.mapOf f.stamp with
  | none => []
  | some m =>
    let c := f.next % f.width
    let r := f.next / f.width
    m.bindings[n].filterMap fun b =>
      if b.covers c r && s.routes f.stamp m b (b.tile c r) then some (b.write (b.tile c r) px) else none

/-- The router takes the next tile of the run, unless the link is held off: the tile of a routed run is tested and
handed on, that of a dropped run discarded (R77, R79, R80, R97; log entry 18). -/
def State.takeTile (s : State) : State :=
  match s.router.run, s.link.streamWaiting with
  | some { stream := n, tiles := px :: rest, routed := true }, none =>
    match s.router.streams[n].frame with
    | some f =>
      ({ s with router := { s.router with run := some { stream := n, tiles := rest, routed := true },
                                          handing := s.router.handing ++ s.tileWrites n f px } }.updStream n
        fun st => { st with frame := some { f with next := f.next + 1 } }).finish
    | none => s
  | some { stream := n, tiles := _ :: rest, routed := false }, none =>
    State.finish { s with router := { s.router with run := some { stream := n, tiles := rest, routed := false } } }
  | _, _ => s

end Sys2Proof.Machine
end

