-- ==== Sys2Proof/Machine/Swap.lean ====
section
/-! DEFINITION. The scan start: quarantine counts, Blank Hold, the swap of a READY map with all that it
settles, and stale counts (R38, R64 to R67, R86, R87, R105, R133 to R137). -/

namespace Sys2Proof.Machine

/-! ## Quarantine -/

/-- A slot in QUARANTINE loses one from its count and becomes FREE at 0 (R38). -/
def Record.quarantineTick (r : Record) : Record :=
  if r.lifecycle = .quarantine then
    if r.quarantineCount ≤ 1 then Record.free r.generation
    else { r with quarantineCount := r.quarantineCount - 1 }
  else r

/-- Every slot in QUARANTINE is counted (R38). -/
def State.quarantineTick (s : State) : State := s.mapRecords fun _ r => r.quarantineTick

/-! ## When a map swaps -/

/-- The Transition Controller orders the swap at this scan start (R133). -/
def State.swapOrdered (s : State) : Bool :=
  s.transition.state = .holding && s.transition.holdCount = s.transition.blankHold

/-- The READY map that swaps at this scan start: a COMMIT or RESTORE map, or an ordered TARGET map (R64). -/
def State.dueSwap (s : State) : Option (Build × Map) :=
  match s.engine.phase with
  | .ready b m =>
    match b.kind with
    | .commit => some (b, m)
    | .restore => some (b, m)
    | .target => if s.swapOrdered then some (b, m) else none
  | .idle => none
  | .building _ => none
  | .draining _ _ => none

/-- In HOLDING a scan start that orders no swap advances the Hold Count (R133). -/
def State.advanceHold (s : State) : State :=
  if s.transition.state = .holding && !s.swapOrdered then
    s.updTransition fun q => { q with holdCount := q.holdCount + 1 }
  else s

/-! ## The steps of a swap -/

/-- The Fill Writer stops the job in progress, withdraws its waiting write and queues it again (R105). -/
def State.requeueJob (s : State) : State :=
  match s.fill.job with
  | some j => s.stopJob.queueJob j.key
  | none => s

/-- The records that the swap of a build takes into QUARANTINE: included ones with Retire Pending set, and
the Ephemeral ones that the build excluded (R34, R135). -/
def State.leavers (s : State) (b : Build) : List Slot :=
  slotList.filter fun i =>
    ((s.record i).inBuild && (s.record i).retirePending) || decide (b.snapshot[i] = .excluded)

/-- An included record's pending copy becomes its live copy (R34). -/
def Record.committed (r : Record) : Record :=
  { r with lifecycle := .inService, live := r.pending, pending := none, stale := false,
           commitPending := false, inBuild := false }

/-- The Region Table settles the records at a swap; the stale counts of the included ones restart (R34, R36). -/
def State.settleRecords (b : Build) (s : State) : State :=
  let t := (s.leavers b).foldl (fun u i => u.enterQuarantine i) s
  let u := t.mapRecords fun _ r => if r.inBuild then r.committed else r
  { u with router := { u.router with
      staleCounts := Vec.tabulate fun i => if (s.record i).inBuild then 0 else u.router.staleCounts[i] } }

/-- The banks are exchanged, the epoch advances, and the map that was ACTIVE is held (R65, R68). -/
def State.exchange (m : Map) (s : State) : State :=
  { s with engine := { s.engine with epoch := s.engine.epoch + 1, active := m,
                                     phase := .draining s.engine.active s.engine.epoch } }

/-- Every IN_SERVICE record receives its Showing and Owned Tiles from the new map; the stale counts of
those that become SHOWN restart (R66). -/
def State.giveShowing (b : Build) (m : Map) (s : State) : State :=
  let t := s.mapRecords fun i r =>
    if r.lifecycle = .inService then { r with showing := b.showing i, ownedTiles := m.ownedCount i } else r
  { t with router := { t.router with
      staleCounts := Vec.tabulate fun i => if t.isShown i && !s.isShown i then 0 else t.router.staleCounts[i] } }

/-- The region keys of the jobs of a swap; included says which records the build included (R67). -/
def State.swapJobs (included : Slot → Bool) (m : Map) (s : State) : List Slot :=
  slotList.filter fun i => s.isShown i && s.hasFillSource i && (m.changedOwnedBy (some i) || included i)

/-- The jobs of a swap are queued: the region jobs, then BACKGROUND where a Changed tile has Owner 0 (R67). -/
def State.queueSwapJobs (included : Slot → Bool) (m : Map) (s : State) : State :=
  let t := (s.swapJobs included m).foldl (fun u i => u.queueJob (.region i)) s
  if m.changedOwnedBy none then t.queueJob .background else t

/-- The event flag that the engine sets at a swap (R67). -/
def State.swapFlag (b : Build) (s : State) : State :=
  match b.kind with
  | .commit => s.setFlag .commitDone
  | .target => if b.anySuppressed then s.setFlag .conflictSuppressed else s
  | .restore => if b.anySuppressed then s.setFlag .conflictSuppressed else s

/-- A zone that is not TRIPPED takes its entry of the zone mode table and places its message (R136). -/
def State.applyTable (layout : Layout) (z : Zone) (s : State) : State :=
  if (s.zoneState z).mode = .tripped then s
  else (s.updZone z (ZoneState.setTo (s.tableEntry layout z))).placeMessage z

/-- The Transition Controller's part of a TARGET swap: the zone modes, COMMIT_DONE for a joined commit,
and SETTLING (R134, R136). -/
def State.enterSettling (s : State) : State :=
  let t := zoneList.foldl (fun u z => u.applyTable u.activeLayout z) s
  let u := if t.transition.commitJoined then t.setFlag .commitDone else t
  u.updTransition fun q =>
    { q with state := .settling, waitingTarget := none, commitJoined := false, holdCount := 0 }

/-- A swap (R65 to R69, R105, R134): the job in progress, the records, the banks, the Showing, the jobs and
the flag, the transition, the drain, the test on entering SETTLING. -/
def State.swap (b : Build) (m : Map) (s : State) : State :=
  let t := ((s.requeueJob.settleRecords b).exchange m).giveShowing b m
  let u := (t.queueSwapJobs (fun i => (s.record i).inBuild) m).swapFlag b
  match b.kind with
  | .target => u.enterSettling.drainTest.settleTest
  | .commit => u.drainTest
  | .restore => u.drainTest

/-! ## Stale detection -/

/-- The Stale Limit of a record's live copy. -/
def State.staleLimit (s : State) (i : Slot) : Nat :=
  match (s.record i).live with
  | some c => c.attributes.staleLimit
  | none => 0

/-- The record's placement for the active layout has a STREAM source. -/
def State.hasStreamSource (s : State) (i : Slot) : Bool :=
  (s.activePart i).any fun p =>
    match p.source with
    | .stream _ _ _ => true
    | .fill _ => false

/-- A region is counted (R86). -/
def State.counted (s : State) (i : Slot) : Bool :=
  s.isShown i && decide (1 ≤ s.staleLimit i) && s.hasStreamSource i && !(s.record i).stale

/-- A region becomes Stale (R87). -/
def State.becomeStale (i : Slot) (s : State) : State :=
  let t := (s.updRecord i fun r => { r with stale := true }).setFlag .regionStale
  if (s.record i).live.any fun c => c.attributes.staleAction = .fill then t.queueJob (.region i) else t

/-- The stale count of a counted region advances by one, and at its Stale Limit the region becomes Stale (R86, R87).
That this is so for a Stale Limit of 1 also where a COMPLETE frame has just set the count to 0, of which R88 says that the
region does not become Stale, is the model's choice (log entry 27). -/
def State.staleTickAt (i : Slot) (s : State) : State :=
  if s.counted i then
    let n := s.router.staleCounts[i] + 1
    let t := s.setStaleCount i n
    if s.staleLimit i ≤ n then t.becomeStale i else t
  else s

/-- The stale counts of the regions given advance, in ascending Region ID (R86, R87). -/
def State.staleTick (eligible : Slot → Bool) (s : State) : State :=
  (slotList.filter eligible).foldl (fun t i => t.staleTickAt i) s

/-- A swap restarts the stale count of a region: it was included, or it became SHOWN (R34, R66, R86). -/
def State.restarted (before after : State) (i : Slot) : Bool :=
  (before.record i).inBuild || (after.isShown i && !before.isShown i)

/-! ## The scan start -/

/-- A scan start, real or substitute, as it acts on every block that takes it (R99). -/
def State.scanStart (s : State) : State :=
  let t := s.quarantineTick
  match t.dueSwap with
  | some (b, m) =>
    let u := t.swap b m
    (u.staleTick fun i => !State.restarted t u i).finish
  | none => (t.advanceHold.staleTick fun _ => true).finish

/-- The substitute timer restarts with the interval in force (R99, R100). -/
def State.restartSubstitute (s : State) : State := { s with link := { s.link with timer := some s.link.interval } }

end Sys2Proof.Machine
end

