-- ==== Sys2Proof/Machine/Requests.lean ====
section
/-! DEFINITION. How a held request is decided (R180), the bytes of the frames that the spec lays out (R186), and
how a transaction on a port becomes a command (R166, R179). -/

namespace Sys2Proof.Machine

/-- What the owner of a request makes of it: the state after it, the result and the response data. -/
structure Decision where
  state : State
  result : Result
  data : Data
  deriving DecidableEq, Repr

/-- A refused request changes nothing (section 10.1, Results). -/
def refused (result : Result) (s : State) : Decision := { state := s, result, data := .empty }

/-- A request answered OK whose effect is a state in which nothing of the link has to settle. -/
def answered (s : State) : Decision := { state := s, result := .ok, data := .empty }

/-- A request answered OK with effects that the link takes up at the same event. -/
def taken (s : State) : Decision := { state := s.finish, result := .ok, data := .empty }

/-- A request answered OK with data. -/
def reported (data : Data) (s : State) : Decision := { state := s, result := .ok, data }

/-- The response enters the response buffer, Request Held clears and Response Ready sets (R180). -/
def Decision.respond (d : Decision) (code : Byte) : State :=
  { d.state with port := { d.state.port with
      request := none, response := some { code, result := d.result, data := d.data } } }

/-- The held request is decided by its owner, if it is the request with this code (R180; log entry 3). -/
def decideRequest (code : Byte) (decision : List Byte → State → Decision) (s : State) :
    Host.Outcome State Fault Refusal :=
  match s.port.request with
  | some r => if r.code = code then .next ((decision r.params s).respond code) else .next s
  | none => .next s

/-- A request without parameters; any parameter is superfluous. That BAD_PARAM for it comes before the BUSY, BAD_STATE
or TOO_LATE that COMMIT, LAYOUT READY or TRANSITION ABORT gives in the state it meets is the model's choice (R53, R128,
R145, R186; log entry 11). -/
def withoutParams (decision : State → Decision) (ps : List Byte) (s : State) : Decision :=
  if ps.isEmpty then decision s else refused .badParam s

/-- The Request Codes of section 10.5. -/
def requestCodes : List Byte :=
  [0x01, 0x02, 0x03, 0x10, 0x11, 0x12, 0x13, 0x14, 0x20, 0x21, 0x22, 0x23, 0x24, 0x25, 0x26, 0x27, 0x30, 0x31,
   0x40, 0x41, 0x42, 0x43, 0x44, 0x50, 0x51, 0x60, 0x61, 0x62, 0x63, 0x64, 0x65, 0x70, 0x71, 0x72, 0x73, 0x74,
   0x80, 0x81]

/-- The commands that decide a held request, each with its Request Code (section 10.5). -/
def decisionCommands : List (Byte × Instr) :=
  [(0x01, .statusRead), (0x02, .eventClear), (0x03, .eventMask), (0x10, .geometrySet), (0x11, .geometryRead),
   (0x12, .keepoutSet), (0x13, .keepoutClear), (0x14, .keepoutRead), (0x20, .regionCreate), (0x21, .regionPlace),
   (0x22, .regionAttributes), (0x23, .regionRetire), (0x24, .regionDiscard), (0x25, .regionRead),
   (0x26, .regionList), (0x27, .tableSet), (0x30, .commit), (0x31, .mapRead), (0x40, .streamSet),
   (0x41, .streamRead), (0x42, .backgroundSet), (0x43, .scanSet), (0x44, .fillRead), (0x50, .postureSet),
   (0x51, .postureRead), (0x60, .layoutReady), (0x61, .layoutPin), (0x62, .layoutUnpin), (0x63, .transitionAbort),
   (0x64, .transitionSet), (0x65, .transitionRead), (0x70, .zoneMode), (0x71, .zoneTable), (0x72, .zoneIdle),
   (0x73, .zoneRestore), (0x74, .zoneRead), (0x80, .lookup), (0x81, .verify)]

/-! ## Bytes of the frames (R186) -/

/-- The byte of a result (R186). -/
def Result.byte : Result → Byte
  | .ok => 0x00
  | .accepted => 0x01
  | .busy => 0x02
  | .badRequest => 0x03
  | .badParam => 0x04
  | .badRegion => 0x05
  | .badState => 0x06
  | .noSlot => 0x07
  | .locked => 0x08
  | .tooLate => 0x09
  | .faultActive => 0x0A
  | .nothing => 0x0B

/-- The byte of a lookup status (R186). -/
def LookupStatus.byte : LookupStatus → Byte
  | .empty => 0x00
  | .hit => 0x01
  | .none => 0x02
  | .outOfRange => 0x03
  | .keepOut => 0x04
  | .zoneOff => 0x05
  | .blank => 0x06
  | .current => 0x07
  | .gone => 0x08
  | .rejected => 0x09

/-- The byte of a face in an answer frame (R186). -/
def faceByte : Option Face → Byte
  | none => 0x00
  | some .front => 0x01
  | some .spine => 0x02
  | some .rear => 0x03
  | some .whole => 0x04

/-- The byte of a layout (R186). -/
def layoutByte : Layout → Byte
  | .folded => 0x00
  | .unfolded => 0x01

/-- A 16-bit number, most significant byte first (R186). -/
def bytes16 (n : BitVec 16) : List Byte := [n.extractLsb' 8 8, n.extractLsb' 0 8]

/-- The answer frame, 12 bytes; the local coordinates are in two's complement (R186). -/
def Answer.frame (a : Answer) : List Byte :=
  [a.status.byte, BitVec.ofNat 8 a.region, a.generation, BitVec.ofNat 8 a.ownerToken, faceByte a.face]
    ++ bytes16 (BitVec.ofInt 16 a.localX) ++ bytes16 (BitVec.ofInt 16 a.localY)
    ++ [if a.inside then 0x01 else 0x00, a.epoch, layoutByte a.layout]

/-- The data bytes of a report that the spec does not lay out, at most room of them: free values, of the report alone
(R186; log entry 8). -/
def Data.freeBytes (d : Data) (room : Nat) : List Byte :=
  (List.range (min (Config.reportLength d) room)).map fun k => Config.reportByte d k

/-- The bytes of STATUS READ's data: the event flags as a 16-bit number in their places, bits 14 and 15 reading 0,
stand somewhere among bytes that the spec does not lay out (R184, R186; log entry 8). -/
def StatusReport.frame (r : StatusReport) : List Byte :=
  let free := (Data.status r).freeBytes 122
  free.take (Config.eventFlagsPlace r) ++ bytes16 (r.flags.zeroExtend 16) ++ free.drop (Config.eventFlagsPlace r)

/-- The bytes of response data: none, an answer frame, those of STATUS READ, or the free values of a report (R177,
R186; log entry 8). -/
def Data.frame (d : Data) : List Byte :=
  match d with
  | .empty => []
  | .answer a => a.frame
  | .status r => r.frame
  | _ => d.freeBytes 124

/-- The response frame: the code, the result, the Data Length and the data (R186). -/
def Response.frame (r : Response) : List Byte :=
  [r.code, r.result.byte, BitVec.ofNat 8 r.data.frame.length] ++ r.data.frame

/-- The status frame (R181, R186). -/
def statusFrame (portStatus : Byte) (flags : BitVec 16) : List Byte := portStatus :: bytes16 flags

/-- The byte k, counted from 0, that the part returns of a frame: 00H beyond its end (R167, R179). -/
def frameByte (frame : List Byte) (k : Nat) : Byte := frame.getD k 0x00

/-- The byte k that a control port transaction returned: 00H throughout, or the byte of its frame; none before the
first transaction (R179, R181; log entries 8 and 24). -/
def PortReturn.byte (r : PortReturn) (k : Nat) : Option Byte :=
  match r with
  | .none => Option.none
  | .zeros => some 0x00
  | .response f => some (frameByte f.frame k)
  | .status portStatus flags => some (frameByte (statusFrame portStatus flags) k)

/-- The byte k that the last read of the lookup port returned (R167). -/
def LookupUnit.returnedByte (u : LookupUnit) (k : Nat) : Option Byte := u.returned.map fun a => frameByte a.frame k

/-! ## Transactions on the ports -/

/-- A transaction gives its command, where it has one, at the moment that fixes its outcome; early are the commands
that come from its start to that moment, late those from there to its end. One in progress when a reset input is
asserted is abandoned, and no command comes of it (R166, R179; log entry 19). -/
def State.transaction (early late : List Instr) (command : Option Instr) (s : State) : State :=
  { s with pending :=
      s.pending ++ early ++ (if (early ++ late).any Instr.assertsReset then [] else command.toList) ++ late }

/-- A transaction of the control port with the bytes that software sends in it; early are the commands that come
before its first returned byte, late those that come after it. That byte fixes a RESPONSE and a STATUS, the release
any other transaction (R179, R180, R181). -/
def State.portTransaction (early late : List Instr) (bytes : List Byte) (s : State) : State :=
  if (transactionCommand bytes).any Instr.fixedByFirstByte then s.transaction early late (transactionCommand bytes)
  else s.transaction (early ++ late) [] (transactionCommand bytes)

/-- What decides whether the lookup port acknowledges an address: the reset inputs and its own address (R166). -/
structure Target where
  resetn : Bool
  drstn : Bool
  address : BitVec 7
  deriving DecidableEq, Repr

/-- The reset inputs and the address of the lookup port as they stand. -/
def State.target (s : State) : Target :=
  { resetn := s.pins.resetn, drstn := s.pins.drstn, address := s.lookup.address }

/-- The reset inputs and the address after a command: ADDRSEL is sampled when RESETN returns inactive, and the address
holds until the next RESETN (R166). -/
def Target.after (t : Target) : Instr → Target
  | .resetnAssert => { t with resetn := true }
  | .resetnRelease addrsel =>
    if t.resetn then { t with resetn := false, address := if addrsel then 0x3B else 0x3A } else t
  | .drstnAssert => { t with drstn := true }
  | .drstnRelease => { t with drstn := false }
  | _ => t

/-- The lookup port acknowledges an address on the bus once the commands that wait have been taken: its own alone, and
none while a reset input is asserted (R166, R178). -/
def State.acknowledges (address : BitVec 7) (s : State) : Bool :=
  let t := s.pending.foldl Target.after s.target
  !t.resetn && !t.drstn && decide (address = t.address)

/-- A write on the bus of the lookup port, to an address, with the bytes it carries after it: where the port
acknowledges the address the lookup is taken at the event that ends the write; else nothing comes of it (R166). -/
def State.lookupWrite (address : BitVec 7) (during : List Instr) (bytes : List Byte) (s : State) : State :=
  s.transaction during [] (if s.acknowledges address then some (writeCommand bytes) else none)

/-- A read on the bus of the lookup port, from an address, and the commands that come while it runs: where the port
acknowledges the address the answer buffer gives up its answer as the read begins; a read in progress when a reset input
is asserted is abandoned without an answer, and the assertion empties the buffer (R166, R167). -/
def State.lookupRead (address : BitVec 7) (late : List Instr) (s : State) : State :=
  s.transaction [] late (if s.acknowledges address then some .answerRead else none)

/-- A write and a read joined by a repeated start, one transaction on the bus; during are the commands that come while
the write runs, late those that come while the read runs. The lookup is taken at the repeated start. Where the port has
acknowledged the write and a reset input is asserted while it runs, the whole is abandoned, the read too where the reset
has ended before the repeated start; at the repeated start of any other the port acknowledges its address or does not,
as for a read that stands alone (R166; log entry 28). -/
def State.lookupWriteRead (address : BitVec 7) (during late : List Instr) (bytes : List Byte) (s : State) : State :=
  if s.acknowledges address && during.any Instr.assertsReset then { s with pending := s.pending ++ during ++ late }
  else (s.lookupWrite address during bytes).lookupRead address late

end Sys2Proof.Machine
end

