-- ==== Sys2Proof/Machine/EngineFamily.lean ====
section
/-! DEFINITION. The commands of the Placement Engine: COMMIT, MAP READ and the completion of a build
(chapter 3), with the start of BLANKING (R130, R131). -/

namespace Sys2Proof.Machine

/-! ## COMMIT -/

/-- The engine is IDLE. -/
def State.engineIdle (s : State) : Bool := s.engine.phase = .idle

/-- A COMMIT taken in STEADY: merged with the latch, nothing to commit, built at once, or latched (R53). -/
def State.commitSteady (s : State) : Decision :=
  if s.engine.claims.commitLatch then { state := s, result := .accepted, data := .empty }
  else if !s.anyCommittable then answered s
  else if s.engineIdle then
    { state := s.startBuild .commit s.activeLayout, result := .accepted, data := .empty }
  else { state := s.updClaims fun c => { c with commitLatch := true }, result := .accepted, data := .empty }

/-- COMMIT's decision by the Transition State (R53, R129). -/
def commit : List Byte → State → Decision :=
  withoutParams fun s =>
    match s.transition.state with
    | .steady => s.commitSteady
    | .prepare =>
      { state := s.updTransition fun q => { q with commitJoined := true }, result := .accepted, data := .empty }
    | .building => refused .busy s
    | .blanking => refused .busy s
    | .holding => refused .busy s
    | .settling => refused .busy s

/-- COMMIT (R53). -/
def execCommit (s : State) : Host.Outcome State Fault Refusal := decideRequest 0x30 commit s

/-! ## MAP READ -/

/-- MAP READ's tile: its column and row, each on the panel (R71). -/
def mapReadParams : List Byte → Option Nat
  | [c, r] =>
    if c.toNat < Config.tileColumns ∧ r.toNat < Config.tileRows then some (tileAt c.toNat r.toNat) else none
  | _ => none

/-- MAP READ's data for a tile (R71). -/
def State.mapReport (s : State) (t : Nat) : MapReport :=
  { owner := ownerId (s.engine.active.owner t), changed := s.engine.active.changed t, epoch := s.engine.epoch,
    layout := s.activeLayout }

/-- MAP READ's decision (R71). -/
def mapRead (ps : List Byte) (s : State) : Decision :=
  match mapReadParams ps with
  | none => refused .badParam s
  | some t => reported (.map (s.mapReport t)) s

/-- MAP READ (R71). -/
def execMapRead (s : State) : Host.Outcome State Fault Refusal := decideRequest 0x31 mapRead s

/-! ## BUILD COMPLETE -/

/-- A COMMIT build fails on a conflict pair (R35, R58). -/
def State.failBuild (pair : Slot × Slot) (s : State) : State :=
  (({ s with engine := { s.engine with conflict := (regionId pair.1, regionId pair.2) } }.setFlag
    .commitFailed).settleAbandoned).enterIdle

/-- The engine enters READY with the built map (R63). -/
def State.becomeReady (b : Build) (s : State) : State :=
  { s with engine := { s.engine with phase := .ready b b.map } }

/-- The stream tile writes in hand whose tile is held back are discarded, and a stream transfer in flight to
such a tile is aborted (R131; log entry 17). -/
def State.dropHeldBack (s : State) : State :=
  { s with
    link := { s.link with
      streamWaiting := s.link.streamWaiting.filter fun w => !s.heldBack w.tile
      flight := match s.link.flight with
        | some (.tile w) => if w.kind = .stream ∧ s.heldBack w.tile then none else some (.tile w)
        | f => f }
    router := { s.router with handing := s.router.handing.filter fun w => !s.heldBack w.tile } }

/-- The target map is READY: BLANKING begins, the blanking test is applied to the stream writes in hand, and
the BLANK job joins the front of the queue (R130, R131). -/
def State.beginBlanking (s : State) : State :=
  ((s.updTransition fun q => { q with state := .blanking }).dropHeldBack).queueBlank

/-- A build in progress completes (R58, R63, R130). -/
def State.completeBuild (b : Build) (s : State) : State :=
  match b.kind with
  | .commit =>
    match b.conflict with
    | some pair => s.failBuild pair
    | none => s.becomeReady b
  | .target => ((s.becomeReady b).beginBlanking).finish
  | .restore => s.becomeReady b

/-- BUILD_COMPLETE; without a build in progress it does not arrive (R63; log entry 4). -/
def execBuildComplete (s : State) : Host.Outcome State Fault Refusal :=
  match s.engine.phase with
  | .building b => .next (s.completeBuild b)
  | .idle => .next s
  | .ready _ _ => .next s
  | .draining _ _ => .next s

end Sys2Proof.Machine
end

