-- ==== Sys2Proof/Machine/GeometryFamily.lean ====
section
/-! DEFINITION. The requests of the Geometry and Keep-Out Store (chapter 1). -/

namespace Sys2Proof.Machine

/-- The messages of all three zones are placed (R5, R164, R165). -/
def State.placeAllMessages (s : State) : State := zoneList.foldl (fun t z => t.placeMessage z) s

/-- GEOMETRY SET's values, each in its range (R3, R4). -/
def geometryParams : List Byte → Option Geometry
  | [a, b] =>
    let g : Geometry := { spineStart := a.toNat, spineWidth := b.toNat }
    if g.inRange then some g else none
  | _ => none

/-- The geometry record takes other values: zone messages and a BACKGROUND job (R5). -/
def State.changeGeometry (g : Geometry) (s : State) : State :=
  ({ s with geometry := g }.placeAllMessages).queueJob .background

/-- GEOMETRY SET's decision (R4, R5). -/
def geometrySet (ps : List Byte) (s : State) : Decision :=
  match geometryParams ps with
  | none => refused .badParam s
  | some g =>
    if s.geometryLock then refused .locked s
    else if g = s.geometry then answered s
    else taken (s.changeGeometry g)

/-- GEOMETRY SET (R4). -/
def execGeometrySet (s : State) : Host.Outcome State Fault Refusal := decideRequest 0x10 geometrySet s

/-- GEOMETRY READ's data (R6). -/
def State.geometryReport (s : State) : GeometryReport :=
  { spineStart := s.geometry.spineStart, spineWidth := s.geometry.spineWidth, widths := s.geometry.widths,
    locked := s.geometryLock }

/-- GEOMETRY READ's decision (R6). -/
def geometryRead : List Byte → State → Decision :=
  withoutParams fun s => reported (.geometry s.geometryReport) s

/-- GEOMETRY READ (R6). -/
def execGeometryRead (s : State) : Host.Outcome State Fault Refusal := decideRequest 0x11 geometryRead s

/-- An entry takes new content: BACKGROUND where it was present, BEND where the new kind is BEND and BEND
Applied is set (R13). -/
def State.changeKeepOut (i : Fin 8) (k : KeepOut) (s : State) : State :=
  let t := { s with keepOuts := Vec.modify s.keepOuts i fun _ => some k }
  let u := if s.keepOuts[i].isSome then t.queueJob .background else t
  if k.kind = .bend && s.sampler.bendApplied then u.queueJob .bend else u

/-- KEEPOUT SET's decision (R13). -/
def keepoutSet (ps : List Byte) (s : State) : Decision :=
  match keepOutSetParams ps with
  | none => refused .badParam s
  | some (i, k) =>
    if s.geometryLock then refused .locked s
    else if s.keepOuts[i] = some k then answered s
    else taken (s.changeKeepOut i k)

/-- KEEPOUT SET (R13). -/
def execKeepoutSet (s : State) : Host.Outcome State Fault Refusal := decideRequest 0x12 keepoutSet s

/-- The request names the entry: its index, or ALL (R14). -/
def clearsEntry (which : Option (Fin 8)) (i : Fin 8) : Bool :=
  match which with
  | none => true
  | some j => i = j

/-- At least one entry that the request makes absent is present (R14). -/
def State.clearsPresent (s : State) (which : Option (Fin 8)) : Bool :=
  (List.finRange 8).any fun i => clearsEntry which i && s.keepOuts[i].isSome

/-- The entries named become absent (R14). -/
def State.clearKeepOuts (which : Option (Fin 8)) (s : State) : State :=
  { s with keepOuts := Vec.tabulate fun i => if clearsEntry which i then none else s.keepOuts[i] }

/-- KEEPOUT CLEAR's decision (R14). -/
def keepoutClear (ps : List Byte) (s : State) : Decision :=
  match keepOutClearParams ps with
  | none => refused .badParam s
  | some which =>
    if s.geometryLock then refused .locked s
    else if s.clearsPresent which then taken ((s.clearKeepOuts which).queueJob .background)
    else answered (s.clearKeepOuts which)

/-- KEEPOUT CLEAR (R14). -/
def execKeepoutClear (s : State) : Host.Outcome State Fault Refusal := decideRequest 0x13 keepoutClear s

/-- KEEPOUT READ's data (R15). -/
def State.keepOutReport (s : State) : KeepOutReport :=
  { entries := s.keepOuts.toList.map fun e => e.map fun k => (k, k.applied s.sampler.bendApplied)
    bendApplied := s.sampler.bendApplied
    locked := s.geometryLock
    keptOutTiles := keptOutCount s.keepOuts s.sampler.bendApplied }

/-- KEEPOUT READ's decision (R15). -/
def keepoutRead : List Byte → State → Decision :=
  withoutParams fun s => reported (.keepOuts s.keepOutReport) s

/-- KEEPOUT READ (R15). -/
def execKeepoutRead (s : State) : Host.Outcome State Fault Refusal := decideRequest 0x14 keepoutRead s

end Sys2Proof.Machine
end

