-- ==== Sys2Proof/Machine/StreamFamily.lean ====
section
/-! DEFINITION. The commands of the Stream Router: STREAM SET, STREAM READ, the packets of the pixel input
link, the tiles of a run and the frame timers (chapter 4). -/

namespace Sys2Proof.Machine

/-- A one-byte parameter in a range. -/
def oneByte (lo hi : Nat) : List Byte → Option Nat
  | [b] => inRange lo hi b.toNat
  | _ => none

/-- STREAM SET's decision (R90). -/
def streamSet (ps : List Byte) (s : State) : Decision :=
  match oneByte 1 255 ps with
  | none => refused .badParam s
  | some n => answered { s with router := { s.router with frameTimeout := n } }

/-- STREAM SET (R90). -/
def execStreamSet (s : State) : Host.Outcome State Fault Refusal := decideRequest 0x40 streamSet s

/-- The record of an open frame as STREAM READ gives it (R91). -/
def State.frameReport (s : State) (f : Frame) : FrameReport :=
  { stamp := f.stamp, width := f.width, height := f.height, next := f.next, malformed := f.malformed,
    stampActive := f.stamp = s.engine.epoch }

/-- One stream as STREAM READ gives it (R91). -/
def State.streamReport (s : State) (st : Stream) : StreamReport :=
  { frame := st.frame.map s.frameReport, completed := st.completed, last := st.last }

/-- STREAM READ's data (R91). -/
def State.streamsReport (s : State) : StreamsReport :=
  { frameTimeout := s.router.frameTimeout
    streams := s.router.streams.toList.map s.streamReport
    staleCounts := s.router.staleCounts.toList }

/-- STREAM READ's decision (R91). -/
def streamRead : List Byte → State → Decision :=
  withoutParams fun s => reported (.streams s.streamsReport) s

/-- STREAM READ (R91). -/
def execStreamRead (s : State) : Host.Outcome State Fault Refusal := decideRequest 0x41 streamRead s

/-- FRAME_BEGIN (R74, R76). -/
def execFrameBegin (stream width height : Byte) (s : State) : Host.Outcome State Fault Refusal :=
  .next (s.packetArrives (.frameBegin stream width height))

/-- TILE_RUN (R74, R77). -/
def execTileRun (stream : Byte) (start : BitVec 16) (count : Byte) (tiles : List Pixels) (s : State) :
    Host.Outcome State Fault Refusal :=
  .next (s.packetArrives (.tileRun stream start count tiles))

/-- STREAM_TILE. Its row names the tiles of a routed run; that it takes the tiles of a dropped run too is the model's
choice (R77, R78, R79, R80, R81; log entry 18). -/
def execStreamTile (s : State) : Host.Outcome State Fault Refusal := .next s.takeTile

/-- FRAME_END (R74, R83). -/
def execFrameEnd (stream : Byte) (s : State) : Host.Outcome State Fault Refusal :=
  .next (s.packetArrives (.frameEnd stream))

/-- DISCARDED_PACKET: bytes that spell a packet are that packet (R74; log entry 21). -/
def execDiscardedPacket (bytes : List Byte) (s : State) : Host.Outcome State Fault Refusal :=
  .next (s.packetArrives ((parsePacket bytes).getD .discarded))

/-- The frame timer of a stream runs (R78). -/
def Stream.timerRuns (st : Stream) : Bool := st.frame.any fun f => f.timer.isSome

/-- FRAME_TIMER_EXPIRY; a timer that does not run does not expire (R84; log entry 4). -/
def execFrameTimerExpiry (stream : Fin 8) (s : State) : Host.Outcome State Fault Refusal :=
  if s.router.streams[stream].timerRuns then
    .next ((s.closeFrame stream .aborted).setFlag .streamAborted)
  else .next s

end Sys2Proof.Machine
end

