-- ==== Sys2Proof/Machine/LinkFamily.lean ====
section
/-! DEFINITION. The commands of the Panel Link Interface and the Fill Writer: BACKGROUND SET, SCAN SET, FILL
READ, the scan starts, and the ends of transfers and fill jobs (chapter 5). -/

namespace Sys2Proof.Machine

/-! ## Requests -/

/-- BACKGROUND SET's layout and colour (R107, R186). -/
def backgroundParams : List Byte → Option (Layout × Colour)
  | [lb, r, g, b] => (layoutField lb).map fun layout => (layout, colourOf r g b)
  | _ => none

/-- Change the background colour of a layout. -/
def Fill.setBackground (f : Fill) (layout : Layout) (c : Colour) : Fill :=
  match layout with
  | .folded => { f with foldedColour := c }
  | .unfolded => { f with unfoldedColour := c }

/-- BACKGROUND SET's decision (R107). -/
def backgroundSet (ps : List Byte) (s : State) : Decision :=
  match backgroundParams ps with
  | none => refused .badParam s
  | some (layout, c) =>
    if s.fill.background layout = c then answered s
    else
      let t := { s with fill := s.fill.setBackground layout c }
      if layout = s.activeLayout then taken (t.queueJob .background) else answered t

/-- BACKGROUND SET (R107). -/
def execBackgroundSet (s : State) : Host.Outcome State Fault Refusal := decideRequest 0x42 backgroundSet s

/-- SCAN SET's decision (R100). -/
def scanSet (ps : List Byte) (s : State) : Decision :=
  match oneByte 10 100 ps with
  | none => refused .badParam s
  | some n => answered { s with link := { s.link with interval := n } }

/-- SCAN SET (R100). -/
def execScanSet (s : State) : Host.Outcome State Fault Refusal := decideRequest 0x43 scanSet s

/-- The kind of a transfer (R108). R93 names two kinds, the tile write and the message; that FILL READ tells a stream
tile write from a fill tile write is the model's choice (log entry 26). -/
def Transfer.reportKind : Transfer → TransferKind
  | .message _ _ => .message
  | .tile w =>
    match w.kind with
    | .stream => .streamTile
    | .fill _ _ => .fillTile

/-- The Position given for a job: a tile of the panel; past the last tile a free value on the panel (R108;
log entry 14). -/
def Job.reportPosition (free : Nat) (j : Job) : Nat :=
  if j.position < Config.tileCount then j.position else Config.passedPosition free % Config.tileCount

/-- FILL READ's data (R108). -/
def State.fillReport (s : State) : FillReport :=
  { job := s.fill.job.map fun j =>
      (j.key, tileCol (j.reportPosition s.freeCount), tileRow (j.reportPosition s.freeCount))
    queue := s.fill.queue
    idle := s.fillIdle
    fillWaits := s.link.fillWaiting.isSome
    streamWaits := s.link.streamWaiting.isSome
    fillWaitCount := s.link.fillWaitCount
    flight := s.link.flight.map Transfer.reportKind
    slots := s.link.slots
    foldedColour := s.fill.foldedColour
    unfoldedColour := s.fill.unfoldedColour
    interval := s.link.interval }

/-- FILL READ's decision; the free values it may have used are used up (R108; log entry 14). -/
def fillRead : List Byte → State → Decision :=
  withoutParams fun s => reported (.fill s.fillReport) { s with freeCount := s.freeCount + 1 }

/-- FILL READ (R108). -/
def execFillRead (s : State) : Host.Outcome State Fault Refusal := decideRequest 0x44 fillRead s

/-! ## Scan starts -/

/-- SCAN_START; the line is ignored while a reset input is asserted (R99). -/
def execScanStart (s : State) : Host.Outcome State Fault Refusal :=
  if s.inReset then .next s else .next s.restartSubstitute.scanStart

/-- SUBSTITUTE_SCAN_START; the timer does not run while a reset input is asserted (R99). -/
def execSubstituteScanStart (s : State) : Host.Outcome State Fault Refusal :=
  if s.link.timer.isSome then .next ((s.restartSubstitute.setFlag .scanSubstituted).scanStart) else .next s

/-! ## Ends of transfers and jobs -/

/-- The panel driver takes a completed transfer (R93). -/
def Panel.take (p : Panel) : Transfer → Panel
  | .tile w => p.write w.tile w.pixels
  | .message z m => { p with zones := p.zones.set z (some m) }

/-- A completed transfer leaves the link FREE. -/
def State.completeTransfer (f : Transfer) (s : State) : State :=
  { s with panel := s.panel.take f, link := { s.link with flight := none } }

/-- TRANSFER_COMPLETE; with the link FREE it does not arrive (R93; log entry 4). -/
def execTransferComplete (s : State) : Host.Outcome State Fault Refusal :=
  match s.link.flight with
  | some f => .next (s.completeTransfer f).finish
  | none => .next s

/-- The job in progress has advanced past the last tile with no write waiting (R102). -/
def State.jobEnds (s : State) (j : Job) : Bool :=
  decide (Config.tileCount ≤ j.position) && s.link.fillWaiting.isNone

/-- The Transition Controller leaves BLANKING for HOLDING at the report of the BLANK job (R132). -/
def State.reportJob (k : Key) (s : State) : State :=
  if k = .blank ∧ s.transition.state = .blanking then
    s.updTransition fun q => { q with state := .holding, holdCount := 0 }
  else s

/-- The job in progress ends; BLANK is reported (R102, R132). -/
def State.completeJob (j : Job) (s : State) : State :=
  { s with fill := { s.fill with job := none } }.reportJob j.key

/-- FILL_JOB_COMPLETE; a job that has tiles left does not end (R102; log entry 4). -/
def execFillJobComplete (s : State) : Host.Outcome State Fault Refusal :=
  match s.fill.job with
  | some j => if s.jobEnds j then .next (s.completeJob j).finish else .next s
  | none => .next s

end Sys2Proof.Machine
end

