-- ==== Sys2Proof/Machine/LookupFamily.lean ====
section
/-! DEFINITION. The Lookup Unit: POINT and VERIFY on both ports, and the lookup port's answer buffer (chapter
9). -/

namespace Sys2Proof.Machine

/-! ## Locating a point -/

/-- The point is in range (R169). -/
def pointInRange (x y : Nat) : Bool := decide (x ≤ 2047 ∧ y ≤ 1791)

/-- The physical tile of a pixel (R1). -/
def pixelTile (x y : Nat) : Nat := tileAt (x / 16) (y / 16)

/-- The zone of a point (R2, R169). -/
def State.pointZone (s : State) (x : Nat) : Zone := s.geometry.zoneOf (x / 16)

/-- The face of a point (R169). -/
def State.pointFace (s : State) (x : Nat) : Face := s.geometry.faceAt s.activeLayout (x / 16)

/-- A placement covers a point: it is on the face of the point and its rectangle contains the point's
face-local tile (R169). -/
def State.partCovers (s : State) (p : Part) (x y : Nat) : Bool :=
  p.face = s.pointFace x && p.rect.contains ((s.geometry.localPixel p.face x).toNat / 16) (y / 16)

/-- KEEP_OUT, ZONE_OFF or BLANK, the first whose condition holds (R170, R174). -/
def State.pointStop (s : State) (x y : Nat) : Option LookupStatus :=
  if keptOut s.keepOuts s.sampler.bendApplied (pixelTile x y) then some .keepOut
  else if (s.zoneState (s.pointZone x)).mode = .off ∨ (s.zoneState (s.pointZone x)).mode = .tripped then
    some .zoneOff
  else if s.heldBack (pixelTile x y) then some .blank
  else none

/-! ## POINT -/

/-- The live Touch of a record is ROUTE. -/
def State.routesTouch (s : State) (i : Slot) : Bool :=
  (s.record i).live.any fun c => c.attributes.touch = .route

/-- The records that a point may hit, with their placements (R171). -/
def State.hitCandidates (s : State) (x y : Nat) : List (Slot × Part) :=
  slotList.filterMap fun i =>
    if s.isShown i && s.routesTouch i then
      (s.activePart i).bind fun p => if s.partCovers p x y then some (i, p) else none
    else none

/-- The live Owner Token of a record. -/
def State.ownerToken (s : State) (i : Slot) : Nat :=
  match (s.record i).live with
  | some c => c.attributes.ownerToken
  | none => 0

/-- An answer with a status, the epoch's low 8 bits and the layout, every other field 0 (R172). -/
def State.bareAnswer (s : State) (status : LookupStatus) (inside : Bool) : Answer :=
  { status, region := 0, generation := 0, ownerToken := 0, face := none, localX := 0, localY := 0, inside,
    epoch := s.engine.epoch.truncate 8, layout := s.activeLayout }

/-- The local coordinates of a point relative to a placement (R173, R175). -/
def State.localOf (s : State) (p : Part) (x y : Nat) : Int × Int :=
  (s.geometry.localPixel p.face x - 16 * p.rect.baseCol, (y : Int) - 16 * p.rect.baseRow)

/-- The answer of KEEP_OUT, ZONE_OFF, BLANK and NONE: the point on its own face (R172). -/
def State.faceAnswer (s : State) (status : LookupStatus) (x y : Nat) : Answer :=
  { s.bareAnswer status true with
    face := some (s.pointFace x), localX := s.geometry.localPixel (s.pointFace x) x, localY := y }

/-- The answer of HIT (R172, R173). -/
def State.hitAnswer (s : State) (i : Slot) (p : Part) (x y : Nat) : Answer :=
  { s.bareAnswer .hit true with
    region := regionId i, generation := (s.record i).generation, ownerToken := s.ownerToken i,
    face := some p.face, localX := (s.localOf p x y).1, localY := (s.localOf p x y).2 }

/-- The answer of a POINT lookup (R170, R171, R172). -/
def State.pointAnswer (s : State) (x y : Nat) : Answer :=
  if pointInRange x y then
    match s.pointStop x y with
    | some status => s.faceAnswer status x y
    | none =>
      match pickTop (s.hitCandidates x y) with
      | some (i, p) => s.hitAnswer i p x y
      | none => s.faceAnswer .none x y
  else s.bareAnswer .outOfRange true

/-- A POINT answered HIT or NONE reports a LOOKUP activity in the zone of the point (R176). -/
def State.reportTouch (a : Answer) (x : Nat) (s : State) : State :=
  if a.status = .hit ∨ a.status = .none then (s.activity .lookup (s.pointZone x)).finish else s

/-! ## VERIFY -/

/-- The answer of GONE: the Region ID carried and the slot's Generation (R174). -/
def State.goneAnswer (s : State) (i : Slot) : Answer :=
  { s.bareAnswer .gone false with region := regionId i, generation := (s.record i).generation }

/-- The answer of a VERIFY relative to a record's placement (R174, R175). -/
def State.relativeAnswer (s : State) (status : LookupStatus) (i : Slot) (p : Part) (x y : Nat) : Answer :=
  { s.hitAnswer i p x y with status, inside := s.partCovers p x y }

/-- The answer of a VERIFY lookup (R174, R175). A SHOWN record has a placement for the active layout (R66). -/
def State.verifyAnswer (s : State) (region : Nat) (generation : BitVec 8) (x y : Nat) : Answer :=
  match slotOf region with
  | none => s.bareAnswer .outOfRange false
  | some i =>
    if pointInRange x y then
      match s.activePart i with
      | some p =>
        if (s.record i).generation = generation ∧ s.isShown i then
          s.relativeAnswer ((s.pointStop x y).getD .current) i p x y
        else s.goneAnswer i
      | none => s.goneAnswer i
    else s.bareAnswer .outOfRange false

/-! ## The lookup port -/

/-- An answer enters the answer buffer (R167). -/
def State.putAnswer (a : Answer) (s : State) : State := { s with lookup := { s.lookup with answer := some a } }

/-- An answer with a status and 0 in every other field (R166, R167). -/
def Answer.zero (status : LookupStatus) : Answer :=
  { status, region := 0, generation := 0, ownerToken := 0, face := none, localX := 0, localY := 0,
    inside := false, epoch := 0, layout := .folded }

/-- A POINT is taken on the lookup port; nothing is taken while a reset input is asserted (R166, R167, R176). -/
def State.takePoint (x y : Nat) (s : State) : State :=
  if s.inReset then s else (s.putAnswer (s.pointAnswer x y)).reportTouch (s.pointAnswer x y) x

/-- A VERIFY is taken on the lookup port; nothing is taken while a reset input is asserted (R166, R167). -/
def State.takeVerify (region : Nat) (generation : BitVec 8) (x y : Nat) (s : State) : State :=
  if s.inReset then s else s.putAnswer (s.verifyAnswer region generation x y)

/-- POINT (R170). -/
def execPoint (x y : BitVec 16) (s : State) : Host.Outcome State Fault Refusal := .next (s.takePoint x.toNat y.toNat)

/-- LOOKUP_PORT_VERIFY (R174). -/
def execLookupPortVerify (region generation : Byte) (x y : BitVec 16) (s : State) :
    Host.Outcome State Fault Refusal :=
  .next (s.takeVerify region.toNat generation x.toNat y.toNat)

/-- REJECTED_WRITE: no byte changes nothing, bytes that spell a lookup are that lookup, any others place a
REJECTED answer (R166; log entry 21). -/
def execRejectedWrite (bytes : List Byte) (s : State) : Host.Outcome State Fault Refusal :=
  if s.inReset ∨ bytes.isEmpty then .next s
  else
    match parseLookup bytes with
    | some (.point x y) => .next (s.takePoint x.toNat y.toNat)
    | some (.verify r g x y) => .next (s.takeVerify r.toNat g x.toNat y.toNat)
    | none => .next (s.putAnswer (Answer.zero .rejected))

/-- ANSWER_READ: the frame of the answer held is returned, or of EMPTY, as far as bytes are clocked and with 00H
beyond its end (LookupUnit.returnedByte), and the buffer empties whatever their number (R167). -/
def execAnswerRead (s : State) : Host.Outcome State Fault Refusal :=
  if s.inReset then .next s
  else
    .next { s with lookup := { s.lookup with
      answer := none, returned := some (s.lookup.answer.getD (Answer.zero .empty)) } }

/-! ## The control port's lookups -/

/-- LOOKUP's point (R186). -/
def lookupParams : List Byte → Option (Nat × Nat)
  | [xh, xl, yh, yl] => some (word16 xh xl, word16 yh yl)
  | _ => none

/-- LOOKUP's decision (R177). -/
def lookup (ps : List Byte) (s : State) : Decision :=
  match lookupParams ps with
  | none => refused .badParam s
  | some (x, y) => reported (.answer (s.pointAnswer x y)) (s.reportTouch (s.pointAnswer x y) x)

/-- LOOKUP (R177). -/
def execLookup (s : State) : Host.Outcome State Fault Refusal := decideRequest 0x80 lookup s

/-- VERIFY's Region ID, Generation and point (R186). -/
def verifyParams : List Byte → Option (Nat × BitVec 8 × Nat × Nat)
  | [r, g, xh, xl, yh, yl] => some (r.toNat, g, word16 xh xl, word16 yh yl)
  | _ => none

/-- VERIFY's decision (R177). -/
def verify (ps : List Byte) (s : State) : Decision :=
  match verifyParams ps with
  | none => refused .badParam s
  | some (r, g, x, y) => reported (.answer (s.verifyAnswer r g x y)) s

/-- VERIFY (R177). -/
def execVerify (s : State) : Host.Outcome State Fault Refusal := decideRequest 0x81 verify s

end Sys2Proof.Machine
end

