-- ==== Sys2Proof/Machine/PortFamily.lean ====
section
/-! DEFINITION. The control port's own commands: the four transactions, EVENT CLEAR, EVENT MASK and STATUS
READ (chapter 10). -/

namespace Sys2Proof.Machine

/-- Change the Control Port. -/
def State.updPort (f : Port → Port) (s : State) : State := { s with port := f s.port }

/-- The part returned 00H on every byte of the transaction (R179). -/
def State.returnZeros (s : State) : State := s.updPort fun p => { p with returned := .zeros }

/-- The port's own check of a request frame: the request it carries, or the code to echo with BAD_REQUEST;
no code where the frame carried none (R180). -/
def checkFrame : List Byte → HeldRequest ⊕ Option Byte
  | code :: len :: ps =>
    if code ∈ requestCodes ∧ len.toNat ≤ 60 ∧ len.toNat ≤ ps.length then
      .inl { code, params := ps.take len.toNat }
    else .inr (some code)
  | [code] => .inr (some code)
  | [] => .inr none

/-- The port answers BAD_REQUEST at once (R180); the echo of a code that was not sent is a free value (log
entry 13). -/
def State.answerBadRequest (code : Option Byte) (s : State) : State :=
  match code with
  | some c => s.updPort fun p => { p with response := some { code := c, result := .badRequest, data := .empty } }
  | none =>
    { s with freeCount := s.freeCount + 1 }.updPort fun p =>
      { p with response := some { code := Config.missingCodeEcho s.freeCount, result := .badRequest, data := .empty } }

/-- A request is held, or a response waits (R180). -/
def Port.occupied (p : Port) : Bool := p.request.isSome || p.response.isSome

/-- REQUEST (R179, R180). The spec gives no frame that the part returns in a REQUEST outside reset: 00H on every
byte of it is the model's choice (log entry 24). -/
def execRequest (frame : List Byte) (s : State) : Host.Outcome State Fault Refusal :=
  if s.inReset then .next s.returnZeros
  else if s.port.occupied then
    .next ((s.returnZeros.updPort fun p => { p with overrun := true }).setFlag .portOverrun)
  else
    match checkFrame frame with
    | .inl r => .next (s.returnZeros.updPort fun p => { p with request := some r })
    | .inr code => .next (s.returnZeros.answerBadRequest code)

/-- The frame that a RESPONSE transaction returns with nothing ready (R181). -/
def nothingResponse : Response := { code := 0, result := .nothing, data := .empty }

/-- RESPONSE, of which at least the first byte was returned: cut short after it, it still empties the buffer (R181).
One that ends before that byte gives no command (log entry 25). -/
def execResponse (s : State) : Host.Outcome State Fault Refusal :=
  if s.inReset then .next s.returnZeros
  else
    match s.port.response with
    | some r => .next (s.updPort fun p => { p with response := none, returned := .response r })
    | none => .next (s.updPort fun p => { p with returned := .response nothingResponse })

/-- STATUS, of which at least the status byte was sent (R181). One that ends before that byte gives no command (log
entry 25). -/
def execStatus (s : State) : Host.Outcome State Fault Refusal :=
  if s.inReset then .next s.returnZeros
  else .next (s.updPort fun p => { p with overrun := false, returned := .status s.portStatus s.flagWord })

/-- A transaction with another kind byte, or with no byte at all (R179). -/
def execUnknownKindTransaction (s : State) : Host.Outcome State Fault Refusal := .next s.returnZeros

/-! ## Event flags -/

/-- EVENT CLEAR's decision (R182). -/
def eventClear (ps : List Byte) (s : State) : Decision :=
  match ps with
  | [hi, lo] =>
    match placesField hi lo with
    | some set => answered (s.updPort fun p => { p with flags := p.flags &&& ~~~set })
    | none => refused .badParam s
  | _ => refused .badParam s

/-- EVENT CLEAR (R182). -/
def execEventClear (s : State) : Host.Outcome State Fault Refusal := decideRequest 0x02 eventClear s

/-- EVENT MASK's decision (R183). -/
def eventMask (ps : List Byte) (s : State) : Decision :=
  match ps with
  | [hi, lo] =>
    match placesField hi lo with
    | some set => answered (s.updPort fun p => { p with mask := set })
    | none => refused .badParam s
  | _ => refused .badParam s

/-- EVENT MASK (R183). -/
def execEventMask (s : State) : Host.Outcome State Fault Refusal := decideRequest 0x03 eventMask s

/-! ## STATUS READ -/

/-- The engine state (R48). -/
def EnginePhase.state : EnginePhase → EngineState
  | .idle => .idle
  | .building _ => .building
  | .ready _ _ => .ready
  | .draining _ _ => .draining

/-- The kind of the build held in BUILDING or READY (R48). -/
def EnginePhase.kind : EnginePhase → Option BuildKind
  | .idle => none
  | .building b => some b.kind
  | .ready b _ => some b.kind
  | .draining _ _ => none

/-- STATUS READ's data (R184). -/
def State.statusReport (s : State) : StatusReport :=
  { flags := s.port.flags
    mask := s.port.mask
    engine := s.engine.phase.state
    build := s.engine.phase.kind
    claims := s.engine.claims
    epoch := s.engine.epoch
    layout := s.activeLayout
    conflict := s.engine.conflict
    staleMap := slotList.map fun i => (s.record i).stale
    transition := s.transition.state
    posture := s.sampler.posture
    lastDirection := s.sampler.lastDirection
    bendApplied := s.sampler.bendApplied }

/-- STATUS READ's decision (R184). -/
def statusRead : List Byte → State → Decision :=
  withoutParams fun s => reported (.status s.statusReport) s

/-- STATUS READ (R184). -/
def execStatusRead (s : State) : Host.Outcome State Fault Refusal := decideRequest 0x01 statusRead s

end Sys2Proof.Machine
end

