-- ==== Sys2Proof/Machine/PostureFamily.lean ====
section
/-! DEFINITION. The commands of the Posture Sampler: POSTURE SET, POSTURE READ, the interval timer and the
completion of a measurement (chapter 6). -/

namespace Sys2Proof.Machine

/-! ## Measuring and judging -/

/-- The Sample and status of a measurement, from the times of the rising edges of HINGE in microseconds from
its start (R111). -/
def measure (edges : List Nat) : Nat × SampleStatus :=
  match edges with
  | [] => (0, .noSignal)
  | e :: rest =>
    if 4095 ≤ e then (0, .noSignal)
    else
      match rest[3]? with
      | some f => if e < f ∧ f - e < 4095 then (f - e, .valid) else (4095, .saturated)
      | none => (4095, .saturated)

/-- The class of a valid Sample (R112). -/
def Sampler.classify (p : Sampler) (sample : Nat) : HingeClass :=
  if sample ≤ p.foldLimit then .folded else if sample < p.openLimit then .partly else .unfolded

/-- The posture of a class. -/
def HingeClass.posture : HingeClass → Posture
  | .folded => .folded
  | .partly => .partly
  | .unfolded => .unfolded

/-- The direction of a change from a posture into a class (R115). -/
def changeDirection : Posture → HingeClass → Direction
  | .unknown, _ => .resumed
  | .folded, .partly => .opening
  | .folded, .unfolded => .opening
  | .partly, .unfolded => .opening
  | .unfolded, .partly => .closing
  | .unfolded, .folded => .closing
  | .partly, .folded => .closing
  | _, _ => .none

/-- The Report Mode admits a change (R116). -/
def ReportMode.admits : ReportMode → Direction → Bool
  | _, .resumed => true
  | .opening, .opening => true
  | .closing, .closing => true
  | .both, .opening => true
  | .both, .closing => true
  | _, _ => false

/-- BEND Applied is set while the posture is PARTIAL or UNKNOWN (R117). -/
def Posture.bends : Posture → Bool
  | .partly => true
  | .unknown => true
  | .folded => false
  | .unfolded => false

/-- Change the sampler. -/
def State.updSampler (f : Sampler → Sampler) (s : State) : State := { s with sampler := f s.sampler }

/-- BEND Applied follows the posture, and the BEND job is queued where it changes; while DRSTN is asserted the
job waits for its release (R117, R123). -/
def State.followBend (s : State) : State :=
  if s.sampler.bendApplied = s.sampler.posture.bends then s
  else
    let t := s.updSampler fun p => { p with bendApplied := p.posture.bends }
    if t.inReset then t.updSampler fun p => { p with bendDeferred := true } else t.queueJob .bend

/-- A layout request is raised for a posture with an Implied Layout, and not while a reset input is asserted
(R118, R123). -/
def State.raiseRequest (p : Posture) (s : State) : State :=
  if s.inReset then s
  else
    match p.implied with
    | some layout => s.layoutRequest layout
    | none => s

/-- The posture changes into a class, with the effects of R119 in their order (R115 to R119). -/
def State.changePosture (c : HingeClass) (s : State) : State :=
  let d := changeDirection s.sampler.posture c
  let t := (s.updSampler fun p =>
    { p with posture := c.posture, lastDirection := d, runClass := none, runLength := 0 }).followBend
  let u := if s.sampler.reportMode.admits d then t.setFlag .postureChanged else t
  u.raiseRequest c.posture

/-- The length of the debounce run with a Sample of a class counted (R113). -/
def Sampler.nextRun (p : Sampler) (c : HingeClass) : Nat := if p.runClass = some c then p.runLength + 1 else 1

/-- A valid Sample of a class is judged (R113, R114). -/
def State.judgeValid (c : HingeClass) (s : State) : State :=
  let t := s.updSampler fun p => { p with invalidRun := 0 }
  if c.posture = s.sampler.posture then t.updSampler fun p => { p with runClass := none, runLength := 0 }
  else if s.sampler.debounce ≤ s.sampler.nextRun c then t.changePosture c
  else t.updSampler fun p => { p with runClass := some c, runLength := s.sampler.nextRun c }

/-- The sensor is lost: the posture becomes UNKNOWN, BEND Applied follows, SENSOR_LOST is set (R114, R119). -/
def State.loseSensor (s : State) : State :=
  ((s.updSampler fun p => { p with posture := .unknown }).followBend).setFlag .sensorLost

/-- An invalid Sample is judged (R114). -/
def State.judgeInvalid (s : State) : State :=
  let t := s.updSampler fun p =>
    { p with runClass := none, runLength := 0, invalidRun := if p.invalidRun < 8 then p.invalidRun + 1 else 8 }
  if s.sampler.invalidRun = 7 then t.loseSensor else t

/-- A measurement completes with a Sample and its status; the sampler waits again (R110, R111, R112). -/
def State.takeSample (sample : Nat) (status : SampleStatus) (s : State) : State :=
  match status with
  | .valid =>
    let c := s.sampler.classify sample
    (s.updSampler fun p =>
      { p with phase := .waiting p.sampleInterval, lastSample := sample, status, lastClass := some c }).judgeValid c
  | _ =>
    (s.updSampler fun p =>
      { p with phase := .waiting p.sampleInterval, lastSample := sample, status, lastClass := none }).judgeInvalid

/-- MEASUREMENT_COMPLETE; without a measurement in flight it does not arrive (R111; log entries 4 and 20). -/
def execMeasurementComplete (edges : List Nat) (s : State) : Host.Outcome State Fault Refusal :=
  match s.sampler.phase with
  | .measuring => .next (s.takeSample (measure edges).1 (measure edges).2).finish
  | .waiting _ => .next s
  | .still => .next s

/-- INTERVAL_TIMER_EXPIRY; a timer that does not run does not expire (R110; log entry 4). -/
def execIntervalTimerExpiry (s : State) : Host.Outcome State Fault Refusal :=
  match s.sampler.phase with
  | .waiting _ => .next (s.updSampler fun p => { p with phase := .measuring })
  | .measuring => .next s
  | .still => .next s

/-! ## Requests -/

/-- The settings after a POSTURE SET, the debounce run cleared where a limit or the Debounce changes (R120). -/
def PostureEdit.apply (e : PostureEdit) (p : Sampler) : Sampler :=
  let q := { p with sampleInterval := e.sampleInterval.getD p.sampleInterval,
                    foldLimit := e.foldLimit.getD p.foldLimit, openLimit := e.openLimit.getD p.openLimit,
                    debounce := e.debounce.getD p.debounce, reportMode := e.reportMode.getD p.reportMode }
  if q.foldLimit = p.foldLimit ∧ q.openLimit = p.openLimit ∧ q.debounce = p.debounce then q
  else { q with runClass := none, runLength := 0 }

/-- POSTURE SET's decision: the resulting limits must stay in order (R120). -/
def postureSet (ps : List Byte) (s : State) : Decision :=
  match postureSetParams ps with
  | none => refused .badParam s
  | some e =>
    if (e.apply s.sampler).foldLimit < (e.apply s.sampler).openLimit then answered (s.updSampler e.apply)
    else refused .badParam s

/-- POSTURE SET (R120). -/
def execPostureSet (s : State) : Host.Outcome State Fault Refusal := decideRequest 0x50 postureSet s

/-- POSTURE READ's data (R121). -/
def State.postureReport (s : State) : PostureReport :=
  { lastSample := s.sampler.lastSample
    status := s.sampler.status
    lastClass := s.sampler.lastClass
    posture := s.sampler.posture
    impliedLayout := s.sampler.posture.implied
    runClass := s.sampler.runClass
    runLength := s.sampler.runLength
    invalidRun := s.sampler.invalidRun
    lastDirection := s.sampler.lastDirection
    bendApplied := s.sampler.bendApplied
    measuring := decide (s.sampler.phase = .measuring)
    sampleInterval := s.sampler.sampleInterval
    foldLimit := s.sampler.foldLimit
    openLimit := s.sampler.openLimit
    debounce := s.sampler.debounce
    reportMode := s.sampler.reportMode }

/-- POSTURE READ's decision (R121). -/
def postureRead : List Byte → State → Decision :=
  withoutParams fun s => reported (.posture s.postureReport) s

/-- POSTURE READ (R121). -/
def execPostureRead (s : State) : Host.Outcome State Fault Refusal := decideRequest 0x51 postureRead s

end Sys2Proof.Machine
end

