-- ==== Sys2Proof/Machine/RegionFamily.lean ====
section
/-! DEFINITION. The requests of the Region Table (chapter 2). -/

namespace Sys2Proof.Machine

/-! ## REGION CREATE -/

/-- The pending copy of a new record: one part, and the attributes given over the defaults (R24). -/
def newContent (layout : Layout) (p : Part) (e : AttributeEdit) : Content :=
  match layout with
  | .folded => { attributes := e.apply Attributes.default, folded := some p, unfolded := none }
  | .unfolded => { attributes := e.apply Attributes.default, folded := none, unfolded := some p }

/-- The Generation after a claim: 255 is followed by 1 (R24). -/
def nextGeneration (g : BitVec 8) : BitVec 8 := if g = 255 then 1 else g + 1

/-- A slot claimed (R24). -/
def Record.claimed (c : Content) (r : Record) : Record :=
  { Record.free (nextGeneration r.generation) with lifecycle := .staged, commitPending := true, pending := some c }

/-- The lowest-numbered FREE slot (R24). -/
def State.freeSlot (s : State) : Option Slot := slotList.find? fun i => (s.record i).lifecycle = .free

/-- REGION CREATE's content: a placement part under R20 and attributes in their ranges (R24, R186). -/
def regionCreateParams (g : Geometry) : List Byte → Option Content
  | lb :: rest =>
    (layoutField lb).bind fun layout =>
    (partField g layout (rest.take 10)).bind fun p =>
    (attributeBlock (rest.drop 10)).map fun e => newContent layout p e
  | [] => none

/-- REGION CREATE's decision (R24). -/
def regionCreate (ps : List Byte) (s : State) : Decision :=
  match regionCreateParams s.geometry ps with
  | none => refused .badParam s
  | some c =>
    match s.freeSlot with
    | none => refused .noSlot s
    | some i =>
      reported (.created (regionId i) (nextGeneration (s.record i).generation)) (s.updRecord i (Record.claimed c))

/-- REGION CREATE (R24). -/
def execRegionCreate (s : State) : Host.Outcome State Fault Refusal := decideRequest 0x20 regionCreate s

/-! ## Edits -/

/-- Steps 1 and 2 of R25: the slot a request names, or its refusal. A request without its Region ID has a
missing parameter. -/
def State.namedSlot (s : State) (ps : List Byte) : Except Result (Slot × List Byte) :=
  match ps with
  | [] => .error .badParam
  | rid :: rest =>
    match slotOf rid.toNat with
    | none => .error .badRegion
    | some i =>
      match (s.record i).lifecycle with
      | .free => .error .badRegion
      | .quarantine => .error .badRegion
      | .staged => if (s.record i).inBuild then .error .busy else .ok (i, rest)
      | .inService => if (s.record i).inBuild then .error .busy else .ok (i, rest)

/-- The content that an edit changes: the pending copy, or an exact copy of the live one (R25). -/
def Record.editBase (r : Record) : Option Content :=
  match r.pending with
  | some c => some c
  | none => r.live

/-- A taken edit leaves the record with a pending copy and Commit Pending set (R25). -/
def Record.edited (c : Content) (r : Record) : Record := { r with pending := some c, commitPending := true }

/-- An edit admitted under R25: steps 1 to 3, then the request's own check of its parameters against the
content it would edit. -/
def State.edit (s : State) (ps : List Byte) (change : List Byte → Content → Option Content) : Decision :=
  match s.namedSlot ps with
  | .error e => refused e s
  | .ok (i, rest) =>
    if (s.record i).retirePending then refused .badState s
    else
      match (s.record i).editBase.bind (change rest) with
      | none => refused .badParam s
      | some c => answered (s.updRecord i (Record.edited c))

/-- Replace or remove the part for a layout. -/
def Content.setPart (c : Content) (layout : Layout) (p : Option Part) : Content :=
  match layout with
  | .folded => { c with folded := p }
  | .unfolded => { c with unfolded := p }

/-- REGION PLACE's edit: a placement part under R20, or the byte 00H for REMOVE, refused where the part for
the other layout is absent (R26, R186). -/
def placeChange (g : Geometry) (ps : List Byte) (c : Content) : Option Content :=
  match ps with
  | lb :: rest =>
    (layoutField lb).bind fun layout =>
    if rest = [0x00#8] then
      if (c.part layout.other).isSome then some (c.setPart layout none) else none
    else (partField g layout rest).map fun p => c.setPart layout (some p)
  | [] => none

/-- REGION PLACE's decision (R25, R26). -/
def regionPlace (ps : List Byte) (s : State) : Decision := s.edit ps (placeChange s.geometry)

/-- REGION PLACE (R26). -/
def execRegionPlace (s : State) : Host.Outcome State Fault Refusal := decideRequest 0x21 regionPlace s

/-- REGION ATTRIBUTES' edit: at least one attribute, each in its range (R27). -/
def attributesChange (ps : List Byte) (c : Content) : Option Content :=
  (attributeBlock ps).bind fun e =>
    if e.any then some { c with attributes := e.apply c.attributes } else none

/-- REGION ATTRIBUTES' decision (R25, R27). -/
def regionAttributes (ps : List Byte) (s : State) : Decision := s.edit ps attributesChange

/-- REGION ATTRIBUTES (R27). -/
def execRegionAttributes (s : State) : Host.Outcome State Fault Refusal := decideRequest 0x22 regionAttributes s

/-! ## Retirement and discard -/

/-- An IN_SERVICE record with its retirement staged; nothing changes where it already is (R30). -/
def Record.retiring (r : Record) : Record :=
  if r.retirePending then r else { r with pending := none, retirePending := true, commitPending := true }

/-- REGION RETIRE's decision (R29, R30). -/
def regionRetire (ps : List Byte) (s : State) : Decision :=
  match s.namedSlot ps with
  | .error e => refused e s
  | .ok (i, rest) =>
    if rest.isEmpty then
      if (s.record i).lifecycle = .staged then taken (s.enterQuarantine i)
      else answered (s.updRecord i Record.retiring)
    else refused .badParam s

/-- REGION RETIRE (R29, R30). -/
def execRegionRetire (s : State) : Host.Outcome State Fault Refusal := decideRequest 0x23 regionRetire s

/-- An IN_SERVICE record without its pending changes and its retirement (R31). -/
def Record.discarded (r : Record) : Record :=
  { r with pending := none, retirePending := false, commitPending := false }

/-- REGION DISCARD's decision (R31). -/
def regionDiscard (ps : List Byte) (s : State) : Decision :=
  match s.namedSlot ps with
  | .error e => refused e s
  | .ok (i, rest) =>
    if rest.isEmpty then
      if (s.record i).lifecycle = .staged then taken (s.enterQuarantine i)
      else answered (s.updRecord i Record.discarded)
    else refused .badParam s

/-- REGION DISCARD (R31). -/
def execRegionDiscard (s : State) : Host.Outcome State Fault Refusal := decideRequest 0x24 regionDiscard s

/-! ## Reading and settings -/

/-- REGION READ's decision (R40). -/
def regionRead (ps : List Byte) (s : State) : Decision :=
  match ps with
  | [] => refused .badParam s
  | rid :: rest =>
    match slotOf rid.toNat with
    | none => refused .badRegion s
    | some i => if rest.isEmpty then reported (.region (regionId i) (s.record i)) s else refused .badParam s

/-- REGION READ (R40). -/
def execRegionRead (s : State) : Host.Outcome State Fault Refusal := decideRequest 0x25 regionRead s

/-- The number of slots in a lifecycle state (R41). -/
def State.countIn (s : State) (l : Lifecycle) : Nat := slotList.countP fun i => (s.record i).lifecycle = l

/-- REGION LIST's data (R41). -/
def State.regionListReport (s : State) : RegionListReport :=
  { entries := (slotList.filter fun i => (s.record i).lifecycle ≠ .free).map fun i =>
      { region := regionId i, generation := (s.record i).generation, lifecycle := (s.record i).lifecycle,
        showing := (s.record i).showing }
    free := s.countIn .free
    staged := s.countIn .staged
    inService := s.countIn .inService
    quarantine := s.countIn .quarantine
    quarantineLength := s.table.quarantineLength
    retain := s.table.retain }

/-- REGION LIST's decision (R41). -/
def regionList : List Byte → State → Decision :=
  withoutParams fun s => reported (.regionList s.regionListReport) s

/-- REGION LIST (R41). -/
def execRegionList (s : State) : Host.Outcome State Fault Refusal := decideRequest 0x26 regionList s

/-- TABLE SET's decision (R39). -/
def tableSet (ps : List Byte) (s : State) : Decision :=
  match tableSetParams ps with
  | none => refused .badParam s
  | some (len, retain) =>
    answered { s with table := { s.table with
      quarantineLength := len.getD s.table.quarantineLength, retain := retain.getD s.table.retain } }

/-- TABLE SET (R39). -/
def execTableSet (s : State) : Host.Outcome State Fault Refusal := decideRequest 0x27 tableSet s

end Sys2Proof.Machine
end

