-- ==== Sys2Proof/Machine/ResetFamily.lean ====
section
/-! DEFINITION. The two reset inputs: RESETN and DRSTN, their assertion and their release. -/

namespace Sys2Proof.Machine

/-! ## RESETN -/

/-- The part while RESETN is asserted: every block in its reset state, with the levels of the other inputs, and
what stands outside the part or is the model's own, kept (R3, R11, R42, R72, R92, R109, R122, R150, R164, R178,
R185). -/
def State.resetHeld (s : State) : State :=
  { State.held with
    port := { Port.reset with returned := s.port.returned }
    lookup := { s.lookup with answer := none }
    pins := { s.pins with resetn := true }
    panel := s.panel
    freeCount := s.freeCount
    pending := s.pending }

/-- RESETN_ASSERT. -/
def execResetnAssert (s : State) : Host.Outcome State Fault Refusal := .next s.resetHeld

/-- At a release the wanted message of each zone is placed, one BACKGROUND job is queued, and the substitute
timer starts (R100, R109, R164, R165). -/
def State.startBlocks (s : State) : State :=
  let t := s.placeAllMessages.queueJob .background
  { t with link := { t.link with timer := some t.link.interval } }

/-- A zone at the release of RESETN: its FOLDED entry, then the level of its fault line, which trips it where
active (R164). -/
def State.releaseZone (z : Zone) (s : State) : State :=
  let t := s.updZone z fun _ =>
    { ZoneState.reset (if foldedTableDefault.get z then .on else .off) with faultActive := s.pins.faultLine.get z }
  if s.pins.faultLine.get z then t.trip z else t

/-- RESETN returns inactive; the strap is high where addrsel is true (R122, R164, R166). -/
def State.releaseReset (addrsel : Bool) (s : State) : State :=
  let t := { s with
    pins := { s.pins with resetn := false }
    lookup := { s.lookup with address := if addrsel then 0x3B else 0x3A }
    sampler := { s.sampler with phase := .waiting s.sampler.sampleInterval } }
  let u := zoneList.foldl (fun v z => v.releaseZone z) t
  (if u.pins.drstn then u else u.startBlocks).finish

/-- RESETN_RELEASE; an input that is inactive already is not released (log entry 4). -/
def execResetnRelease (addrsel : Bool) (s : State) : Host.Outcome State Fault Refusal :=
  if s.pins.resetn then .next (s.releaseReset addrsel) else .next s

/-! ## DRSTN -/

/-- A record that DRSTN keeps while Retain is set (R43). -/
def Record.keeps (r : Record) : Bool :=
  r.lifecycle = .inService && (r.live.any fun c => c.attributes.persist)

/-- A slot after DRSTN (R43, R44). -/
def Record.restart (retain : Bool) (r : Record) : Record :=
  if retain && r.keeps then
    { r with pending := none, retirePending := false, commitPending := false, inBuild := false, stale := false,
             showing := .parked, ownedTiles := 0 }
  else Record.free r.generation

/-- The engine at DRSTN (R73). -/
def Engine.restart (e : Engine) : Engine :=
  { epoch := e.epoch + 1, active := Map.empty e.active.layout, phase := .idle,
    claims := { restore := false, target := none, commitLatch := false }, conflict := (0, 0) }

/-- A zone at DRSTN: its settings by Retain, then its mode (R165). -/
def ZoneState.restart (retain : Bool) (entry : Bool) (z : ZoneState) : ZoneState :=
  let w := if retain then z else { z with idleLimit := 0, activityMask := 7, dimLevel := 40 }
  { w with idleTimer := none,
           mode := if w.mode = .tripped ∧ w.faultActive then .tripped else if entry then .on else .off }

/-- The Zone Controller at DRSTN, for the layout that DRSTN keeps (R165). -/
def Zones.restart (retain : Bool) (layout : Layout) (q : Zones) : Zones :=
  let folded := if retain then q.foldedTable else foldedTableDefault
  let unfolded := if retain then q.unfoldedTable else unfoldedTableDefault
  let entries := match layout with
    | .folded => folded
    | .unfolded => unfolded
  { zone := { rear := q.zone.rear.restart retain entries.rear, spine := q.zone.spine.restart retain entries.spine,
              front := q.zone.front.restart retain entries.front }
    foldedTable := folded, unfoldedTable := unfolded, tripDeferred := false }

/-- The Fill Writer at DRSTN (R107, R109). -/
def Fill.restart (retain : Bool) (f : Fill) : Fill :=
  if retain then { f with queue := [], job := none } else Fill.reset

/-- The Transition Controller at DRSTN (R148, R151). -/
def Transition.restart (retain : Bool) (q : Transition) : Transition :=
  if retain then { Transition.reset with prepareWindow := q.prepareWindow, blankHold := q.blankHold }
  else Transition.reset

/-- The Control Port at DRSTN (R183, R185). -/
def Port.restart (retain : Bool) (p : Port) : Port :=
  { Port.reset with mask := if retain then p.mask else 0x3FFF, returned := p.returned }

/-- Every block settles at the assertion of DRSTN (R3, R11, R43, R44, R73, R90, R92, R100, R107, R109, R123, R151,
R165, R178, R185). -/
def State.restartBlocks (s : State) : State :=
  let retain := s.table.retain
  { s with
    port := s.port.restart retain
    keepOuts := if retain then s.keepOuts else Vec.tabulate fun _ => none
    table := { s.table with slots := Vec.tabulate fun i => (s.table.slots[i]).restart retain }
    engine := s.engine.restart
    router := { Router.reset with frameTimeout := if retain then s.router.frameTimeout else 50 }
    link := Link.inReset (if retain then s.link.interval else 40)
    fill := s.fill.restart retain
    transition := s.transition.restart retain
    zones := s.zones.restart retain s.activeLayout
    lookup := { s.lookup with answer := none }
    pins := { s.pins with drstn := true } }

/-- The Region Table raises a RESTORE claim where DRSTN kept a record; it starts at once (R43, R51, R73). -/
def State.claimRestore (s : State) : State :=
  if slotList.any fun i => (s.record i).lifecycle = .inService then
    (s.updClaims fun c => { c with restore := true }).takeClaim
  else s

/-- DRSTN_ASSERT; an input that is asserted already is not asserted again, and while RESETN is asserted only
the level is taken (log entries 4 and 7). -/
def execDrstnAssert (s : State) : Host.Outcome State Fault Refusal :=
  if s.pins.drstn then .next s
  else if s.pins.resetn then .next { s with pins := { s.pins with drstn := true } }
  else .next s.restartBlocks.claimRestore

/-- The idle timer of an ON zone with a non-zero Idle Limit starts (R165). -/
def ZoneState.startIdle (z : ZoneState) : ZoneState :=
  if z.mode = .on then { z with idleTimer := z.startedTimer } else z

/-- A trip deferred by DRSTN sets ZONE_TRIPPED at its release (R165). -/
def State.reportDeferredTrip (s : State) : State :=
  if s.zones.tripDeferred then
    { s with zones := { s.zones with tripDeferred := false } }.setFlag .zoneTripped
  else s

/-- A BEND job deferred by DRSTN is queued at its release (R123). -/
def State.queueDeferredBend (s : State) : State :=
  if s.sampler.bendDeferred then
    { s with sampler := { s.sampler with bendDeferred := false } }.queueJob .bend
  else s

/-- The layout request that the Posture Sampler raises at the release of DRSTN (R123). -/
def State.requestImplied (s : State) : State :=
  match s.sampler.posture.implied with
  | some layout => s.layoutRequest layout
  | none => s

/-- DRSTN returns inactive with RESETN inactive (R100, R109, R123, R165). -/
def State.releaseRestart (s : State) : State :=
  let t := ({ s with pins := { s.pins with drstn := false } }.startBlocks).queueDeferredBend.reportDeferredTrip
  let u := zoneList.foldl (fun v z => v.updZone z ZoneState.startIdle) t
  u.requestImplied.finish

/-- DRSTN_RELEASE; an input that is inactive already is not released, and while RESETN is asserted only the
level is taken (log entries 4 and 7). -/
def execDrstnRelease (s : State) : Host.Outcome State Fault Refusal :=
  if s.pins.drstn then
    if s.pins.resetn then .next { s with pins := { s.pins with drstn := false } }
    else .next s.releaseRestart
  else .next s

end Sys2Proof.Machine
end

