-- ==== Sys2Proof/Machine/TransitionFamily.lean ====
section
/-! DEFINITION. The commands of the Transition Controller: the LAYOUT and TRANSITION requests and the Prepare
timer (chapter 7). -/

namespace Sys2Proof.Machine

/-- LAYOUT READY's decision (R127, R128). -/
def layoutReady : List Byte → State → Decision :=
  withoutParams fun s => if s.transition.state = .prepare then answered s.raiseTarget else refused .badState s

/-- LAYOUT READY (R128). -/
def execLayoutReady (s : State) : Host.Outcome State Fault Refusal := decideRequest 0x60 layoutReady s

/-- LAYOUT PIN's layout (R143). -/
def layoutParam : List Byte → Option Layout
  | [b] => layoutField b
  | _ => none

/-- LAYOUT PIN's decision (R143). -/
def layoutPin (ps : List Byte) (s : State) : Decision :=
  match layoutParam ps with
  | none => refused .badParam s
  | some layout => taken ((s.updTransition fun q => { q with pin := some layout }).actOnLayout layout)

/-- LAYOUT PIN (R143). -/
def execLayoutPin (s : State) : Host.Outcome State Fault Refusal := decideRequest 0x61 layoutPin s

/-- LAYOUT UNPIN's effect (R144). -/
def State.unpin (s : State) : State :=
  let t := s.updTransition fun q => { q with pin := none, setAside := false }
  match s.sampler.posture.implied with
  | some layout => t.actOnLayout layout
  | none => t

/-- LAYOUT UNPIN's decision (R144). -/
def layoutUnpin : List Byte → State → Decision := withoutParams fun s => taken s.unpin

/-- LAYOUT UNPIN (R144). -/
def execLayoutUnpin (s : State) : Host.Outcome State Fault Refusal := decideRequest 0x62 layoutUnpin s

/-- TRANSITION ABORT's effect before the swap: a cancel, and the Pin becomes the active layout (R145). -/
def State.abort (s : State) : State := s.cancel.updTransition fun q => { q with pin := some s.activeLayout }

/-- TRANSITION ABORT's decision (R145). -/
def transitionAbort : List Byte → State → Decision :=
  withoutParams fun s =>
    match s.transition.state with
    | .steady => refused .badState s
    | .settling => refused .tooLate s
    | .prepare => taken s.abort
    | .building => taken s.abort
    | .blanking => taken s.abort
    | .holding => taken s.abort

/-- TRANSITION ABORT (R145). -/
def execTransitionAbort (s : State) : Host.Outcome State Fault Refusal := decideRequest 0x63 transitionAbort s

/-- TRANSITION SET's decision (R148). -/
def transitionSet (ps : List Byte) (s : State) : Decision :=
  match transitionSetParams ps with
  | none => refused .badParam s
  | some (window, hold) =>
    if s.transition.state = .steady then
      answered (s.updTransition fun q =>
        { q with prepareWindow := window.getD q.prepareWindow, blankHold := hold.getD q.blankHold })
    else refused .busy s

/-- TRANSITION SET (R148). -/
def execTransitionSet (s : State) : Host.Outcome State Fault Refusal := decideRequest 0x64 transitionSet s

/-- The time left on the Prepare timer in 2 ms steps rounded up: a free value from 1 to the window it was
started with, and 0 where it does not run (R149; log entry 2). -/
def Transition.prepareLeft (q : Transition) (free : Nat) : Nat :=
  match q.prepareTimer with
  | some window => min (max 1 (Config.prepareTimeLeft free)) (window / 2)
  | none => 0

/-- TRANSITION READ's data (R149). -/
def State.transitionReport (s : State) : TransitionReport :=
  { state := s.transition.state
    target := s.transition.target
    activeLayout := s.activeLayout
    waitingTarget := s.transition.waitingTarget
    pin := s.transition.pin
    commitJoined := s.transition.commitJoined
    prepareLeft := s.transition.prepareLeft s.freeCount
    holdCount := s.transition.holdCount
    blankHold := s.transition.blankHold
    prepareWindow := s.transition.prepareWindow
    lastRequest := s.transition.lastRequest
    setAside := s.transition.setAside }

/-- TRANSITION READ's decision; the free value it may have used is used up (R149; log entry 2). -/
def transitionRead : List Byte → State → Decision :=
  withoutParams fun s => reported (.transition s.transitionReport) { s with freeCount := s.freeCount + 1 }

/-- TRANSITION READ (R149). -/
def execTransitionRead (s : State) : Host.Outcome State Fault Refusal := decideRequest 0x65 transitionRead s

/-- PREPARE_TIMER_EXPIRY; a timer that does not run does not expire (R127; log entry 4). -/
def execPrepareTimerExpiry (s : State) : Host.Outcome State Fault Refusal :=
  if s.transition.prepareTimer.isSome then .next (s.setFlag .prepareExpired).raiseTarget else .next s

end Sys2Proof.Machine
end

