-- ==== Sys2Proof/Machine/ZoneFamily.lean ====
section
/-! DEFINITION. The commands of the Zone Controller: the ZONE requests, the fault lines and the idle timers
(chapter 8). -/

namespace Sys2Proof.Machine

/-! ## Requests -/

/-- ZONE MODE's zone and mode, true for ON (R158). -/
def zoneModeParams : List Byte → Option (Zone × Bool)
  | [zb, mb] => (zoneField zb).bind fun z => (boolField mb).map fun on => (z, on)
  | _ => none

/-- ZONE MODE's decision (R158). -/
def zoneMode (ps : List Byte) (s : State) : Decision :=
  match zoneModeParams ps with
  | none => refused .badParam s
  | some (z, on) =>
    if (s.zoneState z).mode = .tripped then refused .faultActive s
    else taken ((s.updZone z (ZoneState.setTo on)).placeMessage z)

/-- ZONE MODE (R158). -/
def execZoneMode (s : State) : Host.Outcome State Fault Refusal := decideRequest 0x70 zoneMode s

/-- The entries given replace those of one layout (R154). -/
def editTable (rear spine front : Option Bool) (t : PerZone Bool) : PerZone Bool :=
  { rear := rear.getD t.rear, spine := spine.getD t.spine, front := front.getD t.front }

/-- ZONE TABLE's decision (R154). -/
def zoneTable (ps : List Byte) (s : State) : Decision :=
  match zoneTableParams ps with
  | none => refused .badParam s
  | some (.folded, rear, spine, front) =>
    answered { s with zones := { s.zones with foldedTable := editTable rear spine front s.zones.foldedTable } }
  | some (.unfolded, rear, spine, front) =>
    answered { s with zones := { s.zones with unfoldedTable := editTable rear spine front s.zones.unfoldedTable } }

/-- ZONE TABLE (R154). -/
def execZoneTable (s : State) : Host.Outcome State Fault Refusal := decideRequest 0x71 zoneTable s

/-- The settings of a ZONE IDLE; in ON an Idle Limit restarts or stops the timer (R157). -/
def ZoneState.setIdle (limit : Option Nat) (mask : Option (BitVec 3)) (dim : Option Nat) (z : ZoneState) :
    ZoneState :=
  let w := { z with idleLimit := limit.getD z.idleLimit, activityMask := mask.getD z.activityMask,
                    dimLevel := dim.getD z.dimLevel }
  if limit.isSome ∧ z.mode = .on then { w with idleTimer := w.startedTimer } else w

/-- ZONE IDLE's decision; in DIM a Dim Level places the message (R157). -/
def zoneIdle (ps : List Byte) (s : State) : Decision :=
  match zoneIdleParams ps with
  | none => refused .badParam s
  | some (z, limit, mask, dim) =>
    let t := s.updZone z (ZoneState.setIdle limit mask dim)
    if dim.isSome ∧ (s.zoneState z).mode = .dim then taken (t.placeMessage z) else answered t

/-- ZONE IDLE (R157). -/
def execZoneIdle (s : State) : Host.Outcome State Fault Refusal := decideRequest 0x72 zoneIdle s

/-- A parameter that names a zone alone (R162). -/
def zoneParam : List Byte → Option Zone
  | [b] => zoneField b
  | _ => none

/-- A restore that is taken: the table's mode for the active layout, the message, the ZONE job (R162). -/
def State.restoreZone (z : Zone) (s : State) : State :=
  ((s.updZone z (ZoneState.setTo (s.tableEntry s.activeLayout z))).placeMessage z).queueJob (.zone z)

/-- ZONE RESTORE's decision (R162). -/
def zoneRestore (ps : List Byte) (s : State) : Decision :=
  match zoneParam ps with
  | none => refused .badParam s
  | some z =>
    if (s.zoneState z).mode ≠ .tripped then refused .badState s
    else if (s.zoneState z).faultActive then refused .faultActive s
    else taken (s.restoreZone z)

/-- ZONE RESTORE (R162). -/
def execZoneRestore (s : State) : Host.Outcome State Fault Refusal := decideRequest 0x73 zoneRestore s

/-- One zone as ZONE READ gives it; the time left, rounded up, is a free value from 1 to the limit the timer was
started with (R163; log entry 2). -/
def State.zoneReport (s : State) (z : Zone) (free : Nat) : ZoneReport :=
  let q := s.zoneState z
  { mode := q.mode
    firstColumn := s.geometry.firstColumn z
    lastColumn := s.geometry.lastColumn z
    faultActive := q.faultActive
    tripCount := q.tripCount
    idleLimit := q.idleLimit
    idleLeft := q.idleTimer.map fun limit => min (max 1 (Config.idleTimeLeft free)) limit
    activityMask := q.activityMask
    dimLevel := q.dimLevel
    wanted := q.wanted }

/-- ZONE READ's data (R163). -/
def State.zonesReport (s : State) : ZonesReport :=
  { zones := { rear := s.zoneReport .rear s.freeCount, spine := s.zoneReport .spine (s.freeCount + 1),
               front := s.zoneReport .front (s.freeCount + 2) }
    foldedTable := s.zones.foldedTable
    unfoldedTable := s.zones.unfoldedTable }

/-- ZONE READ's decision; the free values it may have used are used up (R163; log entry 2). -/
def zoneRead : List Byte → State → Decision :=
  withoutParams fun s => reported (.zones s.zonesReport) { s with freeCount := s.freeCount + 3 }

/-- ZONE READ (R163). -/
def execZoneRead (s : State) : Host.Outcome State Fault Refusal := decideRequest 0x74 zoneRead s

/-! ## Fault lines and idle timers -/

/-- Change the level of a fault line. -/
def State.setLine (z : Zone) (level : Bool) (s : State) : State :=
  { s with pins := { s.pins with faultLine := s.pins.faultLine.set z level } }

/-- A rising edge is taken: Fault Active, and the trip of a zone that is not TRIPPED (R159, R165). -/
def State.takeRise (z : Zone) (s : State) : State :=
  let t := s.updZone z fun q => { q with faultActive := true }
  if (s.zoneState z).mode = .tripped then t else t.trip z

/-- ZONE_FAULT_RISE; a line that is active already does not rise, and while RESETN is asserted no edge is taken
(R159, R164; log entry 4). -/
def execZoneFaultRise (zone : Zone) (s : State) : Host.Outcome State Fault Refusal :=
  if s.pins.faultLine.get zone then .next s
  else if s.pins.resetn then .next (s.setLine zone true)
  else .next ((s.setLine zone true).takeRise zone).finish

/-- ZONE_FAULT_FALL; a line that is inactive already does not fall, and while RESETN is asserted no edge is
taken (R161, R164; log entry 4). -/
def execZoneFaultFall (zone : Zone) (s : State) : Host.Outcome State Fault Refusal :=
  if s.pins.faultLine.get zone then
    if s.pins.resetn then .next (s.setLine zone false)
    else .next ((s.setLine zone false).updZone zone fun q => { q with faultActive := false })
  else .next s

/-- IDLE_TIMER_EXPIRY; a timer that does not run does not expire (R155; log entry 4). -/
def execIdleTimerExpiry (zone : Zone) (s : State) : Host.Outcome State Fault Refusal :=
  if (s.zoneState zone).idleTimer.isSome then
    .next ((s.updZone zone (ZoneState.leaveOn .dim)).placeMessage zone).finish
  else .next s

end Sys2Proof.Machine
end

