-- ==== Sys2Proof/Machine/Dispatch.lean ====
section
/-! DEFINITION. The meaning of every command: one arm for each constructor of Instr. -/

namespace Sys2Proof.Machine

/-- The effect of a command on everything but the queue of waiting commands. -/
def exec (i : Instr) (s : State) : Host.Outcome State Fault Refusal :=
  match i with
  | .request frame => Sys2Proof.Machine.execRequest frame s
  | .response => Sys2Proof.Machine.execResponse s
  | .status => Sys2Proof.Machine.execStatus s
  | .unknownKindTransaction => Sys2Proof.Machine.execUnknownKindTransaction s
  | .statusRead => Sys2Proof.Machine.execStatusRead s
  | .eventClear => Sys2Proof.Machine.execEventClear s
  | .eventMask => Sys2Proof.Machine.execEventMask s
  | .geometrySet => Sys2Proof.Machine.execGeometrySet s
  | .geometryRead => Sys2Proof.Machine.execGeometryRead s
  | .keepoutSet => Sys2Proof.Machine.execKeepoutSet s
  | .keepoutClear => Sys2Proof.Machine.execKeepoutClear s
  | .keepoutRead => Sys2Proof.Machine.execKeepoutRead s
  | .regionCreate => Sys2Proof.Machine.execRegionCreate s
  | .regionPlace => Sys2Proof.Machine.execRegionPlace s
  | .regionAttributes => Sys2Proof.Machine.execRegionAttributes s
  | .regionRetire => Sys2Proof.Machine.execRegionRetire s
  | .regionDiscard => Sys2Proof.Machine.execRegionDiscard s
  | .regionRead => Sys2Proof.Machine.execRegionRead s
  | .regionList => Sys2Proof.Machine.execRegionList s
  | .tableSet => Sys2Proof.Machine.execTableSet s
  | .commit => Sys2Proof.Machine.execCommit s
  | .mapRead => Sys2Proof.Machine.execMapRead s
  | .streamSet => Sys2Proof.Machine.execStreamSet s
  | .streamRead => Sys2Proof.Machine.execStreamRead s
  | .backgroundSet => Sys2Proof.Machine.execBackgroundSet s
  | .scanSet => Sys2Proof.Machine.execScanSet s
  | .fillRead => Sys2Proof.Machine.execFillRead s
  | .postureSet => Sys2Proof.Machine.execPostureSet s
  | .postureRead => Sys2Proof.Machine.execPostureRead s
  | .layoutReady => Sys2Proof.Machine.execLayoutReady s
  | .layoutPin => Sys2Proof.Machine.execLayoutPin s
  | .layoutUnpin => Sys2Proof.Machine.execLayoutUnpin s
  | .transitionAbort => Sys2Proof.Machine.execTransitionAbort s
  | .transitionSet => Sys2Proof.Machine.execTransitionSet s
  | .transitionRead => Sys2Proof.Machine.execTransitionRead s
  | .zoneMode => Sys2Proof.Machine.execZoneMode s
  | .zoneTable => Sys2Proof.Machine.execZoneTable s
  | .zoneIdle => Sys2Proof.Machine.execZoneIdle s
  | .zoneRestore => Sys2Proof.Machine.execZoneRestore s
  | .zoneRead => Sys2Proof.Machine.execZoneRead s
  | .lookup => Sys2Proof.Machine.execLookup s
  | .verify => Sys2Proof.Machine.execVerify s
  | .point x y => Sys2Proof.Machine.execPoint x y s
  | .lookupPortVerify region generation x y => Sys2Proof.Machine.execLookupPortVerify region generation x y s
  | .rejectedWrite bytes => Sys2Proof.Machine.execRejectedWrite bytes s
  | .answerRead => Sys2Proof.Machine.execAnswerRead s
  | .frameBegin stream width height => Sys2Proof.Machine.execFrameBegin stream width height s
  | .tileRun stream start count tiles => Sys2Proof.Machine.execTileRun stream start count tiles s
  | .streamTile => Sys2Proof.Machine.execStreamTile s
  | .frameEnd stream => Sys2Proof.Machine.execFrameEnd stream s
  | .discardedPacket bytes => Sys2Proof.Machine.execDiscardedPacket bytes s
  | .frameTimerExpiry stream => Sys2Proof.Machine.execFrameTimerExpiry stream s
  | .buildComplete => Sys2Proof.Machine.execBuildComplete s
  | .scanStart => Sys2Proof.Machine.execScanStart s
  | .substituteScanStart => Sys2Proof.Machine.execSubstituteScanStart s
  | .transferComplete => Sys2Proof.Machine.execTransferComplete s
  | .fillJobComplete => Sys2Proof.Machine.execFillJobComplete s
  | .intervalTimerExpiry => Sys2Proof.Machine.execIntervalTimerExpiry s
  | .measurementComplete edges => Sys2Proof.Machine.execMeasurementComplete edges s
  | .prepareTimerExpiry => Sys2Proof.Machine.execPrepareTimerExpiry s
  | .zoneFaultRise zone => Sys2Proof.Machine.execZoneFaultRise zone s
  | .zoneFaultFall zone => Sys2Proof.Machine.execZoneFaultFall zone s
  | .idleTimerExpiry zone => Sys2Proof.Machine.execIdleTimerExpiry zone s
  | .resetnAssert => Sys2Proof.Machine.execResetnAssert s
  | .resetnRelease addrsel => Sys2Proof.Machine.execResetnRelease addrsel s
  | .drstnAssert => Sys2Proof.Machine.execDrstnAssert s
  | .drstnRelease => Sys2Proof.Machine.execDrstnRelease s

end Sys2Proof.Machine
end

