-- ==== Sys2Proof/Machine/Encode.lean ====
section
/-! DEFINITION. The byte forms of R186 written out from typed operands: placement parts, attribute blocks, the
requests with presence bytes, lookup requests and pixel packets, the counterpart of the fields that Decode.lean and
Operands.lean read. -/

namespace Sys2Proof.Machine

/-- A number below 256 in one byte. -/
def byteOf (n : Nat) : Byte := BitVec.ofNat 8 n

/-- A yes-or-no field (R186). -/
def boolByte (b : Bool) : Byte := if b then 0x01 else 0x00

/-- A colour in three bytes, red first (R186). -/
def Colour.bytes (c : Colour) : List Byte := [c.extractLsb' 16 8, c.extractLsb' 8 8, c.extractLsb' 0 8]

/-- The four bytes of a source: Source Kind, then stream and origin, or the colour (R186). -/
def Source.bytes : Source → List Byte
  | .stream n oc orow => [0x01, byteOf n.val, byteOf oc, byteOf orow]
  | .fill c => 0x02 :: Colour.bytes c

/-- The ten bytes of a placement part (R186). -/
def Part.bytes (p : Part) : List Byte :=
  [faceByte (some p.face), byteOf p.rect.baseCol, byteOf p.rect.baseRow, byteOf p.rect.limitCol,
    byteOf p.rect.limitRow, byteOf p.zLevel] ++ p.source.bytes

/-- The Touch field (R186). -/
def Touch.byte : Touch → Byte
  | .route => 0x00
  | .pass => 0x01

/-- The Stale Action field (R186). -/
def StaleAction.byte : StaleAction → Byte
  | .freeze => 0x00
  | .fill => 0x01

/-- The bytes of a field that a presence bit governs: none where it is not given (R186). -/
def givenBytes {α : Type} (write : α → List Byte) : Option α → List Byte
  | some x => write x
  | none => []

/-- The presence byte of an attribute block (R186). -/
def AttributeEdit.presence (e : AttributeEdit) : Byte :=
  bitByte e.ownerToken.isSome 0 ||| bitByte e.touch.isSome 1 ||| bitByte e.persist.isSome 2
    ||| bitByte e.ephemeral.isSome 3 ||| bitByte e.staleLimit.isSome 4 ||| bitByte e.staleAction.isSome 5
    ||| bitByte e.fallback.isSome 6

/-- The bytes of an attribute block: the presence byte, then the attributes given (R186). -/
def AttributeEdit.bytes (e : AttributeEdit) : List Byte :=
  e.presence :: (givenBytes (fun n => [byteOf n]) e.ownerToken ++ givenBytes (fun t => [Touch.byte t]) e.touch
    ++ givenBytes (fun b => [boolByte b]) e.persist ++ givenBytes (fun b => [boolByte b]) e.ephemeral
    ++ givenBytes (fun n => [byteOf n]) e.staleLimit ++ givenBytes (fun a => [StaleAction.byte a]) e.staleAction
    ++ givenBytes Colour.bytes e.fallback)

/-- The attributes given lie in their ranges (R18). -/
def AttributeEdit.inRange (e : AttributeEdit) : Bool :=
  (e.ownerToken.all fun n => n ≤ 63) && e.staleLimit.all fun n => n ≤ 255

/-! ## The other requests with presence bytes -/

/-- The Zone field (R186). -/
def zoneByte : Zone → Byte
  | .rear => 0x00
  | .spine => 0x01
  | .front => 0x02

/-- The Report Mode field (R186). -/
def reportModeByte : ReportMode → Byte
  | .opening => 0x01
  | .closing => 0x02
  | .both => 0x03

/-- A number below 65536 in two bytes (R186). -/
def twoBytes (n : Nat) : List Byte := bytes16 (BitVec.ofNat 16 n)

/-- A number lies within a range, where it is given. -/
def givenWithin (lo hi : Nat) (o : Option Nat) : Bool := o.all fun n => decide (lo ≤ n ∧ n ≤ hi)

/-- The parameters of POSTURE SET (R120, R186). -/
def PostureEdit.bytes (e : PostureEdit) : List Byte :=
  (bitByte e.sampleInterval.isSome 0 ||| bitByte e.foldLimit.isSome 1 ||| bitByte e.openLimit.isSome 2
      ||| bitByte e.debounce.isSome 3 ||| bitByte e.reportMode.isSome 4)
    :: (givenBytes (fun n => [byteOf n]) e.sampleInterval ++ givenBytes twoBytes e.foldLimit
      ++ givenBytes twoBytes e.openLimit ++ givenBytes (fun n => [byteOf n]) e.debounce
      ++ givenBytes (fun m => [reportModeByte m]) e.reportMode)

/-- POSTURE SET carries at least one setting, each in its range (R120). -/
def PostureEdit.inRange (e : PostureEdit) : Bool :=
  (e.sampleInterval.isSome || e.foldLimit.isSome || e.openLimit.isSome || e.debounce.isSome || e.reportMode.isSome)
    && givenWithin 1 64 e.sampleInterval && givenWithin 1 4094 e.foldLimit && givenWithin 1 4094 e.openLimit
    && givenWithin 1 15 e.debounce

/-- The parameters of TRANSITION SET: Prepare Window and Blank Hold (R148, R186). -/
def transitionSetBytes (window hold : Option Nat) : List Byte :=
  (bitByte window.isSome 0 ||| bitByte hold.isSome 1)
    :: (givenBytes twoBytes window ++ givenBytes (fun n => [byteOf n]) hold)

/-- TRANSITION SET carries at least one setting, each in its range (R124, R148). -/
def transitionSetInRange (window hold : Option Nat) : Bool :=
  (window.isSome || hold.isSome) && (window.all fun n => decide (n ≤ 510 ∧ n % 2 = 0)) && givenWithin 0 7 hold

/-- The parameters of ZONE TABLE: the layout and its entries for REAR, SPINE and FRONT (R154, R186). -/
def zoneTableBytes (layout : Layout) (rear spine front : Option Bool) : List Byte :=
  [layoutByte layout, bitByte rear.isSome 0 ||| bitByte spine.isSome 1 ||| bitByte front.isSome 2]
    ++ givenBytes (fun b => [boolByte b]) rear ++ givenBytes (fun b => [boolByte b]) spine
    ++ givenBytes (fun b => [boolByte b]) front

/-- The parameters of ZONE IDLE: the zone, Idle Limit, Activity Mask and Dim Level (R157, R186). -/
def zoneIdleBytes (z : Zone) (limit : Option Nat) (mask : Option (BitVec 3)) (dim : Option Nat) : List Byte :=
  [zoneByte z, bitByte limit.isSome 0 ||| bitByte mask.isSome 1 ||| bitByte dim.isSome 2]
    ++ givenBytes (fun n => [byteOf n]) limit ++ givenBytes (fun m => [m.zeroExtend 8]) mask
    ++ givenBytes (fun n => [byteOf n]) dim

end Sys2Proof.Machine

namespace Sys2Proof

/-- The bytes of a lookup port write (R186). -/
def LookupRequest.bytes : LookupRequest → List Byte
  | .point x y => 0x01 :: (Machine.bytes16 x ++ Machine.bytes16 y)
  | .verify r g x y => [0x02, r, g] ++ Machine.bytes16 x ++ Machine.bytes16 y

/-- The bytes of a packet of the pixel input link; a packet of another kind has none of its own (R186). -/
def Packet.bytes : Packet → List Byte
  | .frameBegin s w h => [0x01, s, w, h]
  | .tileRun s i c tiles => [0x02, s] ++ Machine.bytes16 i ++ [c] ++ tiles.flatten.flatMap Machine.Colour.bytes
  | .frameEnd s => [0x03, s]
  | .discarded => []

end Sys2Proof
end

