-- ==== Sys2Proof/Safety.lean ====
section
/-! DEFINITION. What it means for a state of the block to be lawful: the conditions that the rules say hold at
all times, each named after what it keeps. -/

namespace Sys2Proof.Machine

/-- A step is kept: from every state with the condition, a step that answers a next state answers one with it. -/
def KeptByStep (law : State → Prop) : Prop := ∀ s t : State, law s → step s = .next t → law t

/-- A request with a code and parameters is held (R180). -/
abbrev State.Holds (s : State) (code : Byte) (params : List Byte) : Prop := s.port.request = some { code, params }

/-- The state with the response in the response buffer and no request held (R180). -/
def State.responds (s : State) (code : Byte) (result : Result) (data : Data) : State :=
  { s with port := { s.port with request := none, response := some { code, result, data } } }

/-- Nothing of a state is left to settle on the link. -/
def State.LinkSettled (s : State) : Prop := s.settleLink = s

/-! ## The panel link -/

/-- Rounds of one grant and new offers lead from a state to one in which the arbiter has nothing to decide (R96). -/
inductive State.Rounds : State → State → Prop where
  | done (s : State) : s.arbitrate = none → State.Rounds s s
  | round (s t u : State) : s.arbitrate = some t → State.Rounds t.offerAll u → State.Rounds s u

/-- No tile write on the link is to a tile held by a HOLE, to a tile kept out by an applied BEND entry (but a
darkening write), or to a tile of a TRIPPED zone (R94). -/
def State.LinkProtected (s : State) : Prop :=
  ∀ w : TileWrite, s.link.flight = some (.tile w) → s.protectionFails w = false

/-- No stream tile write in hand, waiting or on the link is to a tile that the blanking test holds back (R131). -/
def State.StreamsBlanked (s : State) : Prop :=
  (∀ w : TileWrite, s.link.flight = some (.tile w) → w.kind = .stream → s.heldBack w.tile = false)
    ∧ (∀ w : TileWrite, s.link.streamWaiting = some w → s.heldBack w.tile = false)
    ∧ (∀ w ∈ s.router.handing, s.heldBack w.tile = false)
    ∧ (∀ w : TileWrite, s.link.fillWaiting = some w → w.kind ≠ .stream)

/-- At most 8 stream tile writes have been granted while a fill tile write waited (R96). -/
def State.FillServed (s : State) : Prop := s.link.fillWaitCount ≤ 8

/-- No two waiting fill jobs have the same key (R101). -/
def State.QueueDistinct (s : State) : Prop := s.fill.queue.Nodup

/-! ## Canonical forms -/

/-- The maps of the engine and the panel's frame memory are in canonical form. -/
def State.Canonical (s : State) : Prop :=
  s.engine.active.wf = true ∧ s.panel.wf = true ∧
    match s.engine.phase with
    | .idle => True
    | .building _ => True
    | .ready _ m => m.wf = true
    | .draining m _ => m.wf = true

/-! ## Records -/

/-- Which parts of a record exist in its lifecycle state, and which flags may be set (R21, R22, R23). -/
def Record.Lawful (r : Record) : Prop :=
  match r.lifecycle with
  | .free => r = Record.free r.generation
  | .staged =>
    r.live = none ∧ r.pending.isSome ∧ r.commitPending = true ∧ r.retirePending = false ∧ r.stale = false
      ∧ r.showing = .parked ∧ r.ownedTiles = 0 ∧ r.generation ≠ 0
  | .inService =>
    r.live.isSome ∧ (r.commitPending = true ↔ r.pending.isSome ∨ r.retirePending = true)
      ∧ (r.inBuild = true → r.commitPending = true) ∧ (r.retirePending = true → r.pending = none)
      ∧ r.generation ≠ 0
  | .quarantine =>
    r.pending = none ∧ r.commitPending = false ∧ r.retirePending = false ∧ r.inBuild = false ∧ r.stale = false
      ∧ r.showing = .parked ∧ r.ownedTiles = 0

/-- Every record is lawful (R23). -/
def State.RecordsLawful (s : State) : Prop := ∀ i : Slot, (s.record i).Lawful

/-- A content has at least one part, and each part passes R20 for its layout (R19, R20). -/
def Content.Fits (g : Geometry) (c : Content) : Prop :=
  (c.folded.isSome ∨ c.unfolded.isSome) ∧ (∀ p, c.folded = some p → p.admitted g .folded = true)
    ∧ (∀ p, c.unfolded = some p → p.admitted g .unfolded = true)

/-- The placements of the records in use lie within their faces (R20). -/
def State.PlacementsFit (s : State) : Prop :=
  ∀ i : Slot, ((s.record i).lifecycle = .staged ∨ (s.record i).lifecycle = .inService) →
    (∀ c, (s.record i).live = some c → c.Fits s.geometry) ∧ (∀ c, (s.record i).pending = some c → c.Fits s.geometry)

/-- The Owned Tiles of every IN_SERVICE record count its tiles in the ACTIVE map (R22). -/
def State.OwnedCounted (s : State) : Prop :=
  ∀ i : Slot, (s.record i).lifecycle = .inService → (s.record i).ownedTiles = s.engine.active.ownedCount i

/-! ## Ownership -/

/-- A placement's physical rectangle contains a tile (R8, R169). -/
def Geometry.coversTile (g : Geometry) (p : Part) (t : Nat) : Bool :=
  (g.physicalRect p.face p.rect).contains (tileCol t) (tileRow t)

/-- Every owner in the ACTIVE map is an IN_SERVICE, SHOWN record whose live placement for the active layout
covers the tile (R65). -/
def State.OwnersShown (s : State) : Prop :=
  ∀ (t : Nat) (i : Slot), s.engine.active.owner t = some i →
    s.isShown i = true ∧ ∃ p, s.activePart i = some p ∧ s.geometry.coversTile p t = true

/-- What a build has taken still stands in the record, and will be its live copy at the swap; a record that it excludes
is IN_SERVICE (R32, R34, R55). -/
def Contribution.Stands (r : Record) : Contribution → Prop
  | .taken c true => r.pending = some c ∧ r.inBuild = true ∧ r.retirePending = false
      ∧ (r.lifecycle = .staged ∨ r.lifecycle = .inService)
  | .taken c false => r.live = some c ∧ r.inBuild = false ∧ r.lifecycle = .inService
  | .leaving => True
  | .carried _ => True
  | .excluded => r.lifecycle = .inService
  | .absent => True

/-- A build and the records agree: its geometry is in force, In Build is set on the records it includes and on no
other, and what it has taken still stands (R28, R33, R49). -/
def State.BuildStands (s : State) (b : Build) : Prop :=
  b.geometry = s.geometry ∧
    ∀ i : Slot, (s.record i).inBuild = b.snapshot[i].included ∧ (b.snapshot[i]).Stands (s.record i)

/-- The build or map that the engine holds agrees with the records and the geometry; with no build held, no record
has In Build set (R28, R33, R49). -/
def State.SnapshotStands (s : State) : Prop :=
  match s.engine.phase with
  | .idle => ∀ i : Slot, (s.record i).inBuild = false
  | .building b => s.BuildStands b
  | .ready b m => m = b.map ∧ s.BuildStands b
  | .draining _ _ => ∀ i : Slot, (s.record i).inBuild = false

/-! ## Frames -/

/-- Every open frame carries the active epoch or, while its map is held, the epoch before it (R49, R68). -/
def State.EpochsNear (s : State) : Prop :=
  (∀ (n : Fin 8) (f : Frame), s.router.streams[n].frame = some f →
    f.stamp = s.engine.epoch ∨ ∃ m, s.engine.phase = .draining m f.stamp)
    ∧ ∀ m e, s.engine.phase = .draining m e → e + 1 = s.engine.epoch

/-- An open frame has a size and a Next Index in their ranges; a routed run fits its frame, whose timer is stopped; in
a dropped run an open frame of its stream is Malformed and its timer is stopped (R75, R77, R78). -/
def State.FramesLawful (s : State) : Prop :=
  (∀ (n : Fin 8) (f : Frame), s.router.streams[n].frame = some f →
    1 ≤ f.width ∧ f.width ≤ 128 ∧ 1 ≤ f.height ∧ f.height ≤ 112 ∧ f.next ≤ f.width * f.height)
    ∧ ∀ r, s.router.run = some r →
      (r.routed = true → ∃ f, s.router.streams[r.stream].frame = some f ∧ f.timer = none
        ∧ f.next + r.tiles.length ≤ f.width * f.height)
      ∧ (r.routed = false → ∀ f, s.router.streams[r.stream].frame = some f → f.timer = none ∧ f.malformed = true)

/-! ## Posture, transition, zones, port -/

/-- BEND Applied is set exactly while the posture is PARTIAL or UNKNOWN (R117). -/
def State.BendFollows (s : State) : Prop := s.sampler.bendApplied = s.sampler.posture.bends

/-- The debounce run, the Invalid Run and the limits keep their ranges (R113, R114, R120). -/
def State.SamplerLawful (s : State) : Prop :=
  (s.sampler.runClass = none ↔ s.sampler.runLength = 0) ∧ s.sampler.runLength < s.sampler.debounce
    ∧ s.sampler.foldLimit < s.sampler.openLimit ∧ s.sampler.invalidRun ≤ 8
    ∧ (s.sampler.invalidRun = 8 → s.sampler.posture = .unknown)

/-- The fields of the Transition Controller agree with its state and the active layout (R124, R125, R133). -/
def State.TransitionFields (s : State) : Prop :=
  let q := s.transition
  (q.state = .steady → q.target = none)
    ∧ (q.state = .settling → q.target = some s.activeLayout)
    ∧ (q.state ≠ .steady → q.state ≠ .settling → q.target = some s.activeLayout.other)
    ∧ (q.waitingTarget = none ∨ (q.state = .settling ∧ q.waitingTarget = some s.activeLayout.other))
    ∧ (q.prepareTimer.isSome ↔ q.state = .prepare)
    ∧ (q.commitJoined = true → q.state ≠ .steady ∧ q.state ≠ .settling)
    ∧ (q.holdCount ≠ 0 → q.state = .holding) ∧ q.holdCount ≤ q.blankHold ∧ q.blankHold ≤ 7

/-- The engine's TARGET work is the transition's: a claim or a build in BUILDING, a READY map in BLANKING and
HOLDING; other builds are of the active layout; an IDLE engine has no claim waiting (R51, R54, R56, R130). -/
def State.EngineAgrees (s : State) : Prop :=
  (∀ layout, s.engine.claims.target = some layout →
      s.transition.state = .building ∧ s.transition.target = some layout) ∧
    match s.engine.phase with
    | .idle => s.engine.claims.waits = false ∧ s.transition.state ≠ .building ∧ s.blankingOn = false
    | .building b =>
      (if b.kind = .target then
        s.transition.state = .building ∧ s.transition.target = some b.layout ∧ s.engine.claims.target = none
      else b.layout = s.activeLayout ∧ (s.transition.state = .building → s.engine.claims.target.isSome))
        ∧ s.blankingOn = false
    | .ready b m =>
      m.layout = b.layout ∧
        if b.kind = .target then
          s.blankingOn = true ∧ s.transition.target = some b.layout ∧ s.engine.claims.target = none
        else b.layout = s.activeLayout ∧ (s.transition.state = .building → s.engine.claims.target.isSome)
          ∧ s.blankingOn = false
    | .draining _ _ => (s.transition.state = .building → s.engine.claims.target.isSome) ∧ s.blankingOn = false

/-- The state of a zone is in its ranges, and its idle timer runs only in ON with an Idle Limit (R152, R155). -/
def ZoneState.Lawful (z : ZoneState) : Prop :=
  z.tripCount ≤ 255 ∧ z.idleLimit ≤ 255 ∧ z.dimLevel ≤ 255 ∧ (z.idleTimer.isSome → z.mode = .on ∧ 1 ≤ z.idleLimit)

/-- The zones are lawful; outside the resets the idle timer of an ON zone with an Idle Limit runs, and Fault
Active is the level of the fault line (R152, R155, R159, R161). -/
def State.ZonesLawful (s : State) : Prop :=
  ∀ z : Zone, (s.zoneState z).Lawful
    ∧ (s.inReset = false → (s.zoneState z).mode = .on → 1 ≤ (s.zoneState z).idleLimit →
        (s.zoneState z).idleTimer.isSome)
    ∧ (s.pins.resetn = false → (s.zoneState z).faultActive = s.pins.faultLine.get z)

/-- The port never holds a request while a response waits (R180). -/
def State.PortExclusive (s : State) : Prop := s.port.request = none ∨ s.port.response = none

end Sys2Proof.Machine
end

