-- ==== Sys2Proof/WellFormed.lean ====
section
/-! DEFINITION. The commands whose operands are such as the hardware can meet. -/

namespace Sys2Proof

/-- Rising edges arrive one after another, each in a tick of its own: that no two of them share one tick of 1 us, so
that no Sample is below 4, is the model's choice, since R111 does not say it (log entry 20). -/
def risingTimes : List Nat → Bool
  | a :: b :: rest => a < b && risingTimes (b :: rest)
  | _ => true

/-- A packet that the router takes: its stream is 0 to 7 and its length is the one its header gives (R74). -/
def Packet.taken : Packet → Bool
  | .frameBegin s _ _ => s.toNat ≤ 7
  | .tileRun s _ c tiles => s.toNat ≤ 7 && tiles.length = c.toNat && tiles.all (fun t => t.length = 256)
  | .frameEnd s => s.toNat ≤ 7
  | .discarded => false

/-- A well-formed command: a packet is one the router takes, or the row is DISCARDED_PACKET; a lookup
port write is one of the two lookups, or the row is REJECTED_WRITE and it carries a byte; the edges of
a measurement rise one after another. -/
def Instr.wellFormed : Instr → Bool
  | .request _ => true
  | .response => true
  | .status => true
  | .unknownKindTransaction => true
  | .statusRead => true
  | .eventClear => true
  | .eventMask => true
  | .geometrySet => true
  | .geometryRead => true
  | .keepoutSet => true
  | .keepoutClear => true
  | .keepoutRead => true
  | .regionCreate => true
  | .regionPlace => true
  | .regionAttributes => true
  | .regionRetire => true
  | .regionDiscard => true
  | .regionRead => true
  | .regionList => true
  | .tableSet => true
  | .commit => true
  | .mapRead => true
  | .streamSet => true
  | .streamRead => true
  | .backgroundSet => true
  | .scanSet => true
  | .fillRead => true
  | .postureSet => true
  | .postureRead => true
  | .layoutReady => true
  | .layoutPin => true
  | .layoutUnpin => true
  | .transitionAbort => true
  | .transitionSet => true
  | .transitionRead => true
  | .zoneMode => true
  | .zoneTable => true
  | .zoneIdle => true
  | .zoneRestore => true
  | .zoneRead => true
  | .lookup => true
  | .verify => true
  | .point _ _ => true
  | .lookupPortVerify _ _ _ _ => true
  | .rejectedWrite bytes => !bytes.isEmpty && (parseLookup bytes).isNone
  | .answerRead => true
  | .frameBegin s w h => (Packet.frameBegin s w h).taken
  | .tileRun s i c tiles => (Packet.tileRun s i c tiles).taken
  | .streamTile => true
  | .frameEnd s => (Packet.frameEnd s).taken
  | .discardedPacket bytes => (parsePacket bytes).isNone
  | .frameTimerExpiry _ => true
  | .buildComplete => true
  | .scanStart => true
  | .substituteScanStart => true
  | .transferComplete => true
  | .fillJobComplete => true
  | .intervalTimerExpiry => true
  | .measurementComplete edges => risingTimes edges
  | .prepareTimerExpiry => true
  | .zoneFaultRise _ => true
  | .zoneFaultFall _ => true
  | .idleTimerExpiry _ => true
  | .resetnAssert => true
  | .resetnRelease _ => true
  | .drstnAssert => true
  | .drstnRelease => true

end Sys2Proof
end

