-- ==== Sys2Proof/Certificates/Slice0/Obligations.lean ====
section
/-! DEFINITION. The statements for the provers, one Prop each, in the order of OBLIGATIONS.json. -/

open Sys2Proof Sys2Proof.Machine

/-! ## The queue of commands -/

/-- The front command of the queue is run on the state with the queue's rest; an empty queue idles. The queue and the
idling are the model's (log entry 1). -/
def Obligations.StepRunsFront : Prop :=
  (∀ (c : Instr) (rest : List Instr) (s : State), s.pending = c :: rest → step s = exec c { s with pending := rest })
    ∧ ∀ s : State, s.pending = [] → step s = .next s

/-- Every command completes from every state and leaves the queue alone. That it completes, unchanged, also where the part
rules its event out (log entry 4), and the queue it leaves alone (log entry 1), are the model's choice. -/
def Obligations.EveryCommandCompletes : Prop :=
  ∀ (c : Instr) (s : State), ∃ t, exec c s = .next t ∧ t.pending = s.pending

/-! ## The control port -/

/-- REQUEST: a frame with a known code and all its parameter bytes is held when the port holds nothing; bytes beyond the
parameters are ignored; on top of a request or a response it is an overrun; while a reset input is asserted it is
discarded (R179, R180). The 00H returned in a REQUEST outside reset is the model's choice (log entry 24). REQUEST: a
frame with an unknown code, a Parameter Length above 60 or too few parameter bytes is answered BAD_REQUEST at once,
without data and without any other effect (R180); a frame cut short before its length byte is truncated, and the code
echoed where none was sent is a free value (log entry 13). -/
def Obligations.RequestTransaction : Prop :=
  (
    ∀ s : State,
      (∀ (code : Byte) (params extra : List Byte), s.inReset = false → s.port.request = none →
        s.port.response = none → code ∈ requestCodes → params.length ≤ 60 →
        exec (.request (code :: byteOf params.length :: (params ++ extra))) s =
          .next { s with port := { s.port with request := some { code, params }, returned := .zeros } })
      ∧ (∀ frame : List Byte, s.inReset = false → (s.port.request ≠ none ∨ s.port.response ≠ none) →
        exec (.request frame) s =
          .next { s with port := { s.port with overrun := true, returned := .zeros,
                                               flags := s.port.flags ||| EventFlag.portOverrun.bit } })
      ∧ (∀ frame : List Byte, s.inReset = true →
        exec (.request frame) s = .next { s with port := { s.port with returned := .zeros } }))
  ∧ (
    ∀ s : State, s.inReset = false → s.port.request = none → s.port.response = none →
      (∀ (code len : Byte) (ps : List Byte),
        (code ∉ requestCodes ∨ 60 < len.toNat ∨ ps.length < len.toNat) →
        exec (.request (code :: len :: ps)) s =
          .next { s with port := { s.port with response := some { code, result := .badRequest, data := .empty },
                                               returned := .zeros } })
      ∧ (∀ code : Byte, exec (.request [code]) s =
          .next { s with port := { s.port with response := some { code, result := .badRequest, data := .empty },
                                               returned := .zeros } })
      ∧ ∃ code : Byte, exec (.request []) s =
          .next { s with freeCount := s.freeCount + 1,
                         port := { s.port with response := some { code, result := .badRequest, data := .empty },
                                               returned := .zeros } })

/-- RESPONSE returns the response and empties the buffer, or returns NOTHING; STATUS returns the port status byte and the
flags and clears Overrun; a transaction of another kind returns 00H; while a reset input is asserted every transaction
returns 00H and changes nothing; bytes returned beyond a frame read 00H. The kind byte selects the command of a
transaction: 01H, 02H, 03H, any other or none; a transaction in progress when a reset input is asserted gives no
command; any other gives its command: of a RESPONSE or STATUS where its first returned byte fixes it, of a REQUEST at
its release (R179, R180, R181, R186). What was returned is kept in a field of the model's, and the command of a
transaction joins the model's queue (log entries 1, 9 and 19); that a RESPONSE or STATUS of its kind byte alone, which
returned no byte, gives no command is an inference of the model's (log entry 25). -/
def Obligations.PortTransactions : Prop :=
  ∀ s : State,
    (∀ r : Response, s.inReset = false → s.port.response = some r →
      exec .response s = .next { s with port := { s.port with response := none, returned := .response r } })
    ∧ (s.inReset = false → s.port.response = none →
      exec .response s = .next { s with port := { s.port with
        returned := .response { code := 0, result := .nothing, data := .empty } } })
    ∧ (s.inReset = false → ∃ status : Byte,
      exec .status s = .next { s with port := { s.port with
        overrun := false, returned := .status status (s.port.flags.zeroExtend 16) } }
      ∧ status.getLsbD 0 = s.port.request.isSome ∧ status.getLsbD 1 = s.port.response.isSome
      ∧ status.getLsbD 2 = s.port.overrun ∧ status.getLsbD 3 = s.notify ∧ status.toNat < 16)
    ∧ exec .unknownKindTransaction s = .next { s with port := { s.port with returned := .zeros } }
    ∧ (s.inReset = true → exec .response s = .next { s with port := { s.port with returned := .zeros } }
      ∧ exec .status s = .next { s with port := { s.port with returned := .zeros } })
    ∧ (∀ k : Nat, PortReturn.zeros.byte k = some 0x00
      ∧ (∀ (b : Byte) (flags : BitVec 16),
        (PortReturn.status b flags).byte k = some ([b, flags.extractLsb' 8 8, flags.extractLsb' 0 8].getD k 0x00))
      ∧ ∀ r : Response, (PortReturn.response r).byte k = some (r.frame.getD k 0x00)
        ∧ (PortReturn.response r).byte 0 = some r.code ∧ (PortReturn.response r).byte 1 = some r.result.byte)
    ∧ (∀ sent : List Byte, transactionCommand (0x01 :: sent) = some (.request sent)
      ∧ (sent ≠ [] → transactionCommand (0x02 :: sent) = some .response
        ∧ transactionCommand (0x03 :: sent) = some .status)
      ∧ ∀ kind : Byte, kind ≠ 0x01 → kind ≠ 0x02 → kind ≠ 0x03 →
        transactionCommand (kind :: sent) = some .unknownKindTransaction)
    ∧ transactionCommand [] = some .unknownKindTransaction
    ∧ transactionCommand [0x02] = none ∧ transactionCommand [0x03] = none
    ∧ ∀ (early late : List Instr) (bytes : List Byte),
      let command := transactionCommand bytes
      let during := early ++ late
      ((Instr.resetnAssert ∈ during ∨ Instr.drstnAssert ∈ during) →
        s.portTransaction early late bytes = { s with pending := s.pending ++ during })
      ∧ (Instr.resetnAssert ∉ during → Instr.drstnAssert ∉ during →
        (command = none → s.portTransaction early late bytes = { s with pending := s.pending ++ during })
        ∧ ∀ c : Instr, command = some c →
          ((c = .response ∨ c = .status) →
            s.portTransaction early late bytes = { s with pending := s.pending ++ early ++ [c] ++ late })
          ∧ (c ≠ .response → c ≠ .status →
            s.portTransaction early late bytes = { s with pending := s.pending ++ during ++ [c] }))

/-- Every decision of a held request empties the request buffer and fills the response buffer with its own code (R180);
where that request is not held it changes nothing (log entries 3 and 4). The codes are those that REQUEST takes. A
request without parameters that carries one is refused with BAD_PARAM and changes nothing else (R186); that this is so
in every state, also in one in which COMMIT is refused with BUSY, LAYOUT READY with BAD_STATE or TRANSITION ABORT with
BAD_STATE or TOO_LATE, is the model's choice of order (R53, R128, R145; log entry 11). -/
def Obligations.DecisionsAnswer : Prop :=
  (
    decisionCommands.map Prod.fst = requestCodes
      ∧ ∀ d ∈ decisionCommands, ∀ s : State,
        (∀ params : List Byte, s.Holds d.1 params →
          ∃ t r, exec d.2 s = .next t ∧ t.port.request = none ∧ t.port.response = some r ∧ r.code = d.1)
        ∧ ((∀ params : List Byte, ¬ s.Holds d.1 params) → exec d.2 s = .next s))
  ∧ (
    ∀ d ∈ [((0x01 : Byte), Instr.statusRead), (0x11, .geometryRead), (0x14, .keepoutRead), (0x26, .regionList),
           (0x30, .commit), (0x41, .streamRead), (0x44, .fillRead), (0x51, .postureRead), (0x60, .layoutReady),
           (0x62, .layoutUnpin), (0x63, .transitionAbort), (0x65, .transitionRead), (0x74, .zoneRead)],
      ∀ (s : State) (b : Byte) (params : List Byte), s.Holds d.1 (b :: params) →
        exec d.2 s = .next (s.responds d.1 .badParam .empty))

/-- EVENT CLEAR clears the flags in whose places it has a 1; EVENT MASK replaces the mask; a request that does not carry
exactly fourteen places is refused with BAD_PARAM (R182, R183). NOTIFY is asserted exactly while a flag is set whose
enable is set (R183). An event flag is cleared by EVENT CLEAR and by the assertion of a reset alone, and no flag is
set while a reset input is asserted (R182, R185). -/
def Obligations.EventFlags : Prop :=
  (
    (
      ∀ s : State,
        (∀ hi lo : Byte, (be16 hi lo).toNat < 16384 →
          (s.Holds 0x02 [hi, lo] → exec .eventClear s =
            .next ({ s with port := { s.port with flags := s.port.flags &&& ~~~((be16 hi lo).truncate 14) } }.responds
              0x02 .ok .empty))
          ∧ (s.Holds 0x03 [hi, lo] → exec .eventMask s =
            .next ({ s with port := { s.port with mask := (be16 hi lo).truncate 14 } }.responds 0x03 .ok .empty)))
        ∧ ∀ ps : List Byte, (∀ hi lo : Byte, ps = [hi, lo] → 16384 ≤ (be16 hi lo).toNat) →
          (s.Holds 0x02 ps → exec .eventClear s = .next (s.responds 0x02 .badParam .empty))
          ∧ (s.Holds 0x03 ps → exec .eventMask s = .next (s.responds 0x03 .badParam .empty)))
    ∧ (
      ∀ s : State, s.notify = true ↔ ∃ f : EventFlag, s.flag f = true ∧ s.port.mask.getLsbD f.place = true))
  ∧ (
    ∀ (c : Instr) (s t : State) (f : EventFlag), exec c s = .next t →
      (s.flag f = true → t.flag f = false → c = .eventClear ∨ c = .resetnAssert ∨ c = .drstnAssert)
      ∧ (t.inReset = true → s.flag f = false → t.flag f = false))

/-- The read requests whose data is all held state: each is answered OK with that state and changes nothing else (R6, R15,
R41, R91, R121, R184). That the data is typed (log entry 8), and that POSTURE READ gives the class as kept at the
completion (log entry 12), are the model's. -/
def Obligations.ReadRequests : Prop :=
  ∀ s : State,
    (s.Holds 0x01 [] → exec .statusRead s = .next (s.responds 0x01 .ok (.status
      { flags := s.port.flags, mask := s.port.mask,
        engine := match s.engine.phase with
          | .idle => .idle
          | .building _ => .building
          | .ready _ _ => .ready
          | .draining _ _ => .draining
        build := match s.engine.phase with
          | .idle => none
          | .building b => some b.kind
          | .ready b _ => some b.kind
          | .draining _ _ => none
        claims := s.engine.claims, epoch := s.engine.epoch, layout := s.engine.active.layout,
        conflict := s.engine.conflict, staleMap := slotList.map fun i => (s.record i).stale,
        transition := s.transition.state, posture := s.sampler.posture,
        lastDirection := s.sampler.lastDirection, bendApplied := s.sampler.bendApplied })))
    ∧ (s.Holds 0x11 [] → exec .geometryRead s = .next (s.responds 0x11 .ok (.geometry
      { spineStart := s.geometry.spineStart, spineWidth := s.geometry.spineWidth,
        widths := { rear := s.geometry.spineStart, spine := s.geometry.spineWidth,
                    front := 128 - s.geometry.spineStart - s.geometry.spineWidth }
        locked := s.geometryLock })))
    ∧ (s.Holds 0x14 [] → exec .keepoutRead s = .next (s.responds 0x14 .ok (.keepOuts
      { entries := s.keepOuts.toList.map fun e => e.map fun k =>
          (k, match k.kind with
              | .hole => true
              | .bend => s.sampler.bendApplied)
        bendApplied := s.sampler.bendApplied, locked := s.geometryLock
        keptOutTiles := (List.range 14336).countP fun t => keptOut s.keepOuts s.sampler.bendApplied t })))
    ∧ (s.Holds 0x26 [] → exec .regionList s = .next (s.responds 0x26 .ok (.regionList
      { entries := (slotList.filter fun i => (s.record i).lifecycle ≠ .free).map fun i =>
          { region := i.val + 1, generation := (s.record i).generation, lifecycle := (s.record i).lifecycle,
            showing := (s.record i).showing }
        free := slotList.countP fun i => (s.record i).lifecycle = .free
        staged := slotList.countP fun i => (s.record i).lifecycle = .staged
        inService := slotList.countP fun i => (s.record i).lifecycle = .inService
        quarantine := slotList.countP fun i => (s.record i).lifecycle = .quarantine
        quarantineLength := s.table.quarantineLength, retain := s.table.retain })))
    ∧ (s.Holds 0x41 [] → exec .streamRead s = .next (s.responds 0x41 .ok (.streams
      { frameTimeout := s.router.frameTimeout
        streams := s.router.streams.toList.map fun st =>
          { frame := st.frame.map fun f =>
              ({ stamp := f.stamp, width := f.width, height := f.height, next := f.next, malformed := f.malformed,
                 stampActive := decide (f.stamp = s.engine.epoch) } : FrameReport)
            completed := st.completed, last := st.last }
        staleCounts := s.router.staleCounts.toList })))
    ∧ (s.Holds 0x51 [] → exec .postureRead s = .next (s.responds 0x51 .ok (.posture
      { lastSample := s.sampler.lastSample, status := s.sampler.status, lastClass := s.sampler.lastClass,
        posture := s.sampler.posture
        impliedLayout := match s.sampler.posture with
          | .folded => some .folded
          | .unfolded => some .unfolded
          | .partly => none
          | .unknown => none
        runClass := s.sampler.runClass, runLength := s.sampler.runLength, invalidRun := s.sampler.invalidRun,
        lastDirection := s.sampler.lastDirection, bendApplied := s.sampler.bendApplied,
        measuring := decide (s.sampler.phase = .measuring), sampleInterval := s.sampler.sampleInterval,
        foldLimit := s.sampler.foldLimit, openLimit := s.sampler.openLimit, debounce := s.sampler.debounce,
        reportMode := s.sampler.reportMode })))

/-- The read requests that give a time left or a Position are answered OK with the held state and change nothing else; the
time left, rounded up and so never 0 while the timer runs, and the Position past the last tile are free values in
their ranges, of which the counter freeCount keeps account (R108, R149, R163; log entries 2 and 14). That the data is
typed (log entry 8), and that the transfer in flight is told as one of three kinds, a stream tile write apart from a
fill tile write (R93; log entry 26), are the model's choice. -/
def Obligations.TimedReadRequests : Prop :=
  ∀ s : State,
    (s.Holds 0x44 [] → ∃ job, exec .fillRead s =
      .next ({ s with freeCount := s.freeCount + 1 }.responds 0x44 .ok (.fill
        { job, queue := s.fill.queue, idle := s.fill.job.isNone && s.fill.queue.isEmpty,
          fillWaits := s.link.fillWaiting.isSome, streamWaits := s.link.streamWaiting.isSome,
          fillWaitCount := s.link.fillWaitCount
          flight := s.link.flight.map fun (f : Transfer) =>
            (match f with
            | .message _ _ => TransferKind.message
            | .tile w => match w.kind with
              | .stream => TransferKind.streamTile
              | .fill _ _ => TransferKind.fillTile)
          slots := s.link.slots, foldedColour := s.fill.foldedColour, unfoldedColour := s.fill.unfoldedColour,
          interval := s.link.interval }))
      ∧ (s.fill.job = none → job = none)
      ∧ ∀ j, s.fill.job = some j → ∃ col row, job = some (j.key, col, row) ∧ col < 128 ∧ row < 112
        ∧ (j.position < 14336 → j.position = 128 * row + col))
    ∧ (s.Holds 0x65 [] → ∃ left : Nat, exec .transitionRead s =
      .next ({ s with freeCount := s.freeCount + 1 }.responds 0x65 .ok (.transition
        { state := s.transition.state, target := s.transition.target, activeLayout := s.engine.active.layout,
          waitingTarget := s.transition.waitingTarget, pin := s.transition.pin,
          commitJoined := s.transition.commitJoined, prepareLeft := left, holdCount := s.transition.holdCount,
          blankHold := s.transition.blankHold, prepareWindow := s.transition.prepareWindow,
          lastRequest := s.transition.lastRequest, setAside := s.transition.setAside }))
      ∧ (s.transition.prepareTimer = none → left = 0)
      ∧ ∀ window, s.transition.prepareTimer = some window → 2 * left ≤ window ∧ (2 ≤ window → 1 ≤ left))
    ∧ (s.Holds 0x74 [] → ∃ left : Zone → Option Nat,
      (∀ z, (left z).isSome = (s.zoneState z).idleTimer.isSome)
      ∧ (∀ z n limit, left z = some n → (s.zoneState z).idleTimer = some limit →
        n ≤ limit ∧ (1 ≤ limit → 1 ≤ n))
      ∧ exec .zoneRead s = .next ({ s with freeCount := s.freeCount + 3 }.responds 0x74 .ok (.zones
        { zones :=
            { rear := { mode := (s.zoneState .rear).mode, firstColumn := 0,
                        lastColumn := s.geometry.spineStart - 1,
                        faultActive := (s.zoneState .rear).faultActive, tripCount := (s.zoneState .rear).tripCount,
                        idleLimit := (s.zoneState .rear).idleLimit, idleLeft := left .rear,
                        activityMask := (s.zoneState .rear).activityMask, dimLevel := (s.zoneState .rear).dimLevel,
                        wanted := (s.zoneState .rear).wanted }
              spine := { mode := (s.zoneState .spine).mode, firstColumn := s.geometry.spineStart,
                         lastColumn := s.geometry.spineStart + s.geometry.spineWidth - 1,
                         faultActive := (s.zoneState .spine).faultActive,
                         tripCount := (s.zoneState .spine).tripCount,
                         idleLimit := (s.zoneState .spine).idleLimit, idleLeft := left .spine,
                         activityMask := (s.zoneState .spine).activityMask,
                         dimLevel := (s.zoneState .spine).dimLevel, wanted := (s.zoneState .spine).wanted }
              front := { mode := (s.zoneState .front).mode,
                         firstColumn := s.geometry.spineStart + s.geometry.spineWidth, lastColumn := 127,
                         faultActive := (s.zoneState .front).faultActive,
                         tripCount := (s.zoneState .front).tripCount,
                         idleLimit := (s.zoneState .front).idleLimit, idleLeft := left .front,
                         activityMask := (s.zoneState .front).activityMask,
                         dimLevel := (s.zoneState .front).dimLevel, wanted := (s.zoneState .front).wanted } }
          foldedTable := s.zones.foldedTable, unfoldedTable := s.zones.unfoldedTable })))

/-! ## Geometry and keep-outs -/

/-- GEOMETRY SET: values out of range are refused with BAD_PARAM, then LOCKED under the Geometry Lock; the values already
held change nothing; other values are taken, each zone's wanted message replaces what its slot held, a BACKGROUND job
is queued, and the link goes on from there (R3, R4, R5); that a wrong number of parameters is answered before the lock
is tested is the model's choice (log entry 11). The Geometry Lock holds while a slot is STAGED or IN_SERVICE, the
engine is BUILDING or READY, or a claim of any kind waits (R4). -/
def Obligations.GeometrySet : Prop :=
  (
    ∀ s : State, s.inReset = false →
      (∀ a b : Byte, s.Holds 0x10 [a, b] → 40 ≤ a.toNat → a.toNat ≤ 80 → 4 ≤ b.toNat → b.toNat ≤ 16 →
        (s.geometryLock = true → exec .geometrySet s = .next (s.responds 0x10 .locked .empty))
        ∧ (s.geometryLock = false → a.toNat = s.geometry.spineStart → b.toNat = s.geometry.spineWidth →
          exec .geometrySet s = .next (s.responds 0x10 .ok .empty))
        ∧ (s.geometryLock = false → (a.toNat ≠ s.geometry.spineStart ∨ b.toNat ≠ s.geometry.spineWidth) →
          exec .geometrySet s = .next
            (({ s with
                geometry := { spineStart := a.toNat, spineWidth := b.toNat }
                link := { s.link with slots := { rear := some (s.zoneState .rear).wanted,
                                                 spine := some (s.zoneState .spine).wanted,
                                                 front := some (s.zoneState .front).wanted } } }.queueJob
              .background).finish.responds 0x10 .ok .empty)))
      ∧ ∀ ps : List Byte, s.Holds 0x10 ps →
        (∀ a b : Byte, ps = [a, b] → ¬ (40 ≤ a.toNat ∧ a.toNat ≤ 80 ∧ 4 ≤ b.toNat ∧ b.toNat ≤ 16)) →
        exec .geometrySet s = .next (s.responds 0x10 .badParam .empty))
  ∧ (
    ∀ s : State, s.geometryLock = true ↔
      (∃ i : Slot, (s.record i).lifecycle = .staged ∨ (s.record i).lifecycle = .inService)
      ∨ (∃ b, s.engine.phase = .building b) ∨ (∃ b m, s.engine.phase = .ready b m)
      ∨ s.engine.claims.restore = true ∨ s.engine.claims.target ≠ none ∨ s.engine.claims.commitLatch = true)

/-- KEEPOUT SET: bad parameters are refused with BAD_PARAM, then LOCKED; the content already held changes nothing; other
content replaces the entry, then a BACKGROUND job is queued where the entry was present and a BEND job where the new
kind is BEND and BEND Applied is set (R11, R13). KEEPOUT CLEAR: an index other than 0 to 7 and FFH is refused with
BAD_PARAM, then LOCKED; else the entry named, or every entry, becomes absent, and a BACKGROUND job is queued where one
of them was present (R14); that this bad index, and a wrong number of parameters of either request, is answered before
the lock is tested is the model's choice (log entry 11). A tile is kept out where a HOLE entry, or a BEND entry while
BEND Applied is set, covers its column and row (R12). -/
def Obligations.KeepOutRequests : Prop :=
  (
    ∀ s : State,
      (∀ (i k bc br lc lr : Byte) (n : Fin 8) (kind : KeepOutKind), s.Holds 0x12 [i, k, bc, br, lc, lr] →
        i.toNat = n.val → k = (match kind with | .hole => 0x01 | .bend => 0x02) →
        bc.toNat ≤ lc.toNat → lc.toNat ≤ 127 → br.toNat ≤ lr.toNat → lr.toNat ≤ 111 →
        let entry : KeepOut :=
          { kind, rect := { baseCol := bc.toNat, baseRow := br.toNat, limitCol := lc.toNat, limitRow := lr.toNat } }
        (s.geometryLock = true → exec .keepoutSet s = .next (s.responds 0x12 .locked .empty))
        ∧ (s.geometryLock = false → s.keepOuts[n] = some entry →
          exec .keepoutSet s = .next (s.responds 0x12 .ok .empty))
        ∧ (s.geometryLock = false → s.keepOuts[n] ≠ some entry →
          let t := { s with keepOuts := s.keepOuts.set n (some entry) }
          let u := if s.keepOuts[n] = none then t else t.queueJob .background
          let v := if kind = .bend ∧ s.sampler.bendApplied = true then u.queueJob .bend else u
          exec .keepoutSet s = .next (v.finish.responds 0x12 .ok .empty)))
      ∧ ∀ ps : List Byte, s.Holds 0x12 ps →
        (∀ i k bc br lc lr : Byte, ps = [i, k, bc, br, lc, lr] →
          ¬ (i.toNat < 8 ∧ (k = 0x01 ∨ k = 0x02) ∧ bc.toNat ≤ lc.toNat ∧ lc.toNat ≤ 127 ∧ br.toNat ≤ lr.toNat
            ∧ lr.toNat ≤ 111)) →
        exec .keepoutSet s = .next (s.responds 0x12 .badParam .empty))
  ∧ (
    ∀ s : State,
      (∀ (i : Byte) (names : Fin 8 → Bool), s.Holds 0x13 [i] →
        ((∃ n : Fin 8, i.toNat = n.val ∧ ∀ m, names m = decide (m = n)) ∨ (i = 0xFF ∧ ∀ m, names m = true)) →
        let t := { s with keepOuts := Vec.tabulate fun n => if names n then none else s.keepOuts[n] }
        (s.geometryLock = true → exec .keepoutClear s = .next (s.responds 0x13 .locked .empty))
        ∧ (s.geometryLock = false → (∃ n, names n = true ∧ s.keepOuts[n] ≠ none) →
          exec .keepoutClear s = .next ((t.queueJob .background).finish.responds 0x13 .ok .empty))
        ∧ (s.geometryLock = false → (∀ n, names n = true → s.keepOuts[n] = none) →
          exec .keepoutClear s = .next (s.responds 0x13 .ok .empty)))
      ∧ (∀ ps : List Byte, s.Holds 0x13 ps →
        (∀ i : Byte, ps = [i] → ¬ (i.toNat < 8 ∨ i = 0xFF)) →
        exec .keepoutClear s = .next (s.responds 0x13 .badParam .empty))
      ∧ ∀ (bend : Bool) (t : Nat),
        let covered : KeepOutKind → Prop := fun kind => ∃ (n : Fin 8) (k : KeepOut), s.keepOuts[n] = some k ∧ k.kind = kind
          ∧ k.rect.baseCol ≤ t % 128 ∧ t % 128 ≤ k.rect.limitCol ∧ k.rect.baseRow ≤ t / 128 ∧ t / 128 ≤ k.rect.limitRow
        (heldByHole s.keepOuts t = true ↔ covered .hole) ∧ (coveredByBend s.keepOuts t = true ↔ covered .bend)
        ∧ (keptOut s.keepOuts bend t = true ↔ covered .hole ∨ (bend = true ∧ covered .bend)))

/-- A face's translation takes local columns to the physical columns of that face within the zone the face lies on, the
pixel formulas of the two spaces undo each other and agree with it tile by tile, a mirrored tile has each in-tile row
reversed, and a placement covers the tiles that the translation gives of the local tiles in its rectangle (R7, R8, R9,
R10). -/
def Obligations.FaceTranslations : Prop :=
  (∀ (g : Geometry) (face : Face) (c : Nat), g.inRange = true → c ≤ g.lastLocal face →
    (g.translation face).physical c =
        (match face with
        | .front => g.spineStart + g.spineWidth + c
        | .spine => g.spineStart + c
        | .rear => g.spineStart - 1 - c
        | .whole => c)
    ∧ (g.translation face).physical c < 128
    ∧ g.faceAt (if face = .whole then .unfolded else .folded) ((g.translation face).physical c) = face)
  ∧ (∀ (g : Geometry) (face : Face) (u : Nat), g.inRange = true → u / 16 ≤ g.lastLocal face →
    ∃ x : Nat,
      (x : Int) = (match face with
        | .front => 16 * ((g.spineStart : Int) + g.spineWidth) + u
        | .spine => 16 * (g.spineStart : Int) + u
        | .rear => 16 * (g.spineStart : Int) - 1 - u
        | .whole => u)
      ∧ g.localPixel face x = u ∧ x / 16 = (g.translation face).physical (u / 16)
      ∧ x % 16 = if (g.translation face).mirror then 15 - u % 16 else u % 16)
  ∧ (∀ (px : Pixels) (p q : Nat), px.length = 256 → p < 16 → q < 16 →
    (reverseRows px)[16 * q + p]? = px[16 * q + (15 - p)]?)
  ∧ ∀ (g : Geometry) (p : Part) (t : Nat), g.inRange = true → p.rect.baseCol ≤ p.rect.limitCol →
    p.rect.limitCol ≤ g.lastLocal p.face →
    (g.coversTile p t = true ↔ p.rect.baseRow ≤ t / 128 ∧ t / 128 ≤ p.rect.limitRow
      ∧ ∃ c : Nat, p.rect.baseCol ≤ c ∧ c ≤ p.rect.limitCol ∧ t % 128 = (g.translation p.face).physical c)

/-! ## The Region Table -/

/-- REGION CREATE: bad parameters are refused with BAD_PARAM, then NO_SLOT; else the lowest FREE slot is claimed with the
next Generation (255 is followed by 1), STAGED, with the content given as its pending copy, and answered with its
Region ID and Generation; bytes that are not those of an admitted part and of attributes in their ranges are bad
parameters (R24, R186). That superfluous bytes come before NO_SLOT (log entry 11), and that the data of the answer is
typed (log entry 8), are the model's choice. A placement part is admitted exactly where its face is one of the layout,
its rectangle lies within the face, its Z Level is 0 to 15 and the source rectangle of a STREAM source lies within the
largest frame (R7, R20). -/
def Obligations.RegionCreate : Prop :=
  (
    ∀ (s : State) (ps : List Byte), s.Holds 0x20 ps →
      (∀ c, regionCreateParams s.geometry ps = some c →
        (∀ i : Slot, (s.record i).lifecycle = .free → (∀ j : Slot, j < i → (s.record j).lifecycle ≠ .free) →
          ∀ g : BitVec 8, g = (if (s.record i).generation = 255 then 1 else (s.record i).generation + 1) →
          exec .regionCreate s = .next
            ((s.updRecord i fun _ =>
              { generation := g, lifecycle := .staged, showing := .parked, stale := false, retirePending := false,
                commitPending := true, inBuild := false, quarantineCount := 0, ownedTiles := 0, live := none,
                pending := some c }).responds 0x20 .ok (.created (i.val + 1) g)))
        ∧ ((∀ i : Slot, (s.record i).lifecycle ≠ .free) →
          exec .regionCreate s = .next (s.responds 0x20 .noSlot .empty)))
      ∧ (regionCreateParams s.geometry ps = none →
        exec .regionCreate s = .next (s.responds 0x20 .badParam .empty))
      ∧ ((∀ (layout : Layout) (p : Part) (e : AttributeEdit), p.admitted s.geometry layout = true → e.inRange = true →
          ps ≠ layoutByte layout :: (p.bytes ++ e.bytes)) →
        exec .regionCreate s = .next (s.responds 0x20 .badParam .empty)))
  ∧ (
    ∀ (g : Geometry) (layout : Layout) (p : Part), p.admitted g layout = true ↔
      (match layout with
        | .folded => p.face = .front ∨ p.face = .spine ∨ p.face = .rear
        | .unfolded => p.face = .whole)
      ∧ p.rect.baseCol ≤ p.rect.limitCol ∧ p.rect.baseRow ≤ p.rect.limitRow ∧ p.rect.limitRow ≤ 111
      ∧ p.rect.limitCol ≤ (match p.face with
          | .front => 127 - g.spineStart - g.spineWidth
          | .spine => g.spineWidth - 1
          | .rear => g.spineStart - 1
          | .whole => 127)
      ∧ p.zLevel ≤ 15
      ∧ ∀ n oc orow, p.source = .stream n oc orow →
        oc + (p.rect.limitCol + 1 - p.rect.baseCol) ≤ 128 ∧ orow + (p.rect.limitRow + 1 - p.rect.baseRow) ≤ 112)

/-- REGION PLACE, REGION ATTRIBUTES, REGION RETIRE and REGION DISCARD refuse in this order: a Region ID outside 1 to 32,
or one of a FREE slot or a slot in QUARANTINE, with BAD_REGION; a record In Build with BUSY; for the two edits a
record with Retire Pending with BAD_STATE; nothing else changes (R16, R25, R29, R30, R31). A request without its
Region ID byte is refused with BAD_PARAM, and of RETIRE and DISCARD with bytes after it BAD_REGION and BUSY come
before BAD_PARAM: both are the model's choice (log entry 11). -/
def Obligations.EditRefusals : Prop :=
  ∀ d ∈ [((0x21 : Byte), Instr.regionPlace, true), (0x22, .regionAttributes, true), (0x23, .regionRetire, false),
         (0x24, .regionDiscard, false)],
    (∀ s : State, s.Holds d.1 [] → exec d.2.1 s = .next (s.responds d.1 .badParam .empty))
    ∧ ∀ (s : State) (rid : Byte) (rest : List Byte), s.Holds d.1 (rid :: rest) →
      ((rid.toNat = 0 ∨ 32 < rid.toNat) → exec d.2.1 s = .next (s.responds d.1 .badRegion .empty))
      ∧ ∀ i : Slot, rid.toNat = i.val + 1 →
        (((s.record i).lifecycle = .free ∨ (s.record i).lifecycle = .quarantine) →
          exec d.2.1 s = .next (s.responds d.1 .badRegion .empty))
        ∧ (((s.record i).lifecycle = .staged ∨ (s.record i).lifecycle = .inService) →
          ((s.record i).inBuild = true → exec d.2.1 s = .next (s.responds d.1 .busy .empty))
          ∧ ((s.record i).inBuild = false → (s.record i).retirePending = true → d.2.2 = true →
            exec d.2.1 s = .next (s.responds d.1 .badState .empty)))

/-- REGION PLACE and REGION ATTRIBUTES, once admitted, edit the pending copy, or a copy of the live one where none is
pending, and set Commit Pending: a part replaces or supplies the part of its layout, REMOVE takes it away while the
other part is present, and each attribute given replaces the same attribute; bytes that are not those of an admitted
part or of REMOVE, or of at least one attribute in its range, are refused with BAD_PARAM (R25, R26, R27, R186). -/
def Obligations.RegionEdits : Prop :=
  ∀ (s : State) (rid : Byte) (rest : List Byte) (i : Slot) (base : Content), rid.toNat = i.val + 1 →
    ((s.record i).lifecycle = .staged ∨ (s.record i).lifecycle = .inService) → (s.record i).inBuild = false →
    (s.record i).retirePending = false →
    ((s.record i).pending = some base ∨ ((s.record i).pending = none ∧ (s.record i).live = some base)) →
    (s.Holds 0x21 (rid :: rest) →
      (∀ (layout : Layout) (bytes : List Byte) (p : Part), rest = layoutByte layout :: bytes →
        partField s.geometry layout bytes = some p →
        exec .regionPlace s = .next ((s.updRecord i fun r =>
          { r with commitPending := true, pending := some (match layout with
              | .folded => { base with folded := some p }
              | .unfolded => { base with unfolded := some p }) }).responds 0x21 .ok .empty))
      ∧ (rest = [0x00, 0x00] →
        (base.unfolded = none → exec .regionPlace s = .next (s.responds 0x21 .badParam .empty))
        ∧ (base.unfolded ≠ none → exec .regionPlace s = .next ((s.updRecord i fun r =>
          { r with commitPending := true, pending := some { base with folded := none } }).responds 0x21 .ok .empty)))
      ∧ (rest = [0x01, 0x00] →
        (base.folded = none → exec .regionPlace s = .next (s.responds 0x21 .badParam .empty))
        ∧ (base.folded ≠ none → exec .regionPlace s = .next ((s.updRecord i fun r =>
          { r with commitPending := true, pending := some { base with unfolded := none } }).responds 0x21 .ok
            .empty)))
      ∧ ((∀ (layout : Layout) (bytes : List Byte), rest = layoutByte layout :: bytes →
          bytes ≠ [0x00] ∧ partField s.geometry layout bytes = none) →
        exec .regionPlace s = .next (s.responds 0x21 .badParam .empty))
      ∧ ((∀ layout : Layout, rest ≠ [layoutByte layout, 0x00]) →
        (∀ (layout : Layout) (p : Part), p.admitted s.geometry layout = true → rest ≠ layoutByte layout :: p.bytes) →
        exec .regionPlace s = .next (s.responds 0x21 .badParam .empty)))
    ∧ (s.Holds 0x22 (rid :: rest) →
      (∀ e : AttributeEdit, attributeBlock rest = some e →
        (e.any = true → exec .regionAttributes s = .next ((s.updRecord i fun r =>
          { r with commitPending := true, pending := some { base with attributes :=
              { ownerToken := e.ownerToken.getD base.attributes.ownerToken
                touch := e.touch.getD base.attributes.touch
                persist := e.persist.getD base.attributes.persist
                ephemeral := e.ephemeral.getD base.attributes.ephemeral
                staleLimit := e.staleLimit.getD base.attributes.staleLimit
                staleAction := e.staleAction.getD base.attributes.staleAction
                fallback := e.fallback.getD base.attributes.fallback } } }).responds 0x22 .ok .empty))
        ∧ (e.any = false → exec .regionAttributes s = .next (s.responds 0x22 .badParam .empty)))
      ∧ (attributeBlock rest = none → exec .regionAttributes s = .next (s.responds 0x22 .badParam .empty))
      ∧ ((∀ e : AttributeEdit, e.inRange = true → e.any = true → rest ≠ e.bytes) →
        exec .regionAttributes s = .next (s.responds 0x22 .badParam .empty)))

/-- REGION RETIRE and REGION DISCARD of a record that is not In Build: a STAGED record enters QUARANTINE at once, its fill
job removed and its stale count cleared; of an IN_SERVICE record, RETIRE drops the pending copy and sets Retire
Pending and Commit Pending, or changes nothing where Retire Pending is set, and DISCARD drops the pending copy and
clears both flags (R29, R30, R31, R36). -/
def Obligations.RetireAndDiscard : Prop :=
  ∀ (s : State) (rid : Byte) (i : Slot), rid.toNat = i.val + 1 → (s.record i).inBuild = false →
    ((s.record i).lifecycle = .staged →
      let t := ((s.updRecord i fun r =>
        { generation := r.generation, lifecycle := .quarantine, showing := .parked, stale := false,
          retirePending := false, commitPending := false, inBuild := false,
          quarantineCount := s.table.quarantineLength, ownedTiles := 0, live := r.live, pending := none }).removeJob
        (.region i)).setStaleCount i 0
      (s.Holds 0x23 [rid] → exec .regionRetire s = .next (t.finish.responds 0x23 .ok .empty))
      ∧ (s.Holds 0x24 [rid] → exec .regionDiscard s = .next (t.finish.responds 0x24 .ok .empty)))
    ∧ ((s.record i).lifecycle = .inService →
      (s.Holds 0x23 [rid] → (s.record i).retirePending = true →
        exec .regionRetire s = .next (s.responds 0x23 .ok .empty))
      ∧ (s.Holds 0x23 [rid] → (s.record i).retirePending = false → exec .regionRetire s =
        .next ((s.updRecord i fun r => { r with pending := none, retirePending := true, commitPending := true }).responds
          0x23 .ok .empty))
      ∧ (s.Holds 0x24 [rid] → exec .regionDiscard s =
        .next ((s.updRecord i fun r =>
          { r with pending := none, retirePending := false, commitPending := false }).responds 0x24 .ok .empty)))
    ∧ ∀ (b : Byte) (rest : List Byte), ((s.record i).lifecycle = .staged ∨ (s.record i).lifecycle = .inService) →
      (s.Holds 0x23 (rid :: b :: rest) → exec .regionRetire s = .next (s.responds 0x23 .badParam .empty))
      ∧ (s.Holds 0x24 (rid :: b :: rest) → exec .regionDiscard s = .next (s.responds 0x24 .badParam .empty))

/-- REGION READ answers the whole record of any slot, or BAD_REGION; without its Region ID byte, or with bytes after that
of a slot, BAD_PARAM, in the model's order (log entry 11); TABLE SET replaces the settings it carries, and is refused
with BAD_PARAM where it carries none or one out of range (R39, R40). MAP READ gives the Owner and the Changed mark of
the tile in the ACTIVE map, the epoch and the layout; a column above 127, a row above 111 or another number of
parameters is refused with BAD_PARAM (R71). That the data of REGION READ and MAP READ is typed is the model's choice
(log entry 8). -/
def Obligations.TableAndMapReads : Prop :=
  (
    ∀ s : State,
      (∀ (rid : Byte) (i : Slot), s.Holds 0x25 [rid] → rid.toNat = i.val + 1 →
        exec .regionRead s = .next (s.responds 0x25 .ok (.region (i.val + 1) (s.record i))))
      ∧ (∀ (rid : Byte) (rest : List Byte), s.Holds 0x25 (rid :: rest) → (rid.toNat = 0 ∨ 32 < rid.toNat) →
        exec .regionRead s = .next (s.responds 0x25 .badRegion .empty))
      ∧ (s.Holds 0x25 [] → exec .regionRead s = .next (s.responds 0x25 .badParam .empty))
      ∧ (∀ (rid b : Byte) (rest : List Byte), s.Holds 0x25 (rid :: b :: rest) → 1 ≤ rid.toNat → rid.toNat ≤ 32 →
        exec .regionRead s = .next (s.responds 0x25 .badParam .empty))
      ∧ (∀ n : Byte, 1 ≤ n.toNat → n.toNat ≤ 15 → s.Holds 0x27 [0x01, n] → exec .tableSet s =
        .next ({ s with table := { s.table with quarantineLength := n.toNat } }.responds 0x27 .ok .empty))
      ∧ (∀ r : Bool, s.Holds 0x27 [0x02, boolByte r] → exec .tableSet s =
        .next ({ s with table := { s.table with retain := r } }.responds 0x27 .ok .empty))
      ∧ (∀ (n : Byte) (r : Bool), 1 ≤ n.toNat → n.toNat ≤ 15 → s.Holds 0x27 [0x03, n, boolByte r] → exec .tableSet s =
        .next ({ s with table := { s.table with quarantineLength := n.toNat, retain := r } }.responds 0x27 .ok .empty))
      ∧ ∀ ps : List Byte, s.Holds 0x27 ps →
        (∀ (n : Byte) (r : Bool),
          (ps = [0x01, n] ∨ ps = [0x03, n, boolByte r] → ¬ (1 ≤ n.toNat ∧ n.toNat ≤ 15)) ∧ ps ≠ [0x02, boolByte r]) →
        exec .tableSet s = .next (s.responds 0x27 .badParam .empty))
  ∧ (
    ∀ s : State,
      (∀ col row : Byte, s.Holds 0x31 [col, row] → col.toNat ≤ 127 → row.toNat ≤ 111 →
        exec .mapRead s = .next (s.responds 0x31 .ok (.map
          { owner := match s.engine.active.owner (128 * row.toNat + col.toNat) with
              | none => 0
              | some i => i.val + 1
            changed := s.engine.active.changed (128 * row.toNat + col.toNat)
            epoch := s.engine.epoch, layout := s.engine.active.layout })))
      ∧ ∀ ps : List Byte, s.Holds 0x31 ps →
        (∀ col row : Byte, ps = [col, row] → ¬ (col.toNat ≤ 127 ∧ row.toNat ≤ 111)) →
        exec .mapRead s = .next (s.responds 0x31 .badParam .empty))

/-- A slot's Generation changes only where REGION CREATE claims the slot, becoming the next one and never 0, or where
RESETN sets it to 0 (R24, R42). -/
def Obligations.GenerationsHold : Prop :=
  ∀ (c : Instr) (s t : State) (i : Slot), exec c s = .next t → (t.record i).generation ≠ (s.record i).generation →
    (c = .regionCreate ∧ (s.record i).lifecycle = .free ∧ (t.record i).lifecycle = .staged
      ∧ (t.record i).generation ≠ 0
      ∧ (t.record i).generation = if (s.record i).generation = 255 then 1 else (s.record i).generation + 1)
    ∨ (c = .resetnAssert ∧ (t.record i).generation = 0)

/-! ## The byte forms -/

/-- The byte forms of section 10.6 and the fields that the part reads agree: an admitted placement part, an attribute
block whose attributes are in their ranges, the parameters of REGION CREATE made of both, a lookup request and a pixel
packet that the router takes are each read back from their bytes as they were, with every operand (R20, R24, R74,
R166, R186). What the port hands out reads back: an answer frame is 12 bytes and two answers with the same frame are
the same, a response frame is the code, the result, the Data Length and that many data bytes, which are free values
where section 10.6 does not lay them out (log entry 8), the data of STATUS READ holds the event flags as a 16-bit
number in their places, and a status frame is the port status byte and the event flags, most significant byte first. -/
def Obligations.ByteFormsAgree : Prop :=
  (
    (∀ (g : Geometry) (layout : Layout) (p : Part), g.inRange = true → p.admitted g layout = true →
      partField g layout p.bytes = some p)
    ∧ (∀ e : AttributeEdit, e.inRange = true → attributeBlock e.bytes = some e)
    ∧ (∀ (g : Geometry) (layout : Layout) (p : Part) (e : AttributeEdit), g.inRange = true →
      p.admitted g layout = true → e.inRange = true →
      regionCreateParams g (layoutByte layout :: (p.bytes ++ e.bytes)) =
        some { attributes := e.apply { ownerToken := 0, touch := .route, persist := false, ephemeral := false,
                                       staleLimit := 0, staleAction := .freeze, fallback := 0 }
               folded := match layout with
                 | .folded => some p
                 | .unfolded => none
               unfolded := match layout with
                 | .folded => none
                 | .unfolded => some p })
    ∧ (∀ r : LookupRequest, parseLookup r.bytes = some r)
    ∧ ∀ p : Packet, p.taken = true → parsePacket p.bytes = some p)
  ∧ (
    (∀ a b : Answer, a.region ≤ 32 → b.region ≤ 32 → a.ownerToken ≤ 63 → b.ownerToken ≤ 63 →
      (-32768 ≤ a.localX ∧ a.localX ≤ 32767) → (-32768 ≤ b.localX ∧ b.localX ≤ 32767) →
      (-32768 ≤ a.localY ∧ a.localY ≤ 32767) → (-32768 ≤ b.localY ∧ b.localY ≤ 32767) →
      a.frame.length = 12 ∧ (a.frame = b.frame → a = b))
    ∧ (∀ (code : Byte) (result : Result), ({ code, result, data := .empty } : Response).frame =
        [code, result.byte, 0x00])
    ∧ (∀ (code : Byte) (a : Answer), ({ code, result := .ok, data := .answer a } : Response).frame =
        [code, 0x00, 0x0C] ++ a.frame)
    ∧ (∀ r : Response, ∃ (len : Byte) (bytes : List Byte), r.frame = [r.code, r.result.byte, len] ++ bytes
      ∧ bytes.length = len.toNat ∧ len.toNat ≤ 124)
    ∧ (∀ (code : Byte) (q : StatusReport), ∃ (len hi lo : Byte) (before after : List Byte),
      ({ code, result := .ok, data := .status q } : Response).frame =
        [code, 0x00, len] ++ before ++ [hi, lo] ++ after
      ∧ be16 hi lo = q.flags.zeroExtend 16)
    ∧ (∀ a b : Result, a.byte = b.byte → a = b)
    ∧ ∀ (portStatus : Byte) (flags : BitVec 16), ∃ hi lo : Byte, statusFrame portStatus flags = [portStatus, hi, lo]
      ∧ be16 hi lo = flags)

/-! ## The Placement Engine -/

/-- COMMIT is decided by the Transition State, then the latch, the committable records and the engine, as its clauses give
it case by case (R53). -/
def Obligations.Commit : Prop :=
  ∀ s : State, s.Holds 0x30 [] →
    ((s.transition.state = .building ∨ s.transition.state = .blanking ∨ s.transition.state = .holding
        ∨ s.transition.state = .settling) →
      exec .commit s = .next (s.responds 0x30 .busy .empty))
    ∧ (s.transition.state = .prepare → exec .commit s =
      .next ({ s with transition := { s.transition with commitJoined := true } }.responds 0x30 .accepted .empty))
    ∧ (s.transition.state = .steady →
      (s.engine.claims.commitLatch = true → exec .commit s = .next (s.responds 0x30 .accepted .empty))
      ∧ (s.engine.claims.commitLatch = false →
        ((∀ i : Slot, ¬ ((s.record i).commitPending = true ∧ (s.record i).inBuild = false)) →
          exec .commit s = .next (s.responds 0x30 .ok .empty))
        ∧ ((∃ i : Slot, (s.record i).commitPending = true ∧ (s.record i).inBuild = false) →
          (s.engine.phase = .idle →
            exec .commit s = .next ((s.startBuild .commit s.engine.active.layout).responds 0x30 .accepted .empty))
          ∧ (s.engine.phase ≠ .idle → exec .commit s =
            .next ({ s with engine := { s.engine with claims := { s.engine.claims with commitLatch := true } } }.responds
              0x30 .accepted .empty)))))

/-- At a build start the engine is BUILDING with the kind, the layout, the geometry and the reference map, each slot
contributes as the table of its kind of build says, and In Build is set on the included records and nothing else
changes (R32, R33, R49, R54, R55, R56). -/
def Obligations.BuildTakesSnapshot : Prop :=
  ∀ (s : State) (kind : BuildKind) (layout : Layout), ∃ b : Build,
    b.kind = kind ∧ b.layout = layout ∧ b.geometry = s.geometry ∧ b.reference = s.engine.active
    ∧ s.startBuild kind layout =
      { s with engine := { s.engine with phase := .building b }
               table := { s.table with slots := Vec.tabulate fun i =>
                 { s.record i with inBuild := (s.record i).inBuild || b.snapshot[i].included } } }
    ∧ ∀ i : Slot,
      ((s.record i).lifecycle = .free ∨ (s.record i).lifecycle = .quarantine → b.snapshot[i] = .absent)
      ∧ (kind = .commit → (s.record i).commitPending = true →
        ((s.record i).lifecycle = .staged ∨ (s.record i).lifecycle = .inService) →
        ((s.record i).retirePending = true → b.snapshot[i] = .leaving)
        ∧ (∀ c, (s.record i).retirePending = false → (s.record i).pending = some c → b.snapshot[i] = .taken c true))
      ∧ (∀ c, kind = .commit → (s.record i).commitPending = false → (s.record i).lifecycle = .inService →
        (s.record i).live = some c →
        b.snapshot[i] = if (s.record i).showing = .suppressed then .carried c else .taken c false)
      ∧ (∀ c, kind = .target → (s.record i).lifecycle = .inService → (s.record i).live = some c →
        ((s.record i).showing = .shown → c.attributes.ephemeral = true → b.snapshot[i] = .excluded)
        ∧ (¬ ((s.record i).showing = .shown ∧ c.attributes.ephemeral = true) →
          (s.transition.commitJoined = true → (s.record i).commitPending = true → (s.record i).inBuild = false →
            ((s.record i).retirePending = true → b.snapshot[i] = .leaving)
            ∧ (∀ d, (s.record i).retirePending = false → (s.record i).pending = some d →
              b.snapshot[i] = .taken d true))
          ∧ (¬ (s.transition.commitJoined = true ∧ (s.record i).commitPending = true
              ∧ (s.record i).inBuild = false) → b.snapshot[i] = .taken c false)))
      ∧ (∀ d, kind = .target → (s.record i).lifecycle = .staged → (s.record i).pending = some d →
        (s.record i).commitPending = true → (s.record i).inBuild = false → (s.record i).retirePending = false →
        b.snapshot[i] = if s.transition.commitJoined then .taken d true else .absent)
      ∧ (kind = .restore → (s.record i).lifecycle = .staged → b.snapshot[i] = .absent)
      ∧ ∀ c, kind = .restore → (s.record i).lifecycle = .inService → (s.record i).live = some c →
        b.snapshot[i] = .taken c false

/-- BUILD_COMPLETE: a COMMIT build with a conflict records the pair, sets COMMIT_FAILED, clears In Build, empties the
SHADOW bank and lets a waiting claim start; a COMMIT build without one and a RESTORE build become READY; a TARGET
build becomes READY and BLANKING begins, where the stream writes in hand to tiles Changed in the target map are
discarded, a stream transfer in flight to one is aborted and BLANK joins the front of the queue; without a build in
progress nothing changes; a RESTORE build becomes READY also while a reset input is asserted (R35, R58, R63, R101,
R130, R131; log entries 4, 17 and 22). -/
def Obligations.BuildComplete : Prop :=
  (∀ (s : State) (b : Build), s.inReset = true → s.engine.phase = .building b → b.kind = .restore →
    exec .buildComplete s = .next { s with engine := { s.engine with phase := .ready b b.map } })
  ∧ ∀ (s : State), s.inReset = false →
    (∀ b : Build, s.engine.phase = .building b →
      (∀ i j : Slot, b.kind = .commit → b.conflict = some (i, j) →
        exec .buildComplete s = .next (State.takeClaim { s with
          engine := { s.engine with phase := .idle, conflict := (i.val + 1, j.val + 1) }
          table := { s.table with slots := Vec.tabulate fun n => { s.record n with inBuild := false } }
          port := { s.port with flags := s.port.flags ||| EventFlag.commitFailed.bit } }))
      ∧ ((b.kind = .commit ∧ b.conflict = none ∨ b.kind = .restore) →
        exec .buildComplete s = .next { s with engine := { s.engine with phase := .ready b b.map } })
      ∧ (b.kind = .target →
        exec .buildComplete s = .next (State.finish { s with
          engine := { s.engine with phase := .ready b b.map }
          transition := { s.transition with state := .blanking }
          link := { s.link with
            streamWaiting := s.link.streamWaiting.filter fun w => !b.map.changed w.tile
            flight := match s.link.flight with
              | some (.tile w) =>
                if w.kind = .stream ∧ b.map.changed w.tile = true then none else some (.tile w)
              | f => f }
          router := { s.router with handing := s.router.handing.filter fun w => !b.map.changed w.tile }
          fill := { s.fill with queue := .blank :: s.fill.queue.filter fun k => k ≠ .blank } })))
    ∧ ((∀ b : Build, s.engine.phase ≠ .building b) → exec .buildComplete s = .next s)

/-- An IDLE engine takes one waiting claim: RESTORE, then TARGET, which absorbs the COMMIT latch where Commit Joined is
set, then COMMIT, which sets COMMIT_DONE and starts nothing where no record is committable; the others go on waiting
(R51, R52, R53, R55). -/
def Obligations.ClaimPrecedence : Prop :=
  ∀ s : State, s.inReset = false → s.engine.phase = .idle →
    (s.engine.claims.restore = true → s.takeClaim =
      State.startBuild .restore s.engine.active.layout
        { s with engine := { s.engine with claims := { s.engine.claims with restore := false } } })
    ∧ (∀ layout, s.engine.claims.restore = false → s.engine.claims.target = some layout → s.takeClaim =
      State.startBuild .target layout
        { s with engine := { s.engine with claims := { s.engine.claims with
          target := none, commitLatch := s.engine.claims.commitLatch && !s.transition.commitJoined } } })
    ∧ (s.engine.claims.restore = false → s.engine.claims.target = none → s.engine.claims.commitLatch = true →
      ((∃ i : Slot, (s.record i).commitPending = true ∧ (s.record i).inBuild = false) → s.takeClaim =
        State.startBuild .commit s.engine.active.layout
          { s with engine := { s.engine with claims := { s.engine.claims with commitLatch := false } } })
      ∧ ((∀ i : Slot, ¬ ((s.record i).commitPending = true ∧ (s.record i).inBuild = false)) → s.takeClaim =
        { s with engine := { s.engine with claims := { s.engine.claims with commitLatch := false } }
                 port := { s.port with flags := s.port.flags ||| EventFlag.commitDone.bit } }))
    ∧ (s.engine.claims.restore = false → s.engine.claims.target = none → s.engine.claims.commitLatch = false →
      s.takeClaim = s)

/-- The conflict pair of a build is the first pair, in ascending lower and then higher Region ID, whose candidate
placements overlap in either layout; there is none exactly where no two overlap (R57, R58). In a TARGET or RESTORE
build the candidates kept are, in ascending Region ID, those whose placement overlaps no placement of a lower-numbered
kept one, and every other candidate is suppressed; in a COMMIT build every candidate is kept, in ascending Region ID,
and none suppressed (R57, R59). -/
def Obligations.ConflictsAndSuppression : Prop :=
  (
    ∀ b : Build,
      let clash : Slot → Slot → Prop := fun i j =>
        ∃ (layout : Layout) (p q : Part), b.snapshot[i].candidate layout = some p ∧
          b.snapshot[j].candidate layout = some q ∧ p.face = q.face ∧ p.zLevel = q.zLevel ∧
          p.rect.baseCol ≤ q.rect.limitCol ∧ q.rect.baseCol ≤ p.rect.limitCol ∧
          p.rect.baseRow ≤ q.rect.limitRow ∧ q.rect.baseRow ≤ p.rect.limitRow
      (∀ i j : Slot, b.conflict = some (i, j) ↔
        i < j ∧ clash i j ∧ ∀ k l : Slot, k < l → clash k l → i < k ∨ (i = k ∧ j ≤ l))
      ∧ (b.conflict = none ↔ ∀ i j : Slot, i < j → ¬ clash i j))
  ∧ (
    ∀ b : Build,
      b.kept.Pairwise (fun x y => x.1 < y.1)
      ∧ (b.kind ≠ .commit → ∀ (i : Slot) (p : Part), (i, p) ∈ b.kept ↔
        b.snapshot[i].candidate b.layout = some p ∧ ∀ k ∈ b.kept, k.1 < i → k.2.overlaps p = false)
      ∧ (b.kind = .commit → ∀ i : Slot, b.suppressedNow i = false
        ∧ ∀ p : Part, (i, p) ∈ b.kept ↔ b.snapshot[i].candidate b.layout = some p)
      ∧ ∀ i : Slot, b.suppressedNow i = true ↔
        (∃ p, b.snapshot[i].candidate b.layout = some p) ∧ ∀ p, (i, p) ∉ b.kept)

/-- In the map of a build a tile is owned by the kept candidate with the highest Z Level among those whose physical
rectangle covers it, by none where none covers it; its Changed mark is set exactly where the owner differs from the
reference map's; each stream's binding list holds the kept candidates that show it, in their order, with the
translation of the build's geometry; the layout is the build's (R8, R46, R60, R61, R62). -/
def Obligations.BuiltMap : Prop :=
  ∀ b : Build,
    b.map.layout = b.layout
    ∧ (∀ t : Nat, t < 14336 →
      (∀ i : Slot, b.map.owner t = some i → ∃ p, (i, p) ∈ b.kept ∧ b.geometry.coversTile p t = true
        ∧ ∀ k ∈ b.kept, b.geometry.coversTile k.2 t = true → k.2.zLevel ≤ p.zLevel)
      ∧ (b.map.owner t = none ↔ ∀ k ∈ b.kept, b.geometry.coversTile k.2 t = false)
      ∧ (b.map.changed t = true ↔ b.map.owner t ≠ b.reference.owner t))
    ∧ (∀ t : Nat, 14336 ≤ t → b.map.owner t = none ∧ b.map.changed t = false)
    ∧ ∀ n : Fin 8, b.map.bindings[n] = b.kept.filterMap fun k =>
      match k.2.source with
      | .stream m oc orow =>
        if m = n then
          some { region := k.1, originCol := oc, originRow := orow,
                 width := k.2.rect.limitCol + 1 - k.2.rect.baseCol,
                 height := k.2.rect.limitRow + 1 - k.2.rect.baseRow, baseCol := k.2.rect.baseCol,
                 baseRow := k.2.rect.baseRow, translation := b.geometry.translation k.2.face }
        else none
      | .fill _ => none

/-! ## Scan starts -/

/-- At a scan start, real or substitute, with a COMMIT or RESTORE map READY, or a TARGET map in HOLDING with the Hold
Count at the Blank Hold, the banks are exchanged and the epoch advances; a record that was included and retiring, or
was excluded, enters QUARANTINE, another included record's pending copy becomes its live copy, and the rest keep their
copies; every record then IN_SERVICE has the Showing and the Owned Tiles of the new map; of the slots that the build
neither includes nor excludes (RecordsKept and OwnersStayShown give it no FREE slot and none in QUARANTINE), one in
QUARANTINE before the swap loses one from its count and becomes FREE at 0, and a FREE one stays as it is; the stale
counts of the included, of the leaving and of the newly SHOWN restart, those of the regions that the swap leaves SHOWN
with the same live copy advance where they are counted, in the layout of the new map, and at the limit the region
becomes Stale, with REGION_STALE (that this is so for a Stale Limit of 1 also just after a COMPLETE frame is the
model's choice, log entry 27); the map that was ACTIVE is held while a frame of its epoch is open. Before the link
goes on, the job in progress is stopped, its write withdrawn and its key queued again, the jobs of the leaving records
are gone, and behind what waits the queue has the region jobs of the SHOWN fill records that own a Changed tile or
were included, in ascending Region ID, then BACKGROUND where a Changed tile has Owner 0, then the jobs of the regions
that turn Stale at this scan start, no key twice (R34, R36, R38, R47, R64, R65, R66, R67, R68, R69, R86, R87, R105,
R106; log entry 15). -/
def Obligations.SwapSettles : Prop :=
  ∀ (c : Instr) (s : State) (b : Build) (m : Map), s.inReset = false →
    (c = .scanStart ∨ (c = .substituteScanStart ∧ s.link.timer ≠ none)) →
    s.engine.phase = .ready b m →
    (b.kind = .target → s.transition.state = .holding ∧ s.transition.holdCount = s.transition.blankHold) →
    ∃ t u : State, exec c s = .next t ∧ t = u.finish ∧ t.engine.epoch = s.engine.epoch + 1 ∧ t.engine.active = m
      ∧ t.engine.conflict = s.engine.conflict
      ∧ (∀ i : Slot, (t.record i).generation = (s.record i).generation
        ∧ (((s.record i).lifecycle = .staged ∨ (s.record i).lifecycle = .inService) →
          let leaves := ((s.record i).inBuild = true ∧ (s.record i).retirePending = true) ∨ b.snapshot[i] = .excluded
          (leaves → t.record i =
            { generation := (s.record i).generation, lifecycle := .quarantine, showing := .parked, stale := false,
              retirePending := false, commitPending := false, inBuild := false,
              quarantineCount := s.table.quarantineLength, ownedTiles := 0, live := (s.record i).live,
              pending := none })
          ∧ (¬ leaves → (s.record i).inBuild = true →
            (t.record i).lifecycle = .inService ∧ (t.record i).live = (s.record i).pending
            ∧ (t.record i).pending = none ∧ (t.record i).commitPending = false ∧ (t.record i).inBuild = false
            ∧ (t.record i).stale = false ∧ t.router.staleCounts[i] = 0)
          ∧ (¬ leaves → (s.record i).inBuild = false →
            (t.record i).lifecycle = (s.record i).lifecycle ∧ (t.record i).live = (s.record i).live
            ∧ (t.record i).pending = (s.record i).pending
            ∧ (t.record i).commitPending = (s.record i).commitPending
            ∧ (t.record i).retirePending = (s.record i).retirePending))
        ∧ ((t.record i).lifecycle = .inService →
          (t.record i).ownedTiles = m.ownedCount i
          ∧ (t.record i).showing =
            (if b.suppressedNow i = true ∨ b.isCarried i = true then Showing.suppressed
             else if b.isKept i = true then Showing.shown
             else Showing.parked)
          ∧ ((t.record i).showing = .shown → s.isShown i = false → t.router.staleCounts[i] = 0))
        ∧ ((s.record i).inBuild = false → b.snapshot[i] ≠ .excluded →
          ((s.record i).lifecycle = .free → t.record i = s.record i)
          ∧ ((s.record i).lifecycle = .quarantine → (s.record i).quarantineCount ≤ 1 → t.record i =
            { generation := (s.record i).generation, lifecycle := .free, showing := .parked, stale := false,
              retirePending := false, commitPending := false, inBuild := false, quarantineCount := 0,
              ownedTiles := 0, live := none, pending := none })
          ∧ ((s.record i).lifecycle = .quarantine → 1 < (s.record i).quarantineCount →
            t.record i = { s.record i with quarantineCount := (s.record i).quarantineCount - 1 })))
      ∧ (s.router.linkQueue = [] → ∀ i : Slot,
        let restarts := (s.record i).inBuild = true ∨ b.snapshot[i] = .excluded
          ∨ (t.isShown i = true ∧ s.isShown i = false)
        let counted := t.isShown i = true ∧ ¬ restarts ∧ (s.record i).stale = false ∧ ∃ d p n oc orow,
          (s.record i).live = some d ∧ 1 ≤ d.attributes.staleLimit ∧ d.part m.layout = some p
          ∧ p.source = .stream n oc orow
        (restarts → ((s.record i).lifecycle = .staged ∨ (s.record i).lifecycle = .inService) →
          t.router.staleCounts[i] = 0)
        ∧ (¬ counted → ¬ restarts → t.router.staleCounts[i] = s.router.staleCounts[i]
          ∧ (((t.record i).lifecycle = .staged ∨ (t.record i).lifecycle = .inService) →
            (t.record i).stale = (s.record i).stale))
        ∧ ∀ d, counted → (s.record i).live = some d →
          t.router.staleCounts[i] = s.router.staleCounts[i] + 1
          ∧ ((t.record i).stale = true ↔ d.attributes.staleLimit ≤ s.router.staleCounts[i] + 1)
          ∧ ((t.record i).stale = true → t.flag .regionStale = true))
      ∧ (b.kind = .commit → t.flag .commitDone = true)
      ∧ (b.kind ≠ .commit → b.anySuppressed = true → t.flag .conflictSuppressed = true)
      ∧ (s.router.linkQueue = [] → (∃ (n : Fin 8) (f : Frame), s.router.streams[n].frame = some f ∧ f.stamp = s.engine.epoch) →
        t.engine.phase = .draining s.engine.active s.engine.epoch)
      ∧ ((∀ (n : Fin 8) (f : Frame), s.router.streams[n].frame = some f → f.stamp ≠ s.engine.epoch) →
        ∀ h e, t.engine.phase ≠ .draining h e)
      ∧ u.link = { s.link with
          timer := some s.link.interval, slots := u.link.slots
          fillWaiting := if s.fill.job = none then s.link.fillWaiting else none }
      ∧ (b.kind ≠ .target → u.link.slots = s.link.slots)
      ∧ u.router.handing = s.router.handing ∧ u.router.run = s.router.run ∧ u.router.linkQueue = s.router.linkQueue
      ∧ u.fill.job = none
      ∧ (m.wf = true →
        let included : Slot → Prop := fun i => (s.record i).inBuild = true
          ∧ ¬ ((s.record i).lifecycle = .quarantine ∧ (s.record i).quarantineCount ≤ 1)
        let join : List Key → Key → List Key := fun q k => if k ∈ q then q else q ++ [k]
        let waiting : List Key := match s.fill.job with
          | some j => join s.fill.queue j.key
          | none => s.fill.queue
        ∃ (stays : Key → Bool) (regions stales : List Slot) (behind : List Key),
          u.fill.queue =
            (regions.map Key.region ++ behind ++ stales.map Key.region).foldl join (waiting.filter stays)
          ∧ (∀ k, stays k = false ↔ ∃ i : Slot, k = .region i
            ∧ ((included i ∧ (s.record i).retirePending = true) ∨ b.snapshot[i] = .excluded))
          ∧ regions.Pairwise (· < ·)
          ∧ (∀ i : Slot, i ∈ regions ↔ u.isShown i = true ∧ (∃ p c, u.activePart i = some p ∧ p.source = .fill c)
            ∧ ((∃ tile, m.changed tile = true ∧ m.owner tile = some i) ∨ included i))
          ∧ ((behind = [.background] ∧ ∃ tile, m.changed tile = true ∧ m.owner tile = none)
            ∨ (behind = [] ∧ ∀ tile, m.changed tile = true → m.owner tile ≠ none))
          ∧ stales.Pairwise (· < ·)
          ∧ ∀ i : Slot, i ∈ stales ↔ (s.record i).stale = false ∧ (u.record i).stale = true
            ∧ ∃ d, (u.record i).live = some d ∧ d.attributes.staleAction = .fill)

/-- The swap of a TARGET map sets every zone that is not TRIPPED to its entry of the zone mode table for the new layout
and places its message in its slot, leaves a TRIPPED zone TRIPPED and its slot alone, sets COMMIT_DONE for a joined
commit, and enters SETTLING where the swap queued a job or left one waiting, or STEADY with TRANSITION_DONE exactly
where the Fill Writer is idle at the swap; the Pin and the zone settings stay (R67, R105, R106, R134, R136, R137).
That the test comes before the jobs of regions that turn Stale at this scan start is log entry 15. -/
def Obligations.TransitionSwap : Prop :=
  ∀ (c : Instr) (s : State) (b : Build) (m : Map), s.inReset = false →
    (c = .scanStart ∨ (c = .substituteScanStart ∧ s.link.timer ≠ none)) →
    s.engine.phase = .ready b m → b.kind = .target → s.transition.state = .holding →
    s.transition.holdCount = s.transition.blankHold →
    ∃ t u : State, exec c s = .next t ∧ t = u.finish ∧ t.activeLayout = m.layout
      ∧ t.transition.commitJoined = false ∧ t.transition.holdCount = 0 ∧ t.transition.waitingTarget = none
      ∧ t.transition.pin = s.transition.pin
      ∧ ((t.transition.state = .settling ∧ t.transition.target = s.transition.target)
        ∨ (t.transition.state = .steady ∧ t.transition.target = none ∧ t.flag .transitionDone = true))
      ∧ (m.wf = true →
        let included : Slot → Prop := fun i => (s.record i).inBuild = true
          ∧ ¬ ((s.record i).lifecycle = .quarantine ∧ (s.record i).quarantineCount ≤ 1)
        let goes : Key → Prop := fun k => ∃ i : Slot, k = .region i
          ∧ ((included i ∧ (s.record i).retirePending = true) ∨ b.snapshot[i] = .excluded)
        let waits : Prop := ∃ k : Key, ¬ goes k ∧ (k ∈ s.fill.queue ∨ ∃ j, s.fill.job = some j ∧ j.key = k)
        let repaints : Prop := (∃ tile, m.changed tile = true ∧ m.owner tile = none)
          ∨ ∃ (i : Slot) (p : Part) (colour : Colour), u.isShown i = true ∧ u.activePart i = some p
            ∧ p.source = .fill colour ∧ ((∃ tile, m.changed tile = true ∧ m.owner tile = some i) ∨ included i)
        (t.transition.state = .settling ↔ waits ∨ repaints) ∧ (t.transition.state = .steady ↔ ¬ (waits ∨ repaints)))
      ∧ u.link.flight = s.link.flight
      ∧ (s.transition.commitJoined = true → t.flag .commitDone = true)
      ∧ ∀ z : Zone,
        let entry : Bool := match m.layout with
          | .folded => s.zones.foldedTable.get z
          | .unfolded => s.zones.unfoldedTable.get z
        ((s.zoneState z).mode = .tripped → (t.zoneState z).mode = .tripped
          ∧ u.link.slots.get z = s.link.slots.get z)
        ∧ ((s.zoneState z).mode ≠ .tripped → (t.zoneState z).mode = (if entry = true then .on else .off)
          ∧ u.link.slots.get z =
            some (if entry = true then { on := true, brightness := 255 } else { on := false, brightness := 0 }))
        ∧ (t.zoneState z).idleLimit = (s.zoneState z).idleLimit
        ∧ (t.zoneState z).activityMask = (s.zoneState z).activityMask
        ∧ (t.zoneState z).dimLevel = (s.zoneState z).dimLevel

/-- A scan start without a swap, real or substitute: the substitute timer restarts, HOLDING counts it, each slot in
QUARANTINE loses one from its count and becomes FREE at 0, every other record keeps all but Stale and In Build. A
region is counted where it is IN_SERVICE and SHOWN with a Stale Limit, shows a stream in the active layout and is not
Stale; its stale count advances, and at the limit it becomes Stale, with REGION_STALE and its FILL job; that a region
of Stale Limit 1 does so also just after a COMPLETE frame of its stream is the model's choice (R88; log entry 27). A
substitute scan start is a real one that also sets SCAN_SUBSTITUTED; a scan start is ignored while a reset input is
asserted, and without a running timer there is no substitute (R38, R86, R87, R99, R133; log entry 4). -/
def Obligations.ScanCounts : Prop :=
  (∀ s : State,
    (s.inReset = false → s.link.timer ≠ none → exec .substituteScanStart s =
      exec .scanStart { s with port := { s.port with flags := s.port.flags ||| EventFlag.scanSubstituted.bit } })
    ∧ (s.inReset = true → exec .scanStart s = .next s)
    ∧ (s.link.timer = none → exec .substituteScanStart s = .next s))
  ∧ ∀ (c : Instr) (s : State), s.inReset = false →
    (c = .scanStart ∨ (c = .substituteScanStart ∧ s.link.timer ≠ none)) →
    (∀ b m, s.engine.phase = .ready b m → b.kind = .target ∧
      ¬ (s.transition.state = .holding ∧ s.transition.holdCount = s.transition.blankHold)) →
    ∃ t, exec c s = .next t ∧ t.engine.epoch = s.engine.epoch ∧ t.engine.active = s.engine.active
      ∧ t.link.timer = some s.link.interval
      ∧ (s.transition.state = .holding → s.transition.holdCount ≠ s.transition.blankHold →
        t.transition = { s.transition with holdCount := s.transition.holdCount + 1 })
      ∧ (∀ i : Slot,
        ((s.record i).lifecycle = .quarantine → (s.record i).quarantineCount ≤ 1 → t.record i =
          { generation := (s.record i).generation, lifecycle := .free, showing := .parked, stale := false,
            retirePending := false, commitPending := false, inBuild := false, quarantineCount := 0,
            ownedTiles := 0, live := none, pending := none })
        ∧ ((s.record i).lifecycle = .quarantine → 1 < (s.record i).quarantineCount →
          t.record i = { s.record i with quarantineCount := (s.record i).quarantineCount - 1 })
        ∧ ((s.record i).lifecycle ≠ .quarantine → t.record i =
          { s.record i with stale := (t.record i).stale, inBuild := (t.record i).inBuild }))
      ∧ (s.router.linkQueue = [] → ∀ (i : Slot),
        let counted := s.isShown i = true ∧ (s.record i).stale = false ∧ ∃ d p n oc orow,
          (s.record i).live = some d ∧ 1 ≤ d.attributes.staleLimit ∧ d.part s.engine.active.layout = some p
          ∧ p.source = .stream n oc orow
        (¬ counted → t.router.staleCounts[i] = s.router.staleCounts[i]
          ∧ ((s.record i).lifecycle ≠ .quarantine → (t.record i).stale = (s.record i).stale))
        ∧ ∀ d, counted → (s.record i).live = some d →
          t.router.staleCounts[i] = s.router.staleCounts[i] + 1
          ∧ ((t.record i).stale = true ↔ d.attributes.staleLimit ≤ s.router.staleCounts[i] + 1)
          ∧ ((t.record i).stale = true → t.flag .regionStale = true)
          ∧ ((t.record i).stale = true → d.attributes.staleAction = .fill →
            Key.region i ∈ t.fill.queue ∨ ∃ j, t.fill.job = some j ∧ j.key = .region i))

/-! ## The pixel input link -/

/-- FRAME_BEGIN and TILE_RUN, taken at once where the link is not held off and nothing waits on it: sizes out of range
leave Last Result MALFORMED and all else; sizes in range open a frame with the active epoch, after an open one has
closed as ABORTED with STREAM_ABORTED and its closing has been told to the drain; a run on a CLOSED stream leaves
ORPHAN; a run out of order or out of bounds sets Malformed; of both the tiles are still to be taken and dropped; a run
in order is routed; the frame timer is stopped until the last tile, and restarts at once in a run without tiles (R75,
R76, R77, R78, R85; log entry 18). A packet of the pixel input link is discarded while a reset input is asserted;
while the link is held off, a run is being taken or another packet waits, it waits its turn; a packet of another kind,
of another stream or of another length is discarded and changes nothing (R74, R97, R186; log entries 5 and 21). -/
def Obligations.FramesAndRuns : Prop :=
  (
    ∀ (s : State) (b : Byte) (n : Fin 8), s.inReset = false → s.link.streamWaiting = none → s.router.run = none →
      s.router.linkQueue = [] → b.toNat = n.val →
      (∀ w h : Byte,
        (¬ (1 ≤ w.toNat ∧ w.toNat ≤ 128 ∧ 1 ≤ h.toNat ∧ h.toNat ≤ 112) → exec (.frameBegin b w h) s =
          .next (s.updStream n fun st => { st with last := .malformed }))
        ∧ (1 ≤ w.toNat → w.toNat ≤ 128 → 1 ≤ h.toNat → h.toNat ≤ 112 →
          let opened : Frame :=
            { stamp := s.engine.epoch, width := w.toNat, height := h.toNat, next := 0, malformed := false,
              timer := some s.router.frameTimeout }
          (s.router.streams[n].frame = none → exec (.frameBegin b w h) s =
            .next (s.updStream n fun st => { st with frame := some opened }))
          ∧ (s.router.streams[n].frame ≠ none → exec (.frameBegin b w h) s =
            .next (State.drainTest ({ s with port := { s.port with
              flags := s.port.flags ||| EventFlag.streamAborted.bit } }.updStream n
                fun st => { st with frame := some opened, last := .aborted })))))
      ∧ ∀ (start : BitVec 16) (count : Byte) (tiles : List Pixels), tiles.length = count.toNat →
        (∀ px ∈ tiles, px.length = 256) →
        let dropped : State → State := fun t =>
          { t with router := { t.router with run := some { stream := n, tiles, routed := false } } }
        let orphan : State := s.updStream n fun st => { st with last := .orphan }
        (s.router.streams[n].frame = none →
          (tiles ≠ [] → exec (.tileRun b start count tiles) s = .next (dropped orphan))
          ∧ (tiles = [] → exec (.tileRun b start count tiles) s = .next orphan))
        ∧ ∀ f, s.router.streams[n].frame = some f →
          ((count.toNat = 0 ∨ 128 < count.toNat ∨ start.toNat ≠ f.next
              ∨ f.width * f.height < start.toNat + count.toNat) →
            (tiles ≠ [] → exec (.tileRun b start count tiles) s = .next (dropped (s.updStream n fun st =>
              { st with frame := some { f with malformed := true, timer := none } })))
            ∧ (tiles = [] → exec (.tileRun b start count tiles) s = .next (s.updStream n fun st =>
              { st with frame := some { f with malformed := true, timer := some s.router.frameTimeout } })))
          ∧ (1 ≤ count.toNat → count.toNat ≤ 128 → start.toNat = f.next →
            start.toNat + count.toNat ≤ f.width * f.height →
            exec (.tileRun b start count tiles) s =
              .next ({ s with router := { s.router with run := some { stream := n, tiles, routed := true } } }.updStream n
                fun st => { st with frame := some { f with timer := none } })))
  ∧ (
    ∀ (s : State) (b w h count : Byte) (start : BitVec 16) (tiles : List Pixels) (bytes : List Byte),
      (s.inReset = true →
        exec (.frameBegin b w h) s = .next s ∧ exec (.tileRun b start count tiles) s = .next s
        ∧ exec (.frameEnd b) s = .next s ∧ exec (.discardedPacket bytes) s = .next s)
      ∧ (s.inReset = false →
        (s.link.streamWaiting ≠ none ∨ s.router.run ≠ none ∨ s.router.linkQueue ≠ []) →
        let waits : Packet → State := fun p => { s with router := { s.router with linkQueue := s.router.linkQueue ++ [p] } }
        exec (.frameBegin b w h) s = .next (waits (.frameBegin b w h))
        ∧ exec (.tileRun b start count tiles) s = .next (waits (.tileRun b start count tiles))
        ∧ exec (.frameEnd b) s = .next (waits (.frameEnd b))
        ∧ (parsePacket bytes = none → exec (.discardedPacket bytes) s = .next (waits .discarded)))
      ∧ (s.link.streamWaiting = none → s.router.run = none → s.router.linkQueue = [] →
        (parsePacket bytes = none → exec (.discardedPacket bytes) s = .next s)
        ∧ (7 < b.toNat → exec (.frameBegin b w h) s = .next s ∧ exec (.tileRun b start count tiles) s = .next s
          ∧ exec (.frameEnd b) s = .next s)
        ∧ ((tiles.length ≠ count.toNat ∨ ∃ px ∈ tiles, px.length ≠ 256) →
          exec (.tileRun b start count tiles) s = .next s)))

/-- FRAME_END closes the frame as MALFORMED, SHORT or COMPLETE, the first that applies, or leaves ORPHAN on a CLOSED
stream; COMPLETE advances Frames Completed and clears the stale count and Stale of the SHOWN records bound to the
stream in the frame's map. FRAME_TIMER_EXPIRY closes the frame as ABORTED and sets STREAM_ABORTED. Each closing is
told to the drain, which ends where no frame of the held epoch is left; the engine is then IDLE and takes a waiting
claim (R69, R83, R84, R85, R88). That the expiry of a timer that does not run changes nothing is the model's choice
(log entry 4). -/
def Obligations.FramesClose : Prop :=
  ∀ (s : State) (b : Byte) (n : Fin 8), s.inReset = false → b.toNat = n.val →
    (s.link.streamWaiting = none → s.router.run = none → s.router.linkQueue = [] →
      (s.router.streams[n].frame = none →
        exec (.frameEnd b) s = .next (s.updStream n fun st => { st with last := .orphan }))
      ∧ ∀ f, s.router.streams[n].frame = some f →
        (f.malformed = true → exec (.frameEnd b) s =
          .next (State.drainTest (s.updStream n fun st => { st with frame := none, last := .malformed })))
        ∧ (f.malformed = false → f.next < f.width * f.height → exec (.frameEnd b) s =
          .next (State.drainTest (s.updStream n fun st => { st with frame := none, last := .short })))
        ∧ (f.malformed = false → f.width * f.height ≤ f.next →
          let cleared : Slot → Bool := (fun i =>
            (s.bindingsOf f.stamp n).any (fun e => e.region = i) && s.isShown i)
          exec (.frameEnd b) s = .next (State.drainTest ({ s with
            table := { s.table with slots := Vec.tabulate (fun i =>
              if cleared i = true then { s.record i with stale := false } else s.record i) }
            router := { s.router with staleCounts := Vec.tabulate (fun i =>
              if cleared i = true then 0 else s.router.staleCounts[i]) } }.updStream n
            fun st => { frame := none, completed := st.completed + 1, last := .complete }))))
    ∧ (∀ f, s.router.streams[n].frame = some f → f.timer ≠ none → exec (.frameTimerExpiry n) s =
      .next ((State.drainTest (s.updStream n fun st => { st with frame := none, last := .aborted })).setFlag
        .streamAborted))
    ∧ ((∀ f, s.router.streams[n].frame = some f → f.timer = none) → exec (.frameTimerExpiry n) s = .next s)
    ∧ (∀ m e, s.engine.phase = .draining m e →
      ((∃ (k : Fin 8) (f : Frame), s.router.streams[k].frame = some f ∧ f.stamp = e) → s.drainTest = s)
      ∧ ((∀ (k : Fin 8) (f : Frame), s.router.streams[k].frame = some f → f.stamp ≠ e) → s.drainTest =
        State.takeClaim { s with engine := { s.engine with phase := .idle } }))
    ∧ ((∀ m e, s.engine.phase ≠ .draining m e) → s.drainTest = s)

/-- STREAM_TILE takes the next tile of the run while no stream write waits. In a routed run Next Index advances, and the
writes are those of the bindings in the stream's list in the frame's map that cover the tile and pass the five tests,
in the order of that list, mirrored where the binding is. In a dropped run the tile is discarded; after the last tile
of either the frame timer restarts with the Frame Timeout then in force (R46, R77, R78, R79, R80, R81, R97). That
STREAM_TILE takes the tiles of a dropped run (log entry 18), and that without a tile to take nothing changes (log
entry 4), are the model's choice. -/
def Obligations.StreamTile : Prop :=
  ∀ s : State,
    (∀ (n : Fin 8) (px : Pixels) (rest : List Pixels) (f : Frame),
      s.router.run = some { stream := n, tiles := px :: rest, routed := true } → s.link.streamWaiting = none →
      s.router.streams[n].frame = some f → ∃ (passes : Map → Binding → Bool) (writes : List TileWrite),
        let place : Binding → Nat := fun b => 128 * (b.baseRow + f.next / f.width - b.originRow)
          + b.translation.physical (b.baseCol + f.next % f.width - b.originCol)
        let mapOfFrame : Map → Prop := fun m => (f.stamp = s.engine.epoch ∧ m = s.engine.active)
          ∨ (f.stamp ≠ s.engine.epoch ∧ s.engine.phase = .draining m f.stamp)
        exec .streamTile s = .next (State.finish ({ s with router := { s.router with
          run := some { stream := n, tiles := rest, routed := true }, handing := s.router.handing ++ writes } }.updStream n
            fun st => { st with frame := some { f with next := f.next + 1 } }))
        ∧ (∀ (m : Map) (b : Binding), passes m b = true ↔
          b.originCol ≤ f.next % f.width ∧ f.next % f.width < b.originCol + b.width
          ∧ b.originRow ≤ f.next / f.width ∧ f.next / f.width < b.originRow + b.height
          ∧ m.owner (place b) = some b.region
          ∧ (f.stamp ≠ s.engine.epoch → s.engine.active.changed (place b) = false)
          ∧ keptOut s.keepOuts s.sampler.bendApplied (place b) = false
          ∧ (s.zoneState (s.geometry.zoneOfTile (place b))).mode ≠ .tripped
          ∧ s.heldBack (place b) = false)
        ∧ (∀ m : Map, mapOfFrame m → writes = (m.bindings[n].filter (passes m)).map fun b =>
          { tile := place b, pixels := if b.translation.mirror then reverseRows px else px, kind := .stream })
        ∧ ((∀ m : Map, ¬ mapOfFrame m) → writes = []))
    ∧ (∀ (n : Fin 8) (px : Pixels) (rest : List Pixels),
      s.router.run = some { stream := n, tiles := px :: rest, routed := false } → s.link.streamWaiting = none →
      exec .streamTile s = .next (State.finish { s with router := { s.router with
        run := some { stream := n, tiles := rest, routed := false } } })
      ∧ (rest = [] → s.router.handing = [] → s.router.linkQueue = [] →
        ∃ t, exec .streamTile s = .next t ∧ t.router.run = none
          ∧ ∀ f, s.router.streams[n].frame = some f →
            t.router.streams[n].frame = some { f with timer := some s.router.frameTimeout }))
    ∧ ((∀ (n : Fin 8) (px : Pixels) (rest : List Pixels) (routed : Bool),
        s.router.run = some { stream := n, tiles := px :: rest, routed } →
        (routed = true → s.router.streams[n].frame ≠ none) → s.link.streamWaiting ≠ none) →
      exec .streamTile s = .next s)

/-! ## The panel link and the Fill Writer -/

/-- TRANSFER_COMPLETE: the panel driver takes what the transfer carried, the link is FREE and the next is granted; a tile
write reaches its tile and no other, a message its zone and no other; and no other command writes to the panel (R93,
R96). The panel as a field of State (log entry 10), and that with the link FREE nothing happens (log entry 4), are the
model's choice. -/
def Obligations.TransferComplete : Prop :=
  (∀ (s : State) (w : TileWrite), s.link.flight = some (.tile w) →
    ∃ t, exec .transferComplete s = .next t
      ∧ t = State.finish { s with panel := t.panel, link := { s.link with flight := none } }
      ∧ t.panel.read w.tile = some w.pixels ∧ t.panel.zones = s.panel.zones
      ∧ ∀ u : Nat, u ≠ w.tile → t.panel.read u = s.panel.read u)
  ∧ (∀ (s : State) (z : Zone) (m : Message), s.link.flight = some (.message z m) →
    exec .transferComplete s = .next (State.finish { s with
      panel := { s.panel with zones := s.panel.zones.set z (some m) }, link := { s.link with flight := none } }))
  ∧ (∀ s : State, s.link.flight = none → exec .transferComplete s = .next s)
  ∧ ∀ (c : Instr) (s t : State), exec c s = .next t → c ≠ .transferComplete → t.panel = s.panel

/-- One decision of the arbiter with the link FREE: messages first, REAR, SPINE, FRONT; then a stream write before a fill
write unless eight have been granted while one waited; a granted stream write advances the Fill Wait Count where a
fill write waits, a granted fill write returns it to 0, and both report an activity; a write that fails the protection
test, or a fill write of a job other than BLANK that the blanking test holds back, is discarded. The blanking test
holds back, in BLANKING and HOLDING, the tiles Changed in the READY target map (R94, R95, R96, R98, R102, R104, R131). -/
def Obligations.Arbitration : Prop :=
  ∀ s : State,
    (s.link.flight ≠ none → s.arbitrate = none)
    ∧ (∀ t : Nat, s.heldBack t = true ↔ (s.transition.state = .blanking ∨ s.transition.state = .holding)
      ∧ ∃ b m, s.engine.phase = .ready b m ∧ b.kind = .target ∧ m.changed t = true)
    ∧ (s.link.flight = none →
      let protectionFails : TileWrite → Prop := fun w =>
        heldByHole s.keepOuts w.tile = true
        ∨ (s.sampler.bendApplied = true ∧ coveredByBend s.keepOuts w.tile = true ∧ w.darkens = false)
        ∨ (s.zoneState (s.geometry.zoneOfTile w.tile)).mode = .tripped
      let stream : TileWrite → State → Prop := fun w t =>
        (protectionFails w → t = { s with link := { s.link with streamWaiting := none } })
        ∧ (¬ protectionFails w → t =
          ({ s with link := { s.link with
              flight := some (.tile w), streamWaiting := none,
              fillWaitCount := if s.link.fillWaiting = none then s.link.fillWaitCount
                               else s.link.fillWaitCount + 1 } }.activity .stream (s.geometry.zoneOfTile w.tile)))
      let fill : TileWrite → Key → State → Prop := fun w k t =>
        let advanced := s.fill.job.map fun j => { j with position := j.position + 1 }
        let fails := protectionFails w ∨ (k ≠ .blank ∧ s.heldBack w.tile = true)
        (fails → t = { s with link := { s.link with fillWaiting := none }, fill := { s.fill with job := advanced } })
        ∧ (¬ fails → t =
          ({ s with link := { s.link with flight := some (.tile w), fillWaiting := none, fillWaitCount := 0 }
                    fill := { s.fill with job := advanced } }.activity .fill (s.geometry.zoneOfTile w.tile)))
      (∀ m, s.link.slots.rear = some m → s.arbitrate = some { s with link := { s.link with
        flight := some (.message .rear m), slots := { s.link.slots with rear := none } } })
      ∧ (∀ m, s.link.slots.rear = none → s.link.slots.spine = some m → s.arbitrate = some { s with link := { s.link with
        flight := some (.message .spine m), slots := { s.link.slots with spine := none } } })
      ∧ (∀ m, s.link.slots.rear = none → s.link.slots.spine = none → s.link.slots.front = some m →
        s.arbitrate = some { s with link := { s.link with
          flight := some (.message .front m), slots := { s.link.slots with front := none } } })
      ∧ (s.link.slots.rear = none → s.link.slots.spine = none → s.link.slots.front = none →
        (s.link.streamWaiting = none → s.link.fillWaiting = none → s.arbitrate = none)
        ∧ (∀ w : TileWrite, w.kind = .stream → s.link.streamWaiting = some w →
          (s.link.fillWaiting = none ∨ s.link.fillWaitCount < 8) → ∃ t, s.arbitrate = some t ∧ stream w t)
        ∧ (∀ (w : TileWrite) (k : Key) (d : Bool), w.kind = .fill k d → s.link.fillWaiting = some w →
          (s.link.streamWaiting = none ∨ 8 ≤ s.link.fillWaitCount) → ∃ t, s.arbitrate = some t ∧ fill w k t)))

/-- The tiles that a fill job writes, and in which colour: a region's own tiles in the region's colour, BACKGROUND the
unowned ones, BLANK those Changed in the READY target map, BEND the strip darkened while BEND Applied is set and else
repainted, a ZONE job its zone repainted; a stream's tiles are repainted by none (R103). -/
def Obligations.FillJobSets : Prop :=
  ∀ (s : State) (t : Nat) (c : Colour),
    let background : Colour :=
      match s.engine.active.layout with
      | .folded => s.fill.foldedColour
      | .unfolded => s.fill.unfoldedColour
    let ownFill : Slot → Prop := fun i => ∃ p, s.activePart i = some p ∧ p.source = .fill c
    let repaint : Prop :=
      (s.engine.active.owner t = none ∧ c = background) ∨ ∃ i, s.engine.active.owner t = some i ∧ ownFill i
    (∀ i : Slot, s.jobColour (.region i) t = some c ↔
      s.engine.active.owner t = some i ∧ s.isShown i = true ∧
        (ownFill i ∨ ∃ p n oc orow d, s.activePart i = some p ∧ p.source = .stream n oc orow
          ∧ (s.record i).stale = true ∧ (s.record i).live = some d ∧ d.attributes.staleAction = .fill
          ∧ c = d.attributes.fallback))
    ∧ (s.jobColour .background t = some c ↔ s.engine.active.owner t = none ∧ c = background)
    ∧ (s.jobColour .blank t = some c ↔ ∃ b m, s.engine.phase = .ready b m ∧ b.kind = .target ∧ m.changed t = true
      ∧ c = match m.layout with
        | .folded => s.fill.foldedColour
        | .unfolded => s.fill.unfoldedColour)
    ∧ (s.jobColour .bend t = some c ↔ coveredByBend s.keepOuts t = true ∧ heldByHole s.keepOuts t = false
      ∧ ((s.sampler.bendApplied = true ∧ c = 0) ∨ (s.sampler.bendApplied = false ∧ repaint)))
    ∧ ∀ z : Zone, s.jobColour (.zone z) t = some c ↔ s.geometry.zoneOfTile t = z ∧ repaint

/-- FILL_JOB_COMPLETE: a job past the last tile with no write waiting ends, the end of BLANK in BLANKING brings HOLDING
with the Hold Count at 0, and the next job starts; a job with tiles left, or none, does not end; where the Fill Writer
becomes idle in SETTLING, the transition is done, TRANSITION_DONE is set, and a Waiting Target starts the next one
(R102, R132, R137, R138; log entry 4). -/
def Obligations.FillJobComplete : Prop :=
  ∀ s : State,
    (∀ j : Job, s.fill.job = some j → 14336 ≤ j.position → s.link.fillWaiting = none →
      exec .fillJobComplete s = .next (State.finish { s with
        fill := { s.fill with job := none }
        transition := if j.key = .blank ∧ s.transition.state = .blanking then
            { s.transition with state := .holding, holdCount := 0 }
          else s.transition }))
    ∧ ((∀ j : Job, s.fill.job = some j → j.position < 14336 ∨ s.link.fillWaiting ≠ none) →
      exec .fillJobComplete s = .next s)
    ∧ ∀ j : Job, s.inReset = false → s.fill.job = some j → 14336 ≤ j.position → s.link.fillWaiting = none →
      s.fill.queue = [] → s.transition.state = .settling →
      ∃ t, exec .fillJobComplete s = .next t ∧ t.flag .transitionDone = true
        ∧ (s.transition.waitingTarget = none → t.transition =
          { s.transition with state := .steady, target := none, waitingTarget := none })
        ∧ ∀ layout, s.transition.waitingTarget = some layout → layout ≠ s.engine.active.layout →
          (s.transition.pin = none ∨ s.transition.pin = some layout) →
          t.flag .transitionStarted = true ∧ t.transition.target = some layout
          ∧ t.transition.waitingTarget = none
          ∧ (t.transition.state = if s.transition.prepareWindow = 0 then .building else .prepare)

/-! ## Settings -/

/-- STREAM SET takes 1 to 255 ms, SCAN SET 10 to 100 ms, BACKGROUND SET a layout and a colour, with a BACKGROUND job where
the colour of the active layout changes; TRANSITION SET takes its settings in STEADY and is BUSY elsewhere; other
parameters are refused with BAD_PARAM (R90, R100, R107, R148); that those of TRANSITION SET which are cut short or
superfluous come before BUSY is the model's choice (log entry 11). POSTURE SET replaces the settings it carries and
clears the debounce run where a limit or the Debounce changes; limits that would be out of order, a setting out of
range and none at all are refused with BAD_PARAM (R120). -/
def Obligations.Settings : Prop :=
  (
    ∀ s : State,
      (∀ n : Byte, s.Holds 0x40 [n] → 1 ≤ n.toNat → exec .streamSet s =
        .next ({ s with router := { s.router with frameTimeout := n.toNat } }.responds 0x40 .ok .empty))
      ∧ (∀ ps : List Byte, s.Holds 0x40 ps → (∀ n : Byte, ps = [n] → n = 0) →
        exec .streamSet s = .next (s.responds 0x40 .badParam .empty))
      ∧ (∀ n : Byte, s.Holds 0x43 [n] → 10 ≤ n.toNat → n.toNat ≤ 100 → exec .scanSet s =
        .next ({ s with link := { s.link with interval := n.toNat } }.responds 0x43 .ok .empty))
      ∧ (∀ ps : List Byte, s.Holds 0x43 ps → (∀ n : Byte, ps = [n] → n.toNat < 10 ∨ 100 < n.toNat) →
        exec .scanSet s = .next (s.responds 0x43 .badParam .empty))
      ∧ (∀ (layout : Layout) (r g b : Byte), s.Holds 0x42 [layoutByte layout, r, g, b] →
        let held : Colour := match layout with
          | .folded => s.fill.foldedColour
          | .unfolded => s.fill.unfoldedColour
        let t : State := { s with fill := match layout with
          | .folded => { s.fill with foldedColour := r ++ g ++ b }
          | .unfolded => { s.fill with unfoldedColour := r ++ g ++ b } }
        (held = r ++ g ++ b → exec .backgroundSet s = .next (s.responds 0x42 .ok .empty))
        ∧ (held ≠ r ++ g ++ b → layout = s.engine.active.layout →
          exec .backgroundSet s = .next ((t.queueJob .background).finish.responds 0x42 .ok .empty))
        ∧ (held ≠ r ++ g ++ b → layout ≠ s.engine.active.layout →
          exec .backgroundSet s = .next (t.responds 0x42 .ok .empty)))
      ∧ (∀ ps : List Byte, s.Holds 0x42 ps → (∀ (layout : Layout) (r g b : Byte), ps ≠ [layoutByte layout, r, g, b]) →
        exec .backgroundSet s = .next (s.responds 0x42 .badParam .empty))
      ∧ (∀ window hold : Option Nat, transitionSetInRange window hold = true →
        s.Holds 0x64 (transitionSetBytes window hold) →
        (s.transition.state = .steady → exec .transitionSet s = .next ({ s with transition := { s.transition with
          prepareWindow := window.getD s.transition.prepareWindow,
          blankHold := hold.getD s.transition.blankHold } }.responds 0x64 .ok .empty))
        ∧ (s.transition.state ≠ .steady → exec .transitionSet s = .next (s.responds 0x64 .busy .empty)))
      ∧ ∀ ps : List Byte, s.Holds 0x64 ps →
        (∀ window hold : Option Nat, transitionSetInRange window hold = true → ps ≠ transitionSetBytes window hold) →
        exec .transitionSet s = .next (s.responds 0x64 .badParam .empty))
  ∧ (
    ∀ s : State,
      (∀ e : PostureEdit, e.inRange = true → s.Holds 0x50 e.bytes →
        let q : Sampler := { s.sampler with
          sampleInterval := e.sampleInterval.getD s.sampler.sampleInterval
          foldLimit := e.foldLimit.getD s.sampler.foldLimit, openLimit := e.openLimit.getD s.sampler.openLimit
          debounce := e.debounce.getD s.sampler.debounce, reportMode := e.reportMode.getD s.sampler.reportMode }
        let same := q.foldLimit = s.sampler.foldLimit ∧ q.openLimit = s.sampler.openLimit
          ∧ q.debounce = s.sampler.debounce
        (q.openLimit ≤ q.foldLimit → exec .postureSet s = .next (s.responds 0x50 .badParam .empty))
        ∧ (q.foldLimit < q.openLimit → same →
          exec .postureSet s = .next ({ s with sampler := q }.responds 0x50 .ok .empty))
        ∧ (q.foldLimit < q.openLimit → ¬ same → exec .postureSet s =
          .next ({ s with sampler := { q with runClass := none, runLength := 0 } }.responds 0x50 .ok .empty)))
      ∧ ∀ ps : List Byte, s.Holds 0x50 ps → (∀ e : PostureEdit, e.inRange = true → ps ≠ e.bytes) →
        exec .postureSet s = .next (s.responds 0x50 .badParam .empty))

/-! ## Posture sensing -/

/-- The interval timer's expiry starts a measurement. A measurement that completes leaves the sampler WAITING with the
Sample Interval in force and replaces the Last Sample and its status; its rising edges decide them: none before 4095
us is NO_SIGNAL with 0; four more within less than 4095 us of the first are VALID with that time; anything else is
SATURATED with 4095 (R110, R111; log entries 4 and 20). -/
def Obligations.Measurements : Prop :=
  ∀ s : State,
    (∀ n, s.sampler.phase = .waiting n →
      exec .intervalTimerExpiry s = .next { s with sampler := { s.sampler with phase := .measuring } })
    ∧ ((∀ n, s.sampler.phase ≠ .waiting n) → exec .intervalTimerExpiry s = .next s)
    ∧ ∀ edges : List Nat, risingTimes edges = true →
      (s.sampler.phase ≠ .measuring → exec (.measurementComplete edges) s = .next s)
      ∧ (s.sampler.phase = .measuring → ∃ t, exec (.measurementComplete edges) s = .next t
        ∧ t.sampler.phase = .waiting s.sampler.sampleInterval
        ∧ ((∀ e ∈ edges, 4095 ≤ e) → t.sampler.lastSample = 0 ∧ t.sampler.status = .noSignal)
        ∧ (∀ e rest, edges = e :: rest → e < 4095 →
          (∀ a b c f more, rest = a :: b :: c :: f :: more → f - e < 4095 →
            t.sampler.lastSample = f - e ∧ t.sampler.status = .valid ∧ 1 ≤ f - e)
          ∧ ((∀ a b c f more, rest = a :: b :: c :: f :: more → 4095 ≤ f - e) →
            t.sampler.lastSample = 4095 ∧ t.sampler.status = .saturated)))

/-- A valid Sample is classified against the limits in force at its completion: 1 to Fold Limit FOLDED, above it and below
the Open Limit PARTIAL, Open Limit to 4094 UNFOLDED; an invalid Sample has no class; and the Fold Limit stays below
the Open Limit (R112). -/
def Obligations.SampleClasses : Prop :=
  (∀ (s t : State) (edges : List Nat) (d : Nat), s.sampler.phase = .measuring → measure edges = (d, .valid) →
    exec (.measurementComplete edges) s = .next t →
    1 ≤ d ∧ d ≤ 4094 ∧ s.sampler.foldLimit < s.sampler.openLimit →
    (d ≤ s.sampler.foldLimit → t.sampler.lastClass = some .folded)
    ∧ (s.sampler.foldLimit < d → d < s.sampler.openLimit → t.sampler.lastClass = some .partly)
    ∧ (s.sampler.openLimit ≤ d → t.sampler.lastClass = some .unfolded))
  ∧ (∀ (s t : State) (edges : List Nat), s.sampler.phase = .measuring → (measure edges).2 ≠ .valid →
    exec (.measurementComplete edges) s = .next t → t.sampler.lastClass = none)
  ∧ (KeptByStep fun s => s.sampler.foldLimit < s.sampler.openLimit)
  ∧ State.reset.sampler.foldLimit = 1200 ∧ State.reset.sampler.openLimit = 3000

/-- A valid Sample of class C: the Invalid Run is 0; where C is the posture the run is cleared, else the run counts C from
1 or on, and at the Debounce the posture becomes C with its direction, BEND Applied follows with a BEND job where it
changes, POSTURE_CHANGED is set where the Report Mode admits the direction, and the Implied Layout is requested. An
invalid Sample clears the run and advances the Invalid Run up to 8; at 8 the sensor is lost: posture UNKNOWN, BEND
Applied set, SENSOR_LOST; no request and no POSTURE_CHANGED. While a reset input is asserted the sampler's own fields
change in the same way, no flag is set, no request raised and no job queued, and a BEND job called for is deferred
(R113 to R119, R123). -/
def Obligations.PostureSettles : Prop :=
  ∀ (s : State) (edges : List Nat), s.sampler.phase = .measuring →
    (∀ (d : Nat) (cls : HingeClass) (target : Posture), measure edges = (d, .valid) →
      cls = (if d ≤ s.sampler.foldLimit then .folded else if d < s.sampler.openLimit then .partly else .unfolded) →
      target = (match cls with
        | .folded => .folded
        | .partly => .partly
        | .unfolded => .unfolded) →
      let base : Sampler := { s.sampler with
        phase := .waiting s.sampler.sampleInterval, lastSample := d, status := .valid, lastClass := some cls
        invalidRun := 0 }
      let run : Nat := if s.sampler.runClass = some cls then s.sampler.runLength + 1 else 1
      (target = s.sampler.posture → exec (.measurementComplete edges) s =
        .next (State.finish { s with sampler := { base with runClass := none, runLength := 0 } }))
      ∧ (target ≠ s.sampler.posture → run < s.sampler.debounce → exec (.measurementComplete edges) s =
        .next (State.finish { s with sampler := { base with runClass := some cls, runLength := run } }))
      ∧ (target ≠ s.sampler.posture → s.sampler.debounce ≤ run →
        let direction : Direction := match s.sampler.posture, cls with
          | .unknown, _ => .resumed
          | .folded, _ => .opening
          | .partly, .unfolded => .opening
          | .partly, _ => .closing
          | .unfolded, _ => .closing
        let bends : Bool := decide (cls = .partly)
        let settled : State := { s with sampler := { base with
          posture := target, lastDirection := direction, runClass := none, runLength := 0, bendApplied := bends } }
        let bent : State := if s.sampler.bendApplied = bends then settled else settled.queueJob .bend
        let admitted : Bool := match direction, s.sampler.reportMode with
          | .opening, .closing => false
          | .closing, .opening => false
          | _, _ => true
        let told : State :=
          if admitted = true then { bent with port := { bent.port with
            flags := bent.port.flags ||| EventFlag.postureChanged.bit } } else bent
        (s.inReset = false → exec (.measurementComplete edges) s = .next (State.finish (match cls with
          | .folded => told.layoutRequest .folded
          | .unfolded => told.layoutRequest .unfolded
          | .partly => told)))
        ∧ (s.inReset = true → exec (.measurementComplete edges) s = .next (State.finish { settled with
            sampler := { settled.sampler with
              bendDeferred := s.sampler.bendDeferred || decide (s.sampler.bendApplied ≠ bends) } }))))
    ∧ ∀ (d : Nat) (status : SampleStatus), measure edges = (d, status) → status ≠ .valid →
      let base : Sampler := { s.sampler with
        phase := .waiting s.sampler.sampleInterval, lastSample := d, status := status, lastClass := none
        runClass := none, runLength := 0
        invalidRun := if s.sampler.invalidRun < 8 then s.sampler.invalidRun + 1 else 8 }
      (s.sampler.invalidRun ≠ 7 →
        exec (.measurementComplete edges) s = .next (State.finish { s with sampler := base }))
      ∧ (s.sampler.invalidRun = 7 →
        let lost : State := { s with
          sampler := { base with posture := .unknown, bendApplied := true }
          port := { s.port with flags := s.port.flags ||| EventFlag.sensorLost.bit } }
        (s.inReset = false → exec (.measurementComplete edges) s =
          .next (State.finish (if s.sampler.bendApplied = true then lost else lost.queueJob .bend)))
        ∧ (s.inReset = true → exec (.measurementComplete edges) s = .next (State.finish { s with
            sampler := { base with
              posture := .unknown, bendApplied := true
              bendDeferred := s.sampler.bendDeferred || !s.sampler.bendApplied } })))

/-! ## Transitions -/

/-- A call to start: from STEADY, for the layout that is not active and that the Pin allows, TRANSITION_STARTED is set and
PREPARE begins with its timer, or with a Prepare Window of 0 the TARGET claim is raised at once; else nothing. What a
layout acts on: a start in STEADY, a cancel from PREPARE to HOLDING where it is the active one, the Waiting Target in
SETTLING; a posture's request is recorded, and under a Pin set aside (R125, R126, R127, R143). -/
def Obligations.LayoutActs : Prop :=
  ∀ (s : State) (layout : Layout), s.inReset = false →
    (let started : State := { s with
        transition := { s.transition with
          state := .prepare, target := some layout, waitingTarget := none, commitJoined := false, holdCount := 0
          prepareTimer := some s.transition.prepareWindow }
        port := { s.port with flags := s.port.flags ||| EventFlag.transitionStarted.bit } }
      let called := s.transition.state = .steady ∧ layout ≠ s.engine.active.layout
        ∧ (s.transition.pin = none ∨ s.transition.pin = some layout)
      (called → s.transition.prepareWindow ≠ 0 → s.callStart layout = started)
      ∧ (called → s.transition.prepareWindow = 0 → s.callStart layout = State.takeClaim { started with
          transition := { started.transition with state := .building, prepareTimer := none }
          engine := { s.engine with claims := { s.engine.claims with target := some layout } } })
      ∧ (¬ called → s.callStart layout = s))
    ∧ (s.transition.state = .steady → s.actOnLayout layout = s.callStart layout)
    ∧ ((s.transition.state = .prepare ∨ s.transition.state = .building ∨ s.transition.state = .blanking
        ∨ s.transition.state = .holding) →
      (layout = s.engine.active.layout → s.actOnLayout layout = s.cancel)
      ∧ (layout ≠ s.engine.active.layout → s.actOnLayout layout = s))
    ∧ (s.transition.state = .settling → s.actOnLayout layout = { s with transition := { s.transition with
        waitingTarget := if layout = s.engine.active.layout then none else some layout } })
    ∧ (s.transition.pin ≠ none → s.layoutRequest layout = { s with transition := { s.transition with
        lastRequest := some layout, setAside := true } })
    ∧ (s.transition.pin = none → s.layoutRequest layout = State.actOnLayout layout { s with
        transition := { s.transition with lastRequest := some layout, setAside := false } })

/-- A cancel: from BLANKING on, the region jobs of the SHOWN fill records that own a tile Changed in the target map, in
ascending Region ID, and then BACKGROUND join the queue; the TARGET claim is withdrawn, a TARGET build or map is
dropped with In Build cleared and the engine IDLE, where it takes a waiting claim: RESTORE, then the COMMIT latch,
which sets COMMIT_DONE where no record is committable; BLANK is removed or stopped; the fields return to STEADY and
TRANSITION_CANCELLED is set; no record but In Build, and no map but the target's, changes (R52, R53, R70, R106, R139,
R140, R141). -/
def Obligations.Cancel : Prop :=
  ∀ s : State, s.inReset = false →
    s.cancel.transition = { s.transition with
      state := .steady, target := none, commitJoined := false, holdCount := 0, prepareTimer := none }
    ∧ s.cancel.flag .transitionCancelled = true
    ∧ s.cancel.engine.epoch = s.engine.epoch ∧ s.cancel.engine.active = s.engine.active
    ∧ s.cancel.router = s.router ∧ s.cancel.zones = s.zones ∧ s.cancel.sampler = s.sampler
    ∧ s.cancel.link = (if ∃ j, s.fill.job = some j ∧ j.key = .blank then { s.link with fillWaiting := none }
        else s.link)
    ∧ s.cancel.fill.job = s.fill.job.filter (fun j => j.key ≠ .blank)
    ∧ (s.blankingOn = false → s.cancel.fill.queue = s.fill.queue.filter fun k => k ≠ .blank)
    ∧ (s.blankingOn = true → s.Canonical → ∃ regions : List Slot,
      s.cancel.fill.queue = ((regions.map Key.region ++ [Key.background]).foldl
        (fun q k => if k ∈ q then q else q ++ [k]) s.fill.queue).filter (fun k : Key => k ≠ .blank)
      ∧ regions.Pairwise (· < ·)
      ∧ ∀ i : Slot, i ∈ regions ↔ ∃ (b : Build) (m : Map) (p : Part) (c : Colour) (t : Nat),
        s.engine.phase = .ready b m ∧ b.kind = .target ∧ s.isShown i = true ∧ s.activePart i = some p
        ∧ p.source = .fill c ∧ m.changed t = true ∧ s.engine.active.owner t = some i)
    ∧ (∀ i : Slot, s.cancel.record i = { s.record i with inBuild := (s.cancel.record i).inBuild })
    ∧ (((∃ b, s.engine.phase = .building b ∧ b.kind = .target)
        ∨ (∃ b m, s.engine.phase = .ready b m ∧ b.kind = .target)) →
      let dropped : State := { s with
        engine := { s.engine with phase := .idle, claims := { s.engine.claims with target := none } }
        table := { s.table with slots := Vec.tabulate fun i => { s.record i with inBuild := false } } }
      s.cancel.engine = dropped.takeClaim.engine ∧ s.cancel.table = dropped.takeClaim.table
      ∧ s.cancel.port = { dropped.takeClaim.port with
          flags := dropped.takeClaim.port.flags ||| EventFlag.transitionCancelled.bit }
      ∧ (s.engine.claims.restore = false → s.engine.claims.commitLatch = false →
        s.cancel.engine.phase = .idle ∧ s.cancel.engine.claims.target = none
        ∧ ∀ i : Slot, (s.cancel.record i).inBuild = false)
      ∧ (s.engine.claims.restore = true → (∃ b : Build, s.cancel.engine.phase = .building b ∧ b.kind = .restore
          ∧ b.layout = s.engine.active.layout)
        ∧ s.cancel.engine.claims = { s.engine.claims with restore := false, target := none })
      ∧ (s.engine.claims.restore = false → s.engine.claims.commitLatch = true →
        s.cancel.engine.claims = { restore := false, target := none, commitLatch := false }
        ∧ ((∃ i : Slot, (s.record i).commitPending = true) → ∃ b : Build, s.cancel.engine.phase = .building b
          ∧ b.kind = .commit ∧ b.layout = s.engine.active.layout)
        ∧ ((∀ i : Slot, (s.record i).commitPending = false) →
          s.cancel.engine.phase = .idle ∧ s.cancel.flag .commitDone = true)))
    ∧ (((∀ b, s.engine.phase = .building b → b.kind ≠ .target)
        ∧ (∀ b m, s.engine.phase = .ready b m → b.kind ≠ .target)) →
      s.cancel.engine = { s.engine with claims := { s.engine.claims with target := none } }
      ∧ s.cancel.port = { s.port with flags := s.port.flags ||| EventFlag.transitionCancelled.bit }
      ∧ ∀ i : Slot, s.cancel.record i = s.record i)

/-- LAYOUT READY ends PREPARE and is refused elsewhere with BAD_STATE; the Prepare timer's expiry ends it too and sets
PREPARE_EXPIRED; either raises the TARGET claim. LAYOUT PIN pins and acts on its layout; LAYOUT UNPIN unpins, clears
Set Aside and acts on the Implied Layout; TRANSITION ABORT cancels and pins the active layout, and is refused in
STEADY with BAD_STATE and in SETTLING with TOO_LATE (R127, R128, R143, R144, R145; log entry 4). -/
def Obligations.LayoutRequests : Prop :=
  ∀ s : State, s.inReset = false →
    (
      let raised : State := State.takeClaim { s with
        transition := { s.transition with state := .building, prepareTimer := none }
        engine := { s.engine with claims := { s.engine.claims with target := s.transition.target } } }
      (s.Holds 0x60 [] → s.transition.state = .prepare →
        exec .layoutReady s = .next (raised.responds 0x60 .ok .empty))
      ∧ (s.Holds 0x60 [] → s.transition.state ≠ .prepare →
        exec .layoutReady s = .next (s.responds 0x60 .badState .empty)))
    ∧ (s.transition.prepareTimer ≠ none → exec .prepareTimerExpiry s = .next (State.takeClaim { s with
        transition := { s.transition with state := .building, prepareTimer := none }
        engine := { s.engine with claims := { s.engine.claims with target := s.transition.target } }
        port := { s.port with flags := s.port.flags ||| EventFlag.prepareExpired.bit } }))
    ∧ (s.transition.prepareTimer = none → exec .prepareTimerExpiry s = .next s)
    ∧ (∀ layout : Layout, s.Holds 0x61 [layoutByte layout] → exec .layoutPin s =
      .next ((State.actOnLayout layout { s with transition := { s.transition with
        pin := some layout } }).finish.responds 0x61 .ok .empty))
    ∧ (∀ ps : List Byte, s.Holds 0x61 ps → (∀ layout, ps ≠ [layoutByte layout]) →
      exec .layoutPin s = .next (s.responds 0x61 .badParam .empty))
    ∧ (s.Holds 0x62 [] →
      let t : State := { s with transition := { s.transition with pin := none, setAside := false } }
      (s.sampler.posture = .folded →
        exec .layoutUnpin s = .next ((t.actOnLayout .folded).finish.responds 0x62 .ok .empty))
      ∧ (s.sampler.posture = .unfolded →
        exec .layoutUnpin s = .next ((t.actOnLayout .unfolded).finish.responds 0x62 .ok .empty))
      ∧ ((s.sampler.posture = .partly ∨ s.sampler.posture = .unknown) →
        exec .layoutUnpin s = .next (t.finish.responds 0x62 .ok .empty)))
    ∧ (s.Holds 0x63 [] →
      (s.transition.state = .steady → exec .transitionAbort s = .next (s.responds 0x63 .badState .empty))
      ∧ (s.transition.state = .settling → exec .transitionAbort s = .next (s.responds 0x63 .tooLate .empty))
      ∧ (s.transition.state ≠ .steady → s.transition.state ≠ .settling → exec .transitionAbort s =
        .next (({ s.cancel with transition := { s.cancel.transition with
          pin := some s.engine.active.layout } }).finish.responds 0x63 .ok .empty)))

/-! ## Zones -/

/-- ZONE TABLE replaces the entries it carries; ZONE IDLE replaces the settings it carries, restarts or stops the idle
timer of an ON zone where it carries an Idle Limit, and places the message of a DIM zone where it carries a Dim Level;
ZONE MODE sets the mode, the timer and the message of a zone that is not TRIPPED; ZONE RESTORE returns a TRIPPED zone
whose Fault Active is clear to its table entry, with its message and its ZONE job. What they refuse: FAULT_ACTIVE,
BAD_STATE, BAD_PARAM (R154, R157, R158, R162); that a wrong number of parameters of ZONE MODE or ZONE RESTORE is
BAD_PARAM before FAULT_ACTIVE and BAD_STATE is the model's choice (log entry 11). -/
def Obligations.ZoneRequests : Prop :=
  ∀ s : State, s.inReset = false →
    (∀ (layout : Layout) (rear spine front : Option Bool), (rear.isSome || spine.isSome || front.isSome) = true →
      s.Holds 0x71 (zoneTableBytes layout rear spine front) →
      let given : PerZone Bool → PerZone Bool := fun t =>
        { rear := rear.getD t.rear, spine := spine.getD t.spine, front := front.getD t.front }
      exec .zoneTable s = .next ({ s with zones := match layout with
        | .folded => { s.zones with foldedTable := given s.zones.foldedTable }
        | .unfolded => { s.zones with unfoldedTable := given s.zones.unfoldedTable } }.responds 0x71 .ok .empty))
    ∧ (∀ ps : List Byte, s.Holds 0x71 ps →
      (∀ (layout : Layout) (rear spine front : Option Bool), (rear.isSome || spine.isSome || front.isSome) = true →
        ps ≠ zoneTableBytes layout rear spine front) →
      exec .zoneTable s = .next (s.responds 0x71 .badParam .empty))
    ∧ (∀ (z : Zone) (limit : Option Nat) (mask : Option (BitVec 3)) (dim : Option Nat),
      (limit.isSome || mask.isSome || dim.isSome) = true → givenWithin 0 255 limit = true →
      givenWithin 0 255 dim = true → s.Holds 0x72 (zoneIdleBytes z limit mask dim) →
      let t : State := s.updZone z fun q => { q with
        idleLimit := limit.getD q.idleLimit, activityMask := mask.getD q.activityMask, dimLevel := dim.getD q.dimLevel
        idleTimer := match limit with
          | some n => if q.mode = .on then (if n = 0 then none else some n) else q.idleTimer
          | none => q.idleTimer }
      (dim = none ∨ (s.zoneState z).mode ≠ .dim → exec .zoneIdle s = .next (t.responds 0x72 .ok .empty))
      ∧ (∀ n, dim = some n → (s.zoneState z).mode = .dim → exec .zoneIdle s =
        .next ((State.finish { t with link := { t.link with
          slots := t.link.slots.set z (some { on := true, brightness := n }) } }).responds 0x72 .ok .empty)))
    ∧ (∀ ps : List Byte, s.Holds 0x72 ps →
      (∀ (z : Zone) (limit : Option Nat) (mask : Option (BitVec 3)) (dim : Option Nat),
        (limit.isSome || mask.isSome || dim.isSome) = true → givenWithin 0 255 limit = true →
        givenWithin 0 255 dim = true → ps ≠ zoneIdleBytes z limit mask dim) →
      exec .zoneIdle s = .next (s.responds 0x72 .badParam .empty))
    ∧ (let set : Zone → Bool → State := fun z on =>
        let t : State := s.updZone z fun q => { q with
          mode := if on = true then .on else .off
          idleTimer := if on = true then (if q.idleLimit = 0 then none else some q.idleLimit) else none }
        { t with link := { t.link with slots := t.link.slots.set z (some
          (if on = true then { on := true, brightness := 255 } else { on := false, brightness := 0 })) } }
      (∀ (z : Zone) (on : Bool), s.Holds 0x70 [zoneByte z, boolByte on] →
        ((s.zoneState z).mode = .tripped → exec .zoneMode s = .next (s.responds 0x70 .faultActive .empty))
        ∧ ((s.zoneState z).mode ≠ .tripped →
          exec .zoneMode s = .next ((set z on).finish.responds 0x70 .ok .empty)))
      ∧ (∀ z : Zone, s.Holds 0x73 [zoneByte z] →
        ((s.zoneState z).mode ≠ .tripped → exec .zoneRestore s = .next (s.responds 0x73 .badState .empty))
        ∧ ((s.zoneState z).mode = .tripped → (s.zoneState z).faultActive = true →
          exec .zoneRestore s = .next (s.responds 0x73 .faultActive .empty))
        ∧ ((s.zoneState z).mode = .tripped → (s.zoneState z).faultActive = false →
          let entry : Bool := match s.engine.active.layout with
            | .folded => s.zones.foldedTable.get z
            | .unfolded => s.zones.unfoldedTable.get z
          exec .zoneRestore s = .next (((set z entry).queueJob (.zone z)).finish.responds 0x73 .ok .empty))))
    ∧ (∀ ps : List Byte, s.Holds 0x70 ps → (∀ (z : Zone) (on : Bool), ps ≠ [zoneByte z, boolByte on]) →
      exec .zoneMode s = .next (s.responds 0x70 .badParam .empty))
    ∧ ∀ ps : List Byte, s.Holds 0x73 ps → (∀ z : Zone, ps ≠ [zoneByte z]) →
      exec .zoneRestore s = .next (s.responds 0x73 .badParam .empty)

/-- A rising edge of a fault line sets Fault Active and trips a zone that is not TRIPPED: TRIPPED, timer stopped, Trip
Count up to 255, the display-off message and ZONE_TRIPPED, which while DRSTN is asserted are left to its release; of a
TRIPPED zone it changes nothing else. An idle timer's expiry dims the zone. A line that does not change, and a timer
that does not run, give no event; while RESETN is asserted only the level is taken (R155, R159, R164, R165; log entry
4). A line that is inactive does not fall, and while RESETN is asserted only its level is taken; an activity that the
mask admits restarts the idle timer of an ON zone, and returns a DIM zone to ON with its message; it changes nothing
else, and nothing in OFF, in TRIPPED, while a reset input is asserted or where the mask does not admit it (R155, R156,
R164, R165; log entry 4). -/
def Obligations.FaultsAndIdleTimers : Prop :=
  (
    ∀ (s : State) (z : Zone),
      (s.pins.faultLine.get z = true → exec (.zoneFaultRise z) s = .next s)
      ∧ (s.pins.faultLine.get z = false → s.pins.resetn = true → exec (.zoneFaultRise z) s =
        .next { s with pins := { s.pins with faultLine := s.pins.faultLine.set z true } })
      ∧ (s.pins.faultLine.get z = false → s.pins.resetn = false →
        let risen : State := { s with pins := { s.pins with faultLine := s.pins.faultLine.set z true } }
        let tripped : State := risen.updZone z fun q => { q with
          mode := .tripped, faultActive := true, idleTimer := none
          tripCount := if q.tripCount < 255 then q.tripCount + 1 else 255 }
        ((s.zoneState z).mode = .tripped → exec (.zoneFaultRise z) s =
          .next (State.finish (risen.updZone z fun q => { q with faultActive := true })))
        ∧ ((s.zoneState z).mode ≠ .tripped → s.pins.drstn = false → exec (.zoneFaultRise z) s =
          .next (State.finish { tripped with
            link := { s.link with slots := s.link.slots.set z (some { on := false, brightness := 0 }) }
            port := { s.port with flags := s.port.flags ||| EventFlag.zoneTripped.bit } }))
        ∧ ((s.zoneState z).mode ≠ .tripped → s.pins.drstn = true → exec (.zoneFaultRise z) s =
          .next (State.finish { tripped with zones := { tripped.zones with tripDeferred := true } })))
      ∧ ((s.zoneState z).idleTimer = none → exec (.idleTimerExpiry z) s = .next s)
      ∧ ((s.zoneState z).idleTimer ≠ none → s.inReset = false → exec (.idleTimerExpiry z) s =
        .next (State.finish { (s.updZone z fun q => { q with mode := .dim, idleTimer := none }) with
          link := { s.link with
            slots := s.link.slots.set z (some { on := true, brightness := (s.zoneState z).dimLevel }) } })))
  ∧ (
    ∀ (s : State) (z : Zone),
      (s.pins.faultLine.get z = false → exec (.zoneFaultFall z) s = .next s)
      ∧ (s.pins.faultLine.get z = true → s.pins.resetn = true → exec (.zoneFaultFall z) s =
        .next { s with pins := { s.pins with faultLine := s.pins.faultLine.set z false } })
      ∧ ∀ (a : Activity) (place : Nat),
        place = (match a with | .stream => 0 | .fill => 1 | .lookup => 2) →
        let timer : ZoneState → Option Nat := fun q => if q.idleLimit = 0 then none else some q.idleLimit
        let awake : State := s.updZone z fun q => { q with mode := .on, idleTimer := timer q }
        ((s.inReset = true ∨ (s.zoneState z).activityMask.getLsbD place = false ∨ (s.zoneState z).mode = .off
          ∨ (s.zoneState z).mode = .tripped) → s.activity a z = s)
        ∧ (s.inReset = false → (s.zoneState z).activityMask.getLsbD place = true → (s.zoneState z).mode = .on →
          s.activity a z = awake)
        ∧ (s.inReset = false → (s.zoneState z).activityMask.getLsbD place = true → (s.zoneState z).mode = .dim →
          s.activity a z = { awake with link := { s.link with
            slots := s.link.slots.set z (some { on := true, brightness := 255 }) } }))

/-- A falling edge of a zone's fault line clears Fault Active and changes nothing else but the line's level: not the mode,
no flag, no message (R161). -/
def Obligations.FaultLineFalls : Prop :=
  ∀ (s : State) (z : Zone), s.pins.resetn = false → s.pins.faultLine.get z = true →
    ∃ t, exec (.zoneFaultFall z) s = .next t
      ∧ t = { s with pins := { s.pins with faultLine := s.pins.faultLine.set z false }, zones := t.zones }
      ∧ t.zones = { s.zones with zone := s.zones.zone.set z { s.zoneState z with faultActive := false } }
      ∧ (t.zoneState z).faultActive = false ∧ (t.zoneState z).mode = (s.zoneState z).mode
      ∧ t.port.flags = s.port.flags ∧ t.link.slots = s.link.slots

/-! ## Touch lookup -/

/-- A POINT on the lookup port puts its answer into the answer buffer, LOOKUP answers it on the control port; HIT and NONE
report an activity in the zone of the point. The answer is OUT_OF_RANGE beyond the panel, then KEEP_OUT, ZONE_OFF and
BLANK, each on the point's own face; then HIT for the SHOWN record with Touch ROUTE whose placement covers the point,
the highest Z Level first and then the lowest Region ID, with its local point; else NONE (R168 to R173, R176, R177). -/
def Obligations.PointLookups : Prop :=
  ∀ s : State,
    (∀ x y : BitVec 16, s.inReset = false →
      let a := s.pointAnswer x.toNat y.toNat
      let put : State := { s with lookup := { s.lookup with answer := some a } }
      ((a.status = .hit ∨ a.status = .none) → exec (.point x y) s =
        .next (put.activity .lookup (s.geometry.zoneOf (x.toNat / 16))).finish)
      ∧ (a.status ≠ .hit → a.status ≠ .none → exec (.point x y) s = .next put))
    ∧ (∀ xh xl yh yl : Byte, s.Holds 0x80 [xh, xl, yh, yl] →
      let x := (be16 xh xl).toNat
      let a := s.pointAnswer x (be16 yh yl).toNat
      ((a.status = .hit ∨ a.status = .none) → exec .lookup s =
        .next ((s.activity .lookup (s.geometry.zoneOf (x / 16))).finish.responds 0x80 .ok (.answer a)))
      ∧ (a.status ≠ .hit → a.status ≠ .none → exec .lookup s = .next (s.responds 0x80 .ok (.answer a))))
    ∧ (∀ ps : List Byte, s.Holds 0x80 ps → ps.length ≠ 4 → exec .lookup s = .next (s.responds 0x80 .badParam .empty))
    ∧ ∀ x y : Nat,
      let bare : LookupStatus → Answer := fun status =>
        { status, region := 0, generation := 0, ownerToken := 0, face := none, localX := 0, localY := 0,
          inside := true, epoch := s.engine.epoch.truncate 8, layout := s.engine.active.layout }
      let face := s.geometry.faceAt s.engine.active.layout (x / 16)
      let onFace : LookupStatus → Answer := fun status =>
        { bare status with face := some face, localX := s.geometry.localPixel face x, localY := y }
      let tile := 128 * (y / 16) + x / 16
      let zone := s.geometry.zoneOf (x / 16)
      let dark := (s.zoneState zone).mode = .off ∨ (s.zoneState zone).mode = .tripped
      let hits : Slot → Part → Prop := fun i p =>
        s.isShown i = true ∧ (∃ d, (s.record i).live = some d ∧ d.attributes.touch = .route)
        ∧ s.activePart i = some p ∧ p.face = face
        ∧ p.rect.contains ((s.geometry.localPixel face x).toNat / 16) (y / 16) = true
      let isOpen := x ≤ 2047 ∧ y ≤ 1791 ∧ keptOut s.keepOuts s.sampler.bendApplied tile = false ∧ ¬ dark
        ∧ s.heldBack tile = false
      ((2047 < x ∨ 1791 < y) → s.pointAnswer x y = bare .outOfRange)
      ∧ (x ≤ 2047 → y ≤ 1791 →
        (keptOut s.keepOuts s.sampler.bendApplied tile = true → s.pointAnswer x y = onFace .keepOut)
        ∧ (keptOut s.keepOuts s.sampler.bendApplied tile = false → dark → s.pointAnswer x y = onFace .zoneOff)
        ∧ (keptOut s.keepOuts s.sampler.bendApplied tile = false → ¬ dark → s.heldBack tile = true →
          s.pointAnswer x y = onFace .blank))
      ∧ (isOpen → (∀ i p, ¬ hits i p) → s.pointAnswer x y = onFace .none)
      ∧ (∀ (i : Slot) (p : Part) (d : Content), isOpen → hits i p → (s.record i).live = some d →
        (∀ j q, hits j q → q.zLevel < p.zLevel ∨ (q.zLevel = p.zLevel ∧ i ≤ j)) →
        s.pointAnswer x y = { bare .hit with
          region := i.val + 1, generation := (s.record i).generation, ownerToken := d.attributes.ownerToken
          face := some p.face, localX := s.geometry.localPixel p.face x - 16 * p.rect.baseCol
          localY := (y : Int) - 16 * p.rect.baseRow })

/-- A VERIFY puts its answer into the answer buffer on the lookup port and is answered on the control port, without an
activity: OUT_OF_RANGE for a Region ID outside 1 to 32 or a point beyond the panel; GONE with the slot's Generation
where the record is not the one named or not SHOWN; else KEEP_OUT, ZONE_OFF, BLANK or CURRENT with the point relative
to the record's placement and whether it lies inside it (R174, R175, R177). The lookup port: bytes that spell no
lookup put a REJECTED answer with 0 in every other field into the buffer, bytes that spell one are that lookup, no
byte is nothing; a read returns the answer held, or EMPTY with 0 in every other field, and empties the buffer; bytes
clocked beyond the 12 of the answer frame read 00H; while a reset input is asserted nothing is taken. On the bus the
port acknowledges its own address alone, and none while a reset input is asserted: a write or read that begins then,
or at another address, gives no command, nor does a write or read in progress when a reset input is asserted (R166,
R167, R178; log entries 1, 9, 19 and 21). A write and a read joined by a repeated start are one transaction: the
lookup is taken at the repeated start and the answer read; a reset input asserted in the read leaves the lookup taken
and abandons the read; that one asserted in the write abandons the read too, also where the reset has ended by then,
and that of a write not acknowledged the read is judged at the repeated start, is an inference of the model's (R166;
log entry 28). -/
def Obligations.VerifyAndLookupPort : Prop :=
  (
    ∀ s : State,
      (∀ (r g : Byte) (x y : BitVec 16), s.inReset = false → exec (.lookupPortVerify r g x y) s =
        .next { s with lookup := { s.lookup with answer := some (s.verifyAnswer r.toNat g x.toNat y.toNat) } })
      ∧ (∀ r g xh xl yh yl : Byte, s.Holds 0x81 [r, g, xh, xl, yh, yl] → exec .verify s =
        .next (s.responds 0x81 .ok (.answer (s.verifyAnswer r.toNat g (be16 xh xl).toNat (be16 yh yl).toNat))))
      ∧ (∀ ps : List Byte, s.Holds 0x81 ps → ps.length ≠ 6 → exec .verify s = .next (s.responds 0x81 .badParam .empty))
      ∧ ∀ (r : Nat) (g : BitVec 8) (x y : Nat),
        let bare : LookupStatus → Answer := fun status =>
          { status, region := 0, generation := 0, ownerToken := 0, face := none, localX := 0, localY := 0,
            inside := false, epoch := s.engine.epoch.truncate 8, layout := s.engine.active.layout }
        ((r = 0 ∨ 32 < r ∨ 2047 < x ∨ 1791 < y) → s.verifyAnswer r g x y = bare .outOfRange)
        ∧ (∀ i : Slot, r = i.val + 1 → x ≤ 2047 → y ≤ 1791 →
          ((g ≠ (s.record i).generation ∨ s.isShown i = false) → s.verifyAnswer r g x y =
            { bare .gone with region := r, generation := (s.record i).generation })
          ∧ (∀ (p : Part) (d : Content), g = (s.record i).generation → s.isShown i = true → s.activePart i = some p →
            (s.record i).live = some d →
            let tile := 128 * (y / 16) + x / 16
            let zone := s.geometry.zoneOf (x / 16)
            let status : LookupStatus :=
              if keptOut s.keepOuts s.sampler.bendApplied tile = true then .keepOut
              else if (s.zoneState zone).mode = .off ∨ (s.zoneState zone).mode = .tripped then .zoneOff
              else if s.heldBack tile = true then .blank
              else .current
            s.verifyAnswer r g x y = { bare status with
              region := r, generation := g, ownerToken := d.attributes.ownerToken, face := some p.face
              localX := s.geometry.localPixel p.face x - 16 * p.rect.baseCol
              localY := (y : Int) - 16 * p.rect.baseRow
              inside := decide (p.face = s.geometry.faceAt s.engine.active.layout (x / 16))
                && p.rect.contains ((s.geometry.localPixel p.face x).toNat / 16) (y / 16) })))
  ∧ (
    ∀ s : State,
      let zero : LookupStatus → Answer := fun status =>
        { status, region := 0, generation := 0, ownerToken := 0, face := none, localX := 0, localY := 0,
          inside := false, epoch := 0, layout := .folded }
      (∀ bytes : List Byte, s.inReset = false →
        (bytes ≠ [] → parseLookup bytes = none → exec (.rejectedWrite bytes) s =
          .next { s with lookup := { s.lookup with answer := some (zero .rejected) } })
        ∧ (∀ x y, parseLookup bytes = some (.point x y) → exec (.rejectedWrite bytes) s = exec (.point x y) s)
        ∧ ∀ r g x y, parseLookup bytes = some (.verify r g x y) →
          exec (.rejectedWrite bytes) s = exec (.lookupPortVerify r g x y) s)
      ∧ exec (.rejectedWrite []) s = .next s
      ∧ (s.inReset = false →
        (∀ a, s.lookup.answer = some a → exec .answerRead s =
          .next { s with lookup := { s.lookup with answer := none, returned := some a } })
        ∧ (s.lookup.answer = none → exec .answerRead s =
          .next { s with lookup := { s.lookup with returned := some (zero .empty) } }))
      ∧ (s.inReset = true → exec .answerRead s = .next s ∧ (∀ bytes, exec (.rejectedWrite bytes) s = .next s)
        ∧ (∀ x y, exec (.point x y) s = .next s) ∧ ∀ r g x y, exec (.lookupPortVerify r g x y) s = .next s)
      ∧ (∀ (a : Answer) (k : Nat), s.lookup.returned = some a →
        s.lookup.returnedByte k = some (a.frame.getD k 0x00) ∧ (12 ≤ k → s.lookup.returnedByte k = some 0x00))
      ∧ (∀ x y, writeCommand (LookupRequest.point x y).bytes = .point x y)
      ∧ (∀ r g x y, writeCommand (LookupRequest.verify r g x y).bytes = .lookupPortVerify r g x y)
      ∧ (∀ bytes, parseLookup bytes = none → writeCommand bytes = .rejectedWrite bytes)
      ∧ (∀ address : BitVec 7, s.pending = [] →
        (s.acknowledges address = true ↔ s.inReset = false ∧ address = s.lookup.address))
      ∧ (∀ (address : BitVec 7) (c : Instr) (rest : List Instr) (t : State), s.pending = c :: rest → step s = .next t →
        s.acknowledges address = t.acknowledges address)
      ∧ ∀ (address : BitVec 7) (during : List Instr) (bytes : List Byte),
        (s.acknowledges address = false →
          s.lookupWrite address during bytes = { s with pending := s.pending ++ during }
          ∧ s.lookupRead address during = { s with pending := s.pending ++ during }
          ∧ ∀ late, s.lookupWriteRead address during late bytes =
            State.lookupRead address late { s with pending := s.pending ++ during })
        ∧ (s.acknowledges address = true →
          ((Instr.resetnAssert ∈ during ∨ Instr.drstnAssert ∈ during) →
            s.lookupWrite address during bytes = { s with pending := s.pending ++ during }
            ∧ s.lookupRead address during = { s with pending := s.pending ++ during }
            ∧ ∀ late, s.lookupWriteRead address during late bytes = { s with pending := s.pending ++ during ++ late })
          ∧ (Instr.resetnAssert ∉ during → Instr.drstnAssert ∉ during →
            s.lookupWrite address during bytes = { s with pending := s.pending ++ during ++ [writeCommand bytes] }
            ∧ s.lookupRead address during = { s with pending := s.pending ++ [.answerRead] ++ during }
            ∧ ∀ late : List Instr,
              ((Instr.resetnAssert ∈ late ∨ Instr.drstnAssert ∈ late) → s.lookupWriteRead address during late bytes =
                { s with pending := s.pending ++ during ++ [writeCommand bytes] ++ late })
              ∧ (Instr.resetnAssert ∉ late → Instr.drstnAssert ∉ late → s.lookupWriteRead address during late bytes =
                { s with pending := s.pending ++ during ++ [writeCommand bytes, .answerRead] ++ late }))))

/-! ## Resets -/

/-- After RESETN, released with DRSTN and the fault lines inactive or not: every slot is FREE with Generation 0, every
other field at its FREE value and both copies absent, Quarantine Length 2, Retain clear, and the first REGION CREATE
that claims a slot gives it Generation 1; both banks are empty, the active layout FOLDED and the epoch 0, the engine
IDLE, no claim waits, the COMMIT latch is clear, the conflict pair (0, 0) (R42, R72). -/
def Obligations.AfterResetn : Prop :=
  ∀ (s t u : State) (strap : Bool), exec .resetnAssert s = .next t → exec (.resetnRelease strap) t = .next u →
    (∀ i : Slot, u.record i =
      { generation := 0, lifecycle := .free, showing := .parked, stale := false, retirePending := false,
        commitPending := false, inBuild := false, quarantineCount := 0, ownedTiles := 0, live := none,
        pending := none })
    ∧ u.table.quarantineLength = 2 ∧ u.table.retain = false
    ∧ (∀ (v w : State) (i : Slot), v.record i = u.record i → exec .regionCreate v = .next w →
      (w.record i).lifecycle ≠ .free → (w.record i).generation = 1)
    ∧ u.engine.epoch = 0 ∧ u.engine.active.layout = .folded ∧ u.engine.active.tiles = []
    ∧ (∀ n : Fin 8, u.engine.active.bindings[n] = []) ∧ u.engine.phase = .idle
    ∧ u.engine.claims = { restore := false, target := none, commitLatch := false } ∧ u.engine.conflict = (0, 0)

/-- The assertion of RESETN settles every block: port, geometry and keep-out list, table, engine, router, link, writer,
sampler, controller, zone mode table, answer buffer; and until its release no command changes anything but the levels
of the inputs and what a transaction returns (R3, R11, R42, R72, R92, R100, R109, R122, R150, R154, R164, R178, R185).
The release of RESETN: the strap gives the address of the lookup port, the sampler waits, and each zone takes its
FOLDED entry, or is TRIPPED once where its fault line is active. With DRSTN inactive each zone's message is placed,
the substitute timer starts, a BACKGROUND job is queued, a trip sets ZONE_TRIPPED, and the link goes on; with DRSTN
asserted those wait for its release (R100, R109, R122, R164, R166; log entries 4 and 7). -/
def Obligations.ResetnSettles : Prop :=
  (
    ∀ s : State, ∃ t, exec .resetnAssert s = .next t
      ∧ t.port = { request := none, response := none, overrun := false, flags := 0, mask := 0x3FFF,
                   returned := s.port.returned }
      ∧ t.geometry = { spineStart := 60, spineWidth := 8 } ∧ (∀ n : Fin 8, t.keepOuts[n] = none)
      ∧ t.table.quarantineLength = 2 ∧ t.table.retain = false ∧ (∀ i : Slot, (t.record i).lifecycle = .free)
      ∧ t.engine.phase = .idle ∧ t.engine.epoch = 0 ∧ t.engine.active.tiles = []
      ∧ (∀ n : Fin 8, t.router.streams[n] = { frame := none, completed := 0, last := .complete })
      ∧ t.router.frameTimeout = 50 ∧ (∀ i : Slot, t.router.staleCounts[i] = 0) ∧ t.router.run = none
      ∧ t.router.handing = [] ∧ t.router.linkQueue = []
      ∧ t.link = { flight := none, streamWaiting := none, fillWaiting := none, fillWaitCount := 0,
                   slots := { rear := none, spine := none, front := none }, interval := 40, timer := none }
      ∧ t.fill = { queue := [], job := none, foldedColour := 0, unfoldedColour := 0 }
      ∧ t.sampler = { phase := .still, lastSample := 0, status := .none, lastClass := none, posture := .unknown,
                      runClass := none, runLength := 0, invalidRun := 0, lastDirection := .none, bendApplied := true,
                      sampleInterval := 8, foldLimit := 1200, openLimit := 3000, debounce := 3, reportMode := .both,
                      bendDeferred := false }
      ∧ t.transition = { state := .steady, target := none, waitingTarget := none, pin := none, commitJoined := false,
                         holdCount := 0, prepareTimer := none, lastRequest := none, setAside := false,
                         prepareWindow := 100, blankHold := 1 }
      ∧ t.zones.foldedTable = { rear := false, spine := true, front := true }
      ∧ t.zones.unfoldedTable = { rear := true, spine := true, front := true } ∧ t.zones.tripDeferred = false
      ∧ t.lookup = { s.lookup with answer := none } ∧ t.pins = { s.pins with resetn := true }
      ∧ t.panel = s.panel ∧ t.pending = s.pending
      ∧ ∀ (c : Instr) (u : State), (∀ strap, c ≠ .resetnRelease strap) → exec c t = .next u →
        u = { t with pins := u.pins, port := { t.port with returned := u.port.returned } } ∧ u.pins.resetn = true)
  ∧ (
    ∀ (s : State) (strap : Bool),
      (s.pins.resetn = false → exec (.resetnRelease strap) s = .next s)
      ∧ (s.pins.resetn = true →
        let on : Zone → Bool := fun z => match z with
          | .rear => false
          | .spine => true
          | .front => true
        let zone : Zone → ZoneState := fun z =>
          { mode := if s.pins.faultLine.get z = true then .tripped else if on z = true then .on else .off
            faultActive := s.pins.faultLine.get z, tripCount := if s.pins.faultLine.get z = true then 1 else 0
            idleLimit := 0, idleTimer := none, activityMask := 7, dimLevel := 40 }
        let anyTrip : Bool := s.pins.faultLine.rear || s.pins.faultLine.spine || s.pins.faultLine.front
        let message : Zone → Option Message := fun z => some
          (if (on z && !s.pins.faultLine.get z) = true then { on := true, brightness := 255 }
           else { on := false, brightness := 0 })
        let woken : State := { s with
          pins := { s.pins with resetn := false }
          lookup := { s.lookup with address := if strap = true then 0x3B else 0x3A }
          sampler := { s.sampler with phase := .waiting s.sampler.sampleInterval }
          zones := { s.zones with zone := { rear := zone .rear, spine := zone .spine, front := zone .front } } }
        (s.pins.drstn = false → exec (.resetnRelease strap) s = .next (State.finish (State.queueJob .background { woken with
          port := if anyTrip = true then
              { s.port with flags := s.port.flags ||| EventFlag.zoneTripped.bit } else s.port
          link := { s.link with
            slots := { rear := message .rear, spine := message .spine, front := message .front }
            timer := some s.link.interval } })))
        ∧ (s.pins.drstn = true → exec (.resetnRelease strap) s = .next (State.finish { woken with
          zones := { woken.zones with tripDeferred := s.zones.tripDeferred || anyTrip } }))))

/-- The assertion of DRSTN with RESETN inactive, by Retain: what each block keeps and what it gives up; the Persist
records that Retain keeps raise a RESTORE claim, whose build starts at once (R43, R44, R51, R73, R90, R92, R100, R107,
R109, R123, R148, R151, R165, R178, R183, R185; log entries 4 and 7). -/
def Obligations.DrstnSettles : Prop :=
  ∀ s : State,
    (s.pins.drstn = true → exec .drstnAssert s = .next s)
    ∧ (s.pins.drstn = false → s.pins.resetn = true →
      exec .drstnAssert s = .next { s with pins := { s.pins with drstn := true } })
    ∧ (s.pins.drstn = false → s.pins.resetn = false →
      let retain := s.table.retain
      let kept : Slot → Prop := fun i =>
        retain = true ∧ (s.record i).lifecycle = .inService ∧ ∃ d, (s.record i).live = some d ∧ d.attributes.persist = true
      ∃ t, ((∃ i, kept i) → exec .drstnAssert s = .next (t.startBuild .restore s.engine.active.layout))
        ∧ ((∀ i, ¬ kept i) → exec .drstnAssert s = .next t)
        ∧ t.port = { request := none, response := none, overrun := false, flags := 0,
                     mask := if retain then s.port.mask else 0x3FFF, returned := s.port.returned }
        ∧ t.geometry = s.geometry
        ∧ (∀ n : Fin 8, t.keepOuts[n] = if retain then s.keepOuts[n] else none)
        ∧ t.table.quarantineLength = s.table.quarantineLength ∧ t.table.retain = retain
        ∧ (∀ i : Slot, (kept i → t.record i = { s.record i with
            pending := none, retirePending := false, commitPending := false, inBuild := false, stale := false
            showing := .parked, ownedTiles := 0 })
          ∧ (¬ kept i → t.record i = {
              generation := (s.record i).generation, lifecycle := .free, showing := .parked, stale := false, retirePending := false, commitPending := false, inBuild := false,
              quarantineCount := 0, ownedTiles := 0, live := none, pending := none }))
        ∧ t.engine.epoch = s.engine.epoch + 1 ∧ t.engine.active.layout = s.engine.active.layout
        ∧ t.engine.active.tiles = [] ∧ (∀ n : Fin 8, t.engine.active.bindings[n] = []) ∧ t.engine.phase = .idle
        ∧ t.engine.claims = { restore := false, target := none, commitLatch := false }
        ∧ t.engine.conflict = (0, 0)
        ∧ (∀ n : Fin 8, t.router.streams[n] = { frame := none, completed := 0, last := .complete })
        ∧ t.router.frameTimeout = (if retain then s.router.frameTimeout else 50)
        ∧ (∀ i : Slot, t.router.staleCounts[i] = 0) ∧ t.router.run = none ∧ t.router.handing = []
        ∧ t.router.linkQueue = []
        ∧ t.link = { flight := none, streamWaiting := none, fillWaiting := none, fillWaitCount := 0,
                     slots := { rear := none, spine := none, front := none }
                     interval := if retain then s.link.interval else 40, timer := none }
        ∧ t.fill = { queue := [], job := none, foldedColour := if retain then s.fill.foldedColour else 0
                     unfoldedColour := if retain then s.fill.unfoldedColour else 0 }
        ∧ t.sampler = s.sampler
        ∧ t.transition = { state := .steady, target := none, waitingTarget := none, pin := none
                           commitJoined := false, holdCount := 0, prepareTimer := none, lastRequest := none
                           setAside := false
                           prepareWindow := if retain then s.transition.prepareWindow else 100
                           blankHold := if retain then s.transition.blankHold else 1 }
        ∧ t.zones.foldedTable = (if retain then s.zones.foldedTable
            else { rear := false, spine := true, front := true })
        ∧ t.zones.unfoldedTable = (if retain then s.zones.unfoldedTable
            else { rear := true, spine := true, front := true })
        ∧ t.zones.tripDeferred = false
        ∧ (∀ z : Zone, t.zoneState z = { s.zoneState z with
            idleTimer := none
            idleLimit := if retain then (s.zoneState z).idleLimit else 0
            activityMask := if retain then (s.zoneState z).activityMask else 7
            dimLevel := if retain then (s.zoneState z).dimLevel else 40
            mode := if (s.zoneState z).mode = .tripped ∧ (s.zoneState z).faultActive = true then .tripped
              else if t.tableEntry s.engine.active.layout z = true then .on else .off })
        ∧ t.lookup = { s.lookup with answer := none } ∧ t.pins = { s.pins with drstn := true }
        ∧ t.panel = s.panel ∧ t.freeCount = s.freeCount ∧ t.pending = s.pending)

/-- The release of DRSTN with RESETN inactive: each zone's message is placed and the timers of the ON zones start, the
substitute timer starts, BACKGROUND is queued and behind it the BEND job that waited, a trip that waited sets
ZONE_TRIPPED, the Implied Layout is requested, and the link goes on (R100, R109, R123, R165; log entries 4 and 7). -/
def Obligations.DrstnReleases : Prop :=
  ∀ s : State,
    (s.pins.drstn = false → exec .drstnRelease s = .next s)
    ∧ (s.pins.drstn = true → s.pins.resetn = true →
      exec .drstnRelease s = .next { s with pins := { s.pins with drstn := false } })
    ∧ (s.pins.drstn = true → s.pins.resetn = false →
      let awake : ZoneState → ZoneState := fun q =>
        if q.mode = .on then { q with idleTimer := if q.idleLimit = 0 then none else some q.idleLimit } else q
      let queued : State := State.queueJob .background { s with
        pins := { s.pins with drstn := false }
        link := { s.link with
          slots := { rear := some (s.zoneState .rear).wanted, spine := some (s.zoneState .spine).wanted
                     front := some (s.zoneState .front).wanted }
          timer := some s.link.interval }
        sampler := { s.sampler with bendDeferred := false }
        port := if s.zones.tripDeferred = true then
            { s.port with flags := s.port.flags ||| EventFlag.zoneTripped.bit } else s.port
        zones := { s.zones with
          zone := { rear := awake s.zones.zone.rear, spine := awake s.zones.zone.spine
                    front := awake s.zones.zone.front }
          tripDeferred := false } }
      let bent : State := if s.sampler.bendDeferred = true then queued.queueJob .bend else queued
      exec .drstnRelease s = .next (State.finish (match s.sampler.posture with
        | .folded => bent.layoutRequest .folded
        | .unfolded => bent.layoutRequest .unfolded
        | .partly => bent
        | .unknown => bent)))

/-! ## What every step keeps -/

/-- Every step keeps that no tile write on the link is one that the protection test holds back (R94). -/
def Obligations.LinkStaysProtected : Prop :=
 KeptByStep State.LinkProtected

/-- No step leaves a stream tile write in hand, waiting or on the link to a tile that the blanking test holds back (R131). -/
def Obligations.StreamsStayBlanked : Prop :=
 KeptByStep State.StreamsBlanked

/-- Every step keeps the canonical form of the maps and of the panel's memory, the geometry record in its ranges, the Fill
Wait Count at most 8, the waiting fill jobs of distinct keys, and the port with a request or a response but not both
(R3, R96, R101, R180). -/
def Obligations.FormsKept : Prop :=
  KeptByStep fun s => s.Canonical ∧ s.FillServed ∧ s.QueueDistinct ∧ s.PortExclusive ∧ s.geometry.inRange = true

/-- Every step keeps the records as their lifecycle state allows, their placements within their faces, and Owned Tiles the
count of their tiles in the ACTIVE map (R20, R21, R22, R23). -/
def Obligations.RecordsKept : Prop :=
 KeptByStep fun s => s.RecordsLawful ∧ s.PlacementsFit ∧ s.OwnedCounted

/-- Every step keeps the Transition Controller's fields and the engine's TARGET work in agreement (R51, R124, R130, R133). -/
def Obligations.TransitionAgrees : Prop :=
 KeptByStep fun s => s.TransitionFields ∧ s.EngineAgrees

/-- Every step keeps each owned tile of the ACTIVE map owned by an IN_SERVICE, SHOWN record whose live placement for the
active layout covers it, together with what that rests on: the snapshot of the build or map that the engine holds
stands, the records are lawful, and the transition agrees with the engine (R28, R32, R34, R49, R65, R66). -/
def Obligations.OwnersStayShown : Prop :=
  KeptByStep fun s =>
    s.OwnersShown ∧ s.SnapshotStands ∧ s.RecordsLawful ∧ s.TransitionFields ∧ s.EngineAgrees

/-- Every step keeps each open frame of the active epoch or of the epoch being drained, its size and Next Index in range,
a routed run within its frame, a dropped run's open frame Malformed, and of either the frame timer stopped (R49, R68,
R75, R77, R78). -/
def Obligations.FramesKept : Prop :=
 KeptByStep fun s => s.EpochsNear ∧ s.FramesLawful

/-- Every step keeps BEND Applied the posture's and the debounce run, Invalid Run and limits in their ranges (R113, R114,
R117, R120). Every step keeps the zones' fields in their ranges, the idle timers as their modes and limits ask, and
Fault Active the level of the line (R152, R155, R159, R161). -/
def Obligations.SamplerAndZonesKept : Prop :=
  (
   KeptByStep fun s => s.BendFollows ∧ s.SamplerLawful)
  ∧ (
   KeptByStep State.ZonesLawful)

/-- What every step keeps holds right after reset, and every tile then reads as the reset leaves it: no owner, not Changed
(R3, R11, R42, R72, R92, R109, R122, R150, R164, R178, R185). That the panel reads as not yet written (log entry 10),
and that the interface shows the state after a release (log entry 6), are the model's choice. -/
def Obligations.LawsHoldAtReset : Prop :=
  State.reset.LinkProtected ∧ State.reset.StreamsBlanked ∧ State.reset.Canonical ∧ State.reset.FillServed
    ∧ State.reset.QueueDistinct ∧ State.reset.PortExclusive ∧ State.reset.RecordsLawful
    ∧ State.reset.PlacementsFit ∧ State.reset.OwnedCounted ∧ State.reset.OwnersShown ∧ State.reset.SnapshotStands
    ∧ State.reset.EpochsNear ∧ State.reset.FramesLawful ∧ State.reset.BendFollows ∧ State.reset.SamplerLawful
    ∧ State.reset.TransitionFields ∧ State.reset.EngineAgrees ∧ State.reset.ZonesLawful
    ∧ State.reset.geometry.inRange = true
    ∧ ∀ t : Nat, State.reset.engine.active.owner t = none ∧ State.reset.engine.active.changed t = false
      ∧ State.reset.panel.read t = none

/-! ## The end of an event -/

/-- The end of an event: a transfer in flight that fails the protection test leaves the link FREE; then, round by round
until the arbiter has nothing to decide, the front job starts at tile 0 where none is in progress, the job in progress
offers the next tile of its set that passes the protection test and, unless it is BLANK, the blanking test, the router
hands its next accepted write, a run whose last tile has been dealt with ends and restarts its frame timer, and one
grant is made; then the SETTLING test; then the packets that waited are taken in their order while the link is not
held off and no run is being taken (R74, R78, R81, R94, R96, R97, R102, R103, R104, R131, R137; log entries 5 and 16). -/
def Obligations.EventEnds : Prop :=
  ∀ s : State,
    let fails : TileWrite → Prop := fun w =>
      heldByHole s.keepOuts w.tile = true
      ∨ (s.sampler.bendApplied = true ∧ coveredByBend s.keepOuts w.tile = true ∧ w.darkens = false)
      ∨ (s.zoneState (s.geometry.zoneOfTile w.tile)).mode = .tripped
    let offers : Key → Nat → TileWrite → Prop := fun k t w =>
      (∃ c : Colour, s.jobColour k t = some c ∧ w =
        { tile := t, pixels := List.replicate 256 c, kind := .fill k (decide (k = .bend) && s.sampler.bendApplied) })
      ∧ ¬ fails w ∧ (k = .blank ∨ s.heldBack t = false)
    (∀ w, s.link.flight = some (.tile w) →
      (fails w → s.abortTest = { s with link := { s.link with flight := none } }) ∧ (¬ fails w → s.abortTest = s))
    ∧ ((∀ w, s.link.flight ≠ some (.tile w)) → s.abortTest = s)
    ∧ (∀ k rest, s.fill.job = none → s.fill.queue = k :: rest → s.startJob = { s with
        fill := { s.fill with queue := rest, job := some { key := k, position := 0 } } })
    ∧ ((s.fill.job ≠ none ∨ s.fill.queue = []) → s.startJob = s)
    ∧ (∀ j : Job, s.fill.job = some j → s.link.fillWaiting = none → ∃ p : Nat, j.position ≤ p
      ∧ (∀ t w, j.position ≤ t → t < p → t < 14336 → ¬ offers j.key t w)
      ∧ ((p < 14336 ∧ ∃ w, offers j.key p w ∧ s.offerTile = { s with
            fill := { s.fill with job := some { j with position := p } }, link := { s.link with fillWaiting := some w } })
        ∨ (p = max 14336 j.position ∧ s.offerTile = { s with
            fill := { s.fill with job := some { j with position := p } } })))
    ∧ ((s.fill.job = none ∨ s.link.fillWaiting ≠ none) → s.offerTile = s)
    ∧ (∀ w rest, s.link.streamWaiting = none → s.router.handing = w :: rest → s.handWrite = { s with
        link := { s.link with streamWaiting := some w }, router := { s.router with handing := rest } })
    ∧ ((s.link.streamWaiting ≠ none ∨ s.router.handing = []) → s.handWrite = s)
    ∧ (let spent : Fin 8 → Prop := fun n => (∃ routed, s.router.run = some { stream := n, tiles := [], routed })
          ∧ s.link.streamWaiting = none ∧ s.router.handing = []
      (∀ n, spent n → s.endRun = State.updStream n
        (fun st => { st with frame := st.frame.map fun f => { f with timer := some s.router.frameTimeout } })
        { s with router := { s.router with run := none } })
      ∧ ((∀ n, ¬ spent n) → s.endRun = s))
    ∧ (∃ u, s.abortTest.offerAll.Rounds u ∧ u.offerAll = u ∧ s.settleLink = u.settleTest)
    ∧ s.offerAll = s.startJob.offerTile.handWrite.endRun
    ∧ s.finish = s.settleLink.takePackets s.router.linkQueue.length
    ∧ (s.finish.link.streamWaiting ≠ none ∨ s.finish.router.run ≠ none ∨ s.finish.router.linkQueue = [])
    ∧ (∀ (n : Nat) (p : Packet) (rest : List Packet), s.link.streamWaiting = none → s.router.run = none →
      s.router.linkQueue = p :: rest →
      s.takePackets (n + 1) = (State.takePacket p { s with router := { s.router with linkQueue := rest } }).takePackets n)
    ∧ (∀ n : Nat, (s.link.streamWaiting ≠ none ∨ s.router.run ≠ none ∨ s.router.linkQueue = []) →
      s.takePackets n = s)
    ∧ (s.inReset = false → s.link.streamWaiting = none → s.router.run = none → s.router.linkQueue = [] →
      (∀ b w h, exec (.frameBegin b w h) s = .next (s.takePacket (.frameBegin b w h)))
      ∧ (∀ b i c tiles, exec (.tileRun b i c tiles) s = .next (s.takePacket (.tileRun b i c tiles)))
      ∧ (∀ b, exec (.frameEnd b) s = .next (s.takePacket (.frameEnd b)))
      ∧ s.takePacket .discarded = s)
end

