-- ==== Sys2Proof/Laws/State.lean ====
section
/-! SUPPORT. What each update of the state does to each field, so that no proof unfolds an update. -/

namespace Sys2Proof.Machine

@[simp] theorem updRecord_port (s : State) (i : Slot) (f : Record → Record) : (s.updRecord i f).port = s.port := rfl
@[simp] theorem updRecord_geometry (s : State) (i : Slot) (f : Record → Record) : (s.updRecord i f).geometry = s.geometry := rfl
@[simp] theorem updRecord_keepOuts (s : State) (i : Slot) (f : Record → Record) : (s.updRecord i f).keepOuts = s.keepOuts := rfl
@[simp] theorem updRecord_table (s : State) (i : Slot) (f : Record → Record) : (s.updRecord i f).table = { s.table with slots := Vec.modify s.table.slots i f } := rfl
@[simp] theorem updRecord_engine (s : State) (i : Slot) (f : Record → Record) : (s.updRecord i f).engine = s.engine := rfl
@[simp] theorem updRecord_router (s : State) (i : Slot) (f : Record → Record) : (s.updRecord i f).router = s.router := rfl
@[simp] theorem updRecord_link (s : State) (i : Slot) (f : Record → Record) : (s.updRecord i f).link = s.link := rfl
@[simp] theorem updRecord_fill (s : State) (i : Slot) (f : Record → Record) : (s.updRecord i f).fill = s.fill := rfl
@[simp] theorem updRecord_sampler (s : State) (i : Slot) (f : Record → Record) : (s.updRecord i f).sampler = s.sampler := rfl
@[simp] theorem updRecord_transition (s : State) (i : Slot) (f : Record → Record) : (s.updRecord i f).transition = s.transition := rfl
@[simp] theorem updRecord_zones (s : State) (i : Slot) (f : Record → Record) : (s.updRecord i f).zones = s.zones := rfl
@[simp] theorem updRecord_lookup (s : State) (i : Slot) (f : Record → Record) : (s.updRecord i f).lookup = s.lookup := rfl
@[simp] theorem updRecord_pins (s : State) (i : Slot) (f : Record → Record) : (s.updRecord i f).pins = s.pins := rfl
@[simp] theorem updRecord_panel (s : State) (i : Slot) (f : Record → Record) : (s.updRecord i f).panel = s.panel := rfl
@[simp] theorem updRecord_freeCount (s : State) (i : Slot) (f : Record → Record) : (s.updRecord i f).freeCount = s.freeCount := rfl
@[simp] theorem updRecord_pending (s : State) (i : Slot) (f : Record → Record) : (s.updRecord i f).pending = s.pending := rfl

@[simp] theorem mapRecords_port (s : State) (f : Slot → Record → Record) : (s.mapRecords f).port = s.port := rfl
@[simp] theorem mapRecords_geometry (s : State) (f : Slot → Record → Record) : (s.mapRecords f).geometry = s.geometry := rfl
@[simp] theorem mapRecords_keepOuts (s : State) (f : Slot → Record → Record) : (s.mapRecords f).keepOuts = s.keepOuts := rfl
@[simp] theorem mapRecords_table (s : State) (f : Slot → Record → Record) : (s.mapRecords f).table = { s.table with slots := Vec.tabulate fun i => f i s.table.slots[i] } := rfl
@[simp] theorem mapRecords_engine (s : State) (f : Slot → Record → Record) : (s.mapRecords f).engine = s.engine := rfl
@[simp] theorem mapRecords_router (s : State) (f : Slot → Record → Record) : (s.mapRecords f).router = s.router := rfl
@[simp] theorem mapRecords_link (s : State) (f : Slot → Record → Record) : (s.mapRecords f).link = s.link := rfl
@[simp] theorem mapRecords_fill (s : State) (f : Slot → Record → Record) : (s.mapRecords f).fill = s.fill := rfl
@[simp] theorem mapRecords_sampler (s : State) (f : Slot → Record → Record) : (s.mapRecords f).sampler = s.sampler := rfl
@[simp] theorem mapRecords_transition (s : State) (f : Slot → Record → Record) : (s.mapRecords f).transition = s.transition := rfl
@[simp] theorem mapRecords_zones (s : State) (f : Slot → Record → Record) : (s.mapRecords f).zones = s.zones := rfl
@[simp] theorem mapRecords_lookup (s : State) (f : Slot → Record → Record) : (s.mapRecords f).lookup = s.lookup := rfl
@[simp] theorem mapRecords_pins (s : State) (f : Slot → Record → Record) : (s.mapRecords f).pins = s.pins := rfl
@[simp] theorem mapRecords_panel (s : State) (f : Slot → Record → Record) : (s.mapRecords f).panel = s.panel := rfl
@[simp] theorem mapRecords_freeCount (s : State) (f : Slot → Record → Record) : (s.mapRecords f).freeCount = s.freeCount := rfl
@[simp] theorem mapRecords_pending (s : State) (f : Slot → Record → Record) : (s.mapRecords f).pending = s.pending := rfl

@[simp] theorem setStaleCount_port (s : State) (i : Slot) (n : Nat) : (s.setStaleCount i n).port = s.port := rfl
@[simp] theorem setStaleCount_geometry (s : State) (i : Slot) (n : Nat) : (s.setStaleCount i n).geometry = s.geometry := rfl
@[simp] theorem setStaleCount_keepOuts (s : State) (i : Slot) (n : Nat) : (s.setStaleCount i n).keepOuts = s.keepOuts := rfl
@[simp] theorem setStaleCount_table (s : State) (i : Slot) (n : Nat) : (s.setStaleCount i n).table = s.table := rfl
@[simp] theorem setStaleCount_engine (s : State) (i : Slot) (n : Nat) : (s.setStaleCount i n).engine = s.engine := rfl
@[simp] theorem setStaleCount_router (s : State) (i : Slot) (n : Nat) : (s.setStaleCount i n).router = { s.router with staleCounts := Vec.modify s.router.staleCounts i fun _ => n } := rfl
@[simp] theorem setStaleCount_link (s : State) (i : Slot) (n : Nat) : (s.setStaleCount i n).link = s.link := rfl
@[simp] theorem setStaleCount_fill (s : State) (i : Slot) (n : Nat) : (s.setStaleCount i n).fill = s.fill := rfl
@[simp] theorem setStaleCount_sampler (s : State) (i : Slot) (n : Nat) : (s.setStaleCount i n).sampler = s.sampler := rfl
@[simp] theorem setStaleCount_transition (s : State) (i : Slot) (n : Nat) : (s.setStaleCount i n).transition = s.transition := rfl
@[simp] theorem setStaleCount_zones (s : State) (i : Slot) (n : Nat) : (s.setStaleCount i n).zones = s.zones := rfl
@[simp] theorem setStaleCount_lookup (s : State) (i : Slot) (n : Nat) : (s.setStaleCount i n).lookup = s.lookup := rfl
@[simp] theorem setStaleCount_pins (s : State) (i : Slot) (n : Nat) : (s.setStaleCount i n).pins = s.pins := rfl
@[simp] theorem setStaleCount_panel (s : State) (i : Slot) (n : Nat) : (s.setStaleCount i n).panel = s.panel := rfl
@[simp] theorem setStaleCount_freeCount (s : State) (i : Slot) (n : Nat) : (s.setStaleCount i n).freeCount = s.freeCount := rfl
@[simp] theorem setStaleCount_pending (s : State) (i : Slot) (n : Nat) : (s.setStaleCount i n).pending = s.pending := rfl

@[simp] theorem updZone_port (s : State) (z : Zone) (f : ZoneState → ZoneState) : (s.updZone z f).port = s.port := rfl
@[simp] theorem updZone_geometry (s : State) (z : Zone) (f : ZoneState → ZoneState) : (s.updZone z f).geometry = s.geometry := rfl
@[simp] theorem updZone_keepOuts (s : State) (z : Zone) (f : ZoneState → ZoneState) : (s.updZone z f).keepOuts = s.keepOuts := rfl
@[simp] theorem updZone_table (s : State) (z : Zone) (f : ZoneState → ZoneState) : (s.updZone z f).table = s.table := rfl
@[simp] theorem updZone_engine (s : State) (z : Zone) (f : ZoneState → ZoneState) : (s.updZone z f).engine = s.engine := rfl
@[simp] theorem updZone_router (s : State) (z : Zone) (f : ZoneState → ZoneState) : (s.updZone z f).router = s.router := rfl
@[simp] theorem updZone_link (s : State) (z : Zone) (f : ZoneState → ZoneState) : (s.updZone z f).link = s.link := rfl
@[simp] theorem updZone_fill (s : State) (z : Zone) (f : ZoneState → ZoneState) : (s.updZone z f).fill = s.fill := rfl
@[simp] theorem updZone_sampler (s : State) (z : Zone) (f : ZoneState → ZoneState) : (s.updZone z f).sampler = s.sampler := rfl
@[simp] theorem updZone_transition (s : State) (z : Zone) (f : ZoneState → ZoneState) : (s.updZone z f).transition = s.transition := rfl
@[simp] theorem updZone_zones (s : State) (z : Zone) (f : ZoneState → ZoneState) : (s.updZone z f).zones = { s.zones with zone := s.zones.zone.set z (f (s.zones.zone.get z)) } := rfl
@[simp] theorem updZone_lookup (s : State) (z : Zone) (f : ZoneState → ZoneState) : (s.updZone z f).lookup = s.lookup := rfl
@[simp] theorem updZone_pins (s : State) (z : Zone) (f : ZoneState → ZoneState) : (s.updZone z f).pins = s.pins := rfl
@[simp] theorem updZone_panel (s : State) (z : Zone) (f : ZoneState → ZoneState) : (s.updZone z f).panel = s.panel := rfl
@[simp] theorem updZone_freeCount (s : State) (z : Zone) (f : ZoneState → ZoneState) : (s.updZone z f).freeCount = s.freeCount := rfl
@[simp] theorem updZone_pending (s : State) (z : Zone) (f : ZoneState → ZoneState) : (s.updZone z f).pending = s.pending := rfl

@[simp] theorem queueBlank_port (s : State) : (s.queueBlank).port = s.port := rfl
@[simp] theorem queueBlank_geometry (s : State) : (s.queueBlank).geometry = s.geometry := rfl
@[simp] theorem queueBlank_keepOuts (s : State) : (s.queueBlank).keepOuts = s.keepOuts := rfl
@[simp] theorem queueBlank_table (s : State) : (s.queueBlank).table = s.table := rfl
@[simp] theorem queueBlank_engine (s : State) : (s.queueBlank).engine = s.engine := rfl
@[simp] theorem queueBlank_router (s : State) : (s.queueBlank).router = s.router := rfl
@[simp] theorem queueBlank_link (s : State) : (s.queueBlank).link = s.link := rfl
@[simp] theorem queueBlank_fill (s : State) : (s.queueBlank).fill = { s.fill with queue := .blank :: s.fill.queue.filter fun k => k ≠ .blank } := rfl
@[simp] theorem queueBlank_sampler (s : State) : (s.queueBlank).sampler = s.sampler := rfl
@[simp] theorem queueBlank_transition (s : State) : (s.queueBlank).transition = s.transition := rfl
@[simp] theorem queueBlank_zones (s : State) : (s.queueBlank).zones = s.zones := rfl
@[simp] theorem queueBlank_lookup (s : State) : (s.queueBlank).lookup = s.lookup := rfl
@[simp] theorem queueBlank_pins (s : State) : (s.queueBlank).pins = s.pins := rfl
@[simp] theorem queueBlank_panel (s : State) : (s.queueBlank).panel = s.panel := rfl
@[simp] theorem queueBlank_freeCount (s : State) : (s.queueBlank).freeCount = s.freeCount := rfl
@[simp] theorem queueBlank_pending (s : State) : (s.queueBlank).pending = s.pending := rfl

@[simp] theorem stopJob_port (s : State) : (s.stopJob).port = s.port := rfl
@[simp] theorem stopJob_geometry (s : State) : (s.stopJob).geometry = s.geometry := rfl
@[simp] theorem stopJob_keepOuts (s : State) : (s.stopJob).keepOuts = s.keepOuts := rfl
@[simp] theorem stopJob_table (s : State) : (s.stopJob).table = s.table := rfl
@[simp] theorem stopJob_engine (s : State) : (s.stopJob).engine = s.engine := rfl
@[simp] theorem stopJob_router (s : State) : (s.stopJob).router = s.router := rfl
@[simp] theorem stopJob_link (s : State) : (s.stopJob).link = { s.link with fillWaiting := none } := rfl
@[simp] theorem stopJob_fill (s : State) : (s.stopJob).fill = { s.fill with job := none } := rfl
@[simp] theorem stopJob_sampler (s : State) : (s.stopJob).sampler = s.sampler := rfl
@[simp] theorem stopJob_transition (s : State) : (s.stopJob).transition = s.transition := rfl
@[simp] theorem stopJob_zones (s : State) : (s.stopJob).zones = s.zones := rfl
@[simp] theorem stopJob_lookup (s : State) : (s.stopJob).lookup = s.lookup := rfl
@[simp] theorem stopJob_pins (s : State) : (s.stopJob).pins = s.pins := rfl
@[simp] theorem stopJob_panel (s : State) : (s.stopJob).panel = s.panel := rfl
@[simp] theorem stopJob_freeCount (s : State) : (s.stopJob).freeCount = s.freeCount := rfl
@[simp] theorem stopJob_pending (s : State) : (s.stopJob).pending = s.pending := rfl

@[simp] theorem updClaims_port (s : State) (f : Claims → Claims) : (s.updClaims f).port = s.port := rfl
@[simp] theorem updClaims_geometry (s : State) (f : Claims → Claims) : (s.updClaims f).geometry = s.geometry := rfl
@[simp] theorem updClaims_keepOuts (s : State) (f : Claims → Claims) : (s.updClaims f).keepOuts = s.keepOuts := rfl
@[simp] theorem updClaims_table (s : State) (f : Claims → Claims) : (s.updClaims f).table = s.table := rfl
@[simp] theorem updClaims_engine (s : State) (f : Claims → Claims) : (s.updClaims f).engine = { s.engine with claims := f s.engine.claims } := rfl
@[simp] theorem updClaims_router (s : State) (f : Claims → Claims) : (s.updClaims f).router = s.router := rfl
@[simp] theorem updClaims_link (s : State) (f : Claims → Claims) : (s.updClaims f).link = s.link := rfl
@[simp] theorem updClaims_fill (s : State) (f : Claims → Claims) : (s.updClaims f).fill = s.fill := rfl
@[simp] theorem updClaims_sampler (s : State) (f : Claims → Claims) : (s.updClaims f).sampler = s.sampler := rfl
@[simp] theorem updClaims_transition (s : State) (f : Claims → Claims) : (s.updClaims f).transition = s.transition := rfl
@[simp] theorem updClaims_zones (s : State) (f : Claims → Claims) : (s.updClaims f).zones = s.zones := rfl
@[simp] theorem updClaims_lookup (s : State) (f : Claims → Claims) : (s.updClaims f).lookup = s.lookup := rfl
@[simp] theorem updClaims_pins (s : State) (f : Claims → Claims) : (s.updClaims f).pins = s.pins := rfl
@[simp] theorem updClaims_panel (s : State) (f : Claims → Claims) : (s.updClaims f).panel = s.panel := rfl
@[simp] theorem updClaims_freeCount (s : State) (f : Claims → Claims) : (s.updClaims f).freeCount = s.freeCount := rfl
@[simp] theorem updClaims_pending (s : State) (f : Claims → Claims) : (s.updClaims f).pending = s.pending := rfl

@[simp] theorem updTransition_port (s : State) (f : Transition → Transition) : (s.updTransition f).port = s.port := rfl
@[simp] theorem updTransition_geometry (s : State) (f : Transition → Transition) : (s.updTransition f).geometry = s.geometry := rfl
@[simp] theorem updTransition_keepOuts (s : State) (f : Transition → Transition) : (s.updTransition f).keepOuts = s.keepOuts := rfl
@[simp] theorem updTransition_table (s : State) (f : Transition → Transition) : (s.updTransition f).table = s.table := rfl
@[simp] theorem updTransition_engine (s : State) (f : Transition → Transition) : (s.updTransition f).engine = s.engine := rfl
@[simp] theorem updTransition_router (s : State) (f : Transition → Transition) : (s.updTransition f).router = s.router := rfl
@[simp] theorem updTransition_link (s : State) (f : Transition → Transition) : (s.updTransition f).link = s.link := rfl
@[simp] theorem updTransition_fill (s : State) (f : Transition → Transition) : (s.updTransition f).fill = s.fill := rfl
@[simp] theorem updTransition_sampler (s : State) (f : Transition → Transition) : (s.updTransition f).sampler = s.sampler := rfl
@[simp] theorem updTransition_transition (s : State) (f : Transition → Transition) : (s.updTransition f).transition = f s.transition := rfl
@[simp] theorem updTransition_zones (s : State) (f : Transition → Transition) : (s.updTransition f).zones = s.zones := rfl
@[simp] theorem updTransition_lookup (s : State) (f : Transition → Transition) : (s.updTransition f).lookup = s.lookup := rfl
@[simp] theorem updTransition_pins (s : State) (f : Transition → Transition) : (s.updTransition f).pins = s.pins := rfl
@[simp] theorem updTransition_panel (s : State) (f : Transition → Transition) : (s.updTransition f).panel = s.panel := rfl
@[simp] theorem updTransition_freeCount (s : State) (f : Transition → Transition) : (s.updTransition f).freeCount = s.freeCount := rfl
@[simp] theorem updTransition_pending (s : State) (f : Transition → Transition) : (s.updTransition f).pending = s.pending := rfl

@[simp] theorem updStream_port (s : State) (n : Fin 8) (f : Stream → Stream) : (s.updStream n f).port = s.port := rfl
@[simp] theorem updStream_geometry (s : State) (n : Fin 8) (f : Stream → Stream) : (s.updStream n f).geometry = s.geometry := rfl
@[simp] theorem updStream_keepOuts (s : State) (n : Fin 8) (f : Stream → Stream) : (s.updStream n f).keepOuts = s.keepOuts := rfl
@[simp] theorem updStream_table (s : State) (n : Fin 8) (f : Stream → Stream) : (s.updStream n f).table = s.table := rfl
@[simp] theorem updStream_engine (s : State) (n : Fin 8) (f : Stream → Stream) : (s.updStream n f).engine = s.engine := rfl
@[simp] theorem updStream_router (s : State) (n : Fin 8) (f : Stream → Stream) : (s.updStream n f).router = { s.router with streams := Vec.modify s.router.streams n f } := rfl
@[simp] theorem updStream_link (s : State) (n : Fin 8) (f : Stream → Stream) : (s.updStream n f).link = s.link := rfl
@[simp] theorem updStream_fill (s : State) (n : Fin 8) (f : Stream → Stream) : (s.updStream n f).fill = s.fill := rfl
@[simp] theorem updStream_sampler (s : State) (n : Fin 8) (f : Stream → Stream) : (s.updStream n f).sampler = s.sampler := rfl
@[simp] theorem updStream_transition (s : State) (n : Fin 8) (f : Stream → Stream) : (s.updStream n f).transition = s.transition := rfl
@[simp] theorem updStream_zones (s : State) (n : Fin 8) (f : Stream → Stream) : (s.updStream n f).zones = s.zones := rfl
@[simp] theorem updStream_lookup (s : State) (n : Fin 8) (f : Stream → Stream) : (s.updStream n f).lookup = s.lookup := rfl
@[simp] theorem updStream_pins (s : State) (n : Fin 8) (f : Stream → Stream) : (s.updStream n f).pins = s.pins := rfl
@[simp] theorem updStream_panel (s : State) (n : Fin 8) (f : Stream → Stream) : (s.updStream n f).panel = s.panel := rfl
@[simp] theorem updStream_freeCount (s : State) (n : Fin 8) (f : Stream → Stream) : (s.updStream n f).freeCount = s.freeCount := rfl
@[simp] theorem updStream_pending (s : State) (n : Fin 8) (f : Stream → Stream) : (s.updStream n f).pending = s.pending := rfl

@[simp] theorem advanceJob_port (s : State) : (s.advanceJob).port = s.port := rfl
@[simp] theorem advanceJob_geometry (s : State) : (s.advanceJob).geometry = s.geometry := rfl
@[simp] theorem advanceJob_keepOuts (s : State) : (s.advanceJob).keepOuts = s.keepOuts := rfl
@[simp] theorem advanceJob_table (s : State) : (s.advanceJob).table = s.table := rfl
@[simp] theorem advanceJob_engine (s : State) : (s.advanceJob).engine = s.engine := rfl
@[simp] theorem advanceJob_router (s : State) : (s.advanceJob).router = s.router := rfl
@[simp] theorem advanceJob_link (s : State) : (s.advanceJob).link = s.link := rfl
@[simp] theorem advanceJob_fill (s : State) : (s.advanceJob).fill = { s.fill with job := s.fill.job.map fun j => { j with position := j.position + 1 } } := rfl
@[simp] theorem advanceJob_sampler (s : State) : (s.advanceJob).sampler = s.sampler := rfl
@[simp] theorem advanceJob_transition (s : State) : (s.advanceJob).transition = s.transition := rfl
@[simp] theorem advanceJob_zones (s : State) : (s.advanceJob).zones = s.zones := rfl
@[simp] theorem advanceJob_lookup (s : State) : (s.advanceJob).lookup = s.lookup := rfl
@[simp] theorem advanceJob_pins (s : State) : (s.advanceJob).pins = s.pins := rfl
@[simp] theorem advanceJob_panel (s : State) : (s.advanceJob).panel = s.panel := rfl
@[simp] theorem advanceJob_freeCount (s : State) : (s.advanceJob).freeCount = s.freeCount := rfl
@[simp] theorem advanceJob_pending (s : State) : (s.advanceJob).pending = s.pending := rfl

@[simp] theorem grantMessage_port (s : State) (z : Zone) (m : Message) : (s.grantMessage z m).port = s.port := rfl
@[simp] theorem grantMessage_geometry (s : State) (z : Zone) (m : Message) : (s.grantMessage z m).geometry = s.geometry := rfl
@[simp] theorem grantMessage_keepOuts (s : State) (z : Zone) (m : Message) : (s.grantMessage z m).keepOuts = s.keepOuts := rfl
@[simp] theorem grantMessage_table (s : State) (z : Zone) (m : Message) : (s.grantMessage z m).table = s.table := rfl
@[simp] theorem grantMessage_engine (s : State) (z : Zone) (m : Message) : (s.grantMessage z m).engine = s.engine := rfl
@[simp] theorem grantMessage_router (s : State) (z : Zone) (m : Message) : (s.grantMessage z m).router = s.router := rfl
@[simp] theorem grantMessage_link (s : State) (z : Zone) (m : Message) : (s.grantMessage z m).link = { s.link with flight := some (.message z m), slots := s.link.slots.set z none } := rfl
@[simp] theorem grantMessage_fill (s : State) (z : Zone) (m : Message) : (s.grantMessage z m).fill = s.fill := rfl
@[simp] theorem grantMessage_sampler (s : State) (z : Zone) (m : Message) : (s.grantMessage z m).sampler = s.sampler := rfl
@[simp] theorem grantMessage_transition (s : State) (z : Zone) (m : Message) : (s.grantMessage z m).transition = s.transition := rfl
@[simp] theorem grantMessage_zones (s : State) (z : Zone) (m : Message) : (s.grantMessage z m).zones = s.zones := rfl
@[simp] theorem grantMessage_lookup (s : State) (z : Zone) (m : Message) : (s.grantMessage z m).lookup = s.lookup := rfl
@[simp] theorem grantMessage_pins (s : State) (z : Zone) (m : Message) : (s.grantMessage z m).pins = s.pins := rfl
@[simp] theorem grantMessage_panel (s : State) (z : Zone) (m : Message) : (s.grantMessage z m).panel = s.panel := rfl
@[simp] theorem grantMessage_freeCount (s : State) (z : Zone) (m : Message) : (s.grantMessage z m).freeCount = s.freeCount := rfl
@[simp] theorem grantMessage_pending (s : State) (z : Zone) (m : Message) : (s.grantMessage z m).pending = s.pending := rfl

@[simp] theorem exchange_port (s : State) (m : Map) : (s.exchange m).port = s.port := rfl
@[simp] theorem exchange_geometry (s : State) (m : Map) : (s.exchange m).geometry = s.geometry := rfl
@[simp] theorem exchange_keepOuts (s : State) (m : Map) : (s.exchange m).keepOuts = s.keepOuts := rfl
@[simp] theorem exchange_table (s : State) (m : Map) : (s.exchange m).table = s.table := rfl
@[simp] theorem exchange_engine (s : State) (m : Map) : (s.exchange m).engine = { s.engine with epoch := s.engine.epoch + 1, active := m, phase := .draining s.engine.active s.engine.epoch } := rfl
@[simp] theorem exchange_router (s : State) (m : Map) : (s.exchange m).router = s.router := rfl
@[simp] theorem exchange_link (s : State) (m : Map) : (s.exchange m).link = s.link := rfl
@[simp] theorem exchange_fill (s : State) (m : Map) : (s.exchange m).fill = s.fill := rfl
@[simp] theorem exchange_sampler (s : State) (m : Map) : (s.exchange m).sampler = s.sampler := rfl
@[simp] theorem exchange_transition (s : State) (m : Map) : (s.exchange m).transition = s.transition := rfl
@[simp] theorem exchange_zones (s : State) (m : Map) : (s.exchange m).zones = s.zones := rfl
@[simp] theorem exchange_lookup (s : State) (m : Map) : (s.exchange m).lookup = s.lookup := rfl
@[simp] theorem exchange_pins (s : State) (m : Map) : (s.exchange m).pins = s.pins := rfl
@[simp] theorem exchange_panel (s : State) (m : Map) : (s.exchange m).panel = s.panel := rfl
@[simp] theorem exchange_freeCount (s : State) (m : Map) : (s.exchange m).freeCount = s.freeCount := rfl
@[simp] theorem exchange_pending (s : State) (m : Map) : (s.exchange m).pending = s.pending := rfl

@[simp] theorem becomeReady_port (s : State) (b : Build) : (s.becomeReady b).port = s.port := rfl
@[simp] theorem becomeReady_geometry (s : State) (b : Build) : (s.becomeReady b).geometry = s.geometry := rfl
@[simp] theorem becomeReady_keepOuts (s : State) (b : Build) : (s.becomeReady b).keepOuts = s.keepOuts := rfl
@[simp] theorem becomeReady_table (s : State) (b : Build) : (s.becomeReady b).table = s.table := rfl
@[simp] theorem becomeReady_engine (s : State) (b : Build) : (s.becomeReady b).engine = { s.engine with phase := .ready b b.map } := rfl
@[simp] theorem becomeReady_router (s : State) (b : Build) : (s.becomeReady b).router = s.router := rfl
@[simp] theorem becomeReady_link (s : State) (b : Build) : (s.becomeReady b).link = s.link := rfl
@[simp] theorem becomeReady_fill (s : State) (b : Build) : (s.becomeReady b).fill = s.fill := rfl
@[simp] theorem becomeReady_sampler (s : State) (b : Build) : (s.becomeReady b).sampler = s.sampler := rfl
@[simp] theorem becomeReady_transition (s : State) (b : Build) : (s.becomeReady b).transition = s.transition := rfl
@[simp] theorem becomeReady_zones (s : State) (b : Build) : (s.becomeReady b).zones = s.zones := rfl
@[simp] theorem becomeReady_lookup (s : State) (b : Build) : (s.becomeReady b).lookup = s.lookup := rfl
@[simp] theorem becomeReady_pins (s : State) (b : Build) : (s.becomeReady b).pins = s.pins := rfl
@[simp] theorem becomeReady_panel (s : State) (b : Build) : (s.becomeReady b).panel = s.panel := rfl
@[simp] theorem becomeReady_freeCount (s : State) (b : Build) : (s.becomeReady b).freeCount = s.freeCount := rfl
@[simp] theorem becomeReady_pending (s : State) (b : Build) : (s.becomeReady b).pending = s.pending := rfl

@[simp] theorem updPort_port (s : State) (f : Port → Port) : (s.updPort f).port = f s.port := rfl
@[simp] theorem updPort_geometry (s : State) (f : Port → Port) : (s.updPort f).geometry = s.geometry := rfl
@[simp] theorem updPort_keepOuts (s : State) (f : Port → Port) : (s.updPort f).keepOuts = s.keepOuts := rfl
@[simp] theorem updPort_table (s : State) (f : Port → Port) : (s.updPort f).table = s.table := rfl
@[simp] theorem updPort_engine (s : State) (f : Port → Port) : (s.updPort f).engine = s.engine := rfl
@[simp] theorem updPort_router (s : State) (f : Port → Port) : (s.updPort f).router = s.router := rfl
@[simp] theorem updPort_link (s : State) (f : Port → Port) : (s.updPort f).link = s.link := rfl
@[simp] theorem updPort_fill (s : State) (f : Port → Port) : (s.updPort f).fill = s.fill := rfl
@[simp] theorem updPort_sampler (s : State) (f : Port → Port) : (s.updPort f).sampler = s.sampler := rfl
@[simp] theorem updPort_transition (s : State) (f : Port → Port) : (s.updPort f).transition = s.transition := rfl
@[simp] theorem updPort_zones (s : State) (f : Port → Port) : (s.updPort f).zones = s.zones := rfl
@[simp] theorem updPort_lookup (s : State) (f : Port → Port) : (s.updPort f).lookup = s.lookup := rfl
@[simp] theorem updPort_pins (s : State) (f : Port → Port) : (s.updPort f).pins = s.pins := rfl
@[simp] theorem updPort_panel (s : State) (f : Port → Port) : (s.updPort f).panel = s.panel := rfl
@[simp] theorem updPort_freeCount (s : State) (f : Port → Port) : (s.updPort f).freeCount = s.freeCount := rfl
@[simp] theorem updPort_pending (s : State) (f : Port → Port) : (s.updPort f).pending = s.pending := rfl

@[simp] theorem updSampler_port (s : State) (f : Sampler → Sampler) : (s.updSampler f).port = s.port := rfl
@[simp] theorem updSampler_geometry (s : State) (f : Sampler → Sampler) : (s.updSampler f).geometry = s.geometry := rfl
@[simp] theorem updSampler_keepOuts (s : State) (f : Sampler → Sampler) : (s.updSampler f).keepOuts = s.keepOuts := rfl
@[simp] theorem updSampler_table (s : State) (f : Sampler → Sampler) : (s.updSampler f).table = s.table := rfl
@[simp] theorem updSampler_engine (s : State) (f : Sampler → Sampler) : (s.updSampler f).engine = s.engine := rfl
@[simp] theorem updSampler_router (s : State) (f : Sampler → Sampler) : (s.updSampler f).router = s.router := rfl
@[simp] theorem updSampler_link (s : State) (f : Sampler → Sampler) : (s.updSampler f).link = s.link := rfl
@[simp] theorem updSampler_fill (s : State) (f : Sampler → Sampler) : (s.updSampler f).fill = s.fill := rfl
@[simp] theorem updSampler_sampler (s : State) (f : Sampler → Sampler) : (s.updSampler f).sampler = f s.sampler := rfl
@[simp] theorem updSampler_transition (s : State) (f : Sampler → Sampler) : (s.updSampler f).transition = s.transition := rfl
@[simp] theorem updSampler_zones (s : State) (f : Sampler → Sampler) : (s.updSampler f).zones = s.zones := rfl
@[simp] theorem updSampler_lookup (s : State) (f : Sampler → Sampler) : (s.updSampler f).lookup = s.lookup := rfl
@[simp] theorem updSampler_pins (s : State) (f : Sampler → Sampler) : (s.updSampler f).pins = s.pins := rfl
@[simp] theorem updSampler_panel (s : State) (f : Sampler → Sampler) : (s.updSampler f).panel = s.panel := rfl
@[simp] theorem updSampler_freeCount (s : State) (f : Sampler → Sampler) : (s.updSampler f).freeCount = s.freeCount := rfl
@[simp] theorem updSampler_pending (s : State) (f : Sampler → Sampler) : (s.updSampler f).pending = s.pending := rfl

@[simp] theorem putAnswer_port (s : State) (a : Answer) : (s.putAnswer a).port = s.port := rfl
@[simp] theorem putAnswer_geometry (s : State) (a : Answer) : (s.putAnswer a).geometry = s.geometry := rfl
@[simp] theorem putAnswer_keepOuts (s : State) (a : Answer) : (s.putAnswer a).keepOuts = s.keepOuts := rfl
@[simp] theorem putAnswer_table (s : State) (a : Answer) : (s.putAnswer a).table = s.table := rfl
@[simp] theorem putAnswer_engine (s : State) (a : Answer) : (s.putAnswer a).engine = s.engine := rfl
@[simp] theorem putAnswer_router (s : State) (a : Answer) : (s.putAnswer a).router = s.router := rfl
@[simp] theorem putAnswer_link (s : State) (a : Answer) : (s.putAnswer a).link = s.link := rfl
@[simp] theorem putAnswer_fill (s : State) (a : Answer) : (s.putAnswer a).fill = s.fill := rfl
@[simp] theorem putAnswer_sampler (s : State) (a : Answer) : (s.putAnswer a).sampler = s.sampler := rfl
@[simp] theorem putAnswer_transition (s : State) (a : Answer) : (s.putAnswer a).transition = s.transition := rfl
@[simp] theorem putAnswer_zones (s : State) (a : Answer) : (s.putAnswer a).zones = s.zones := rfl
@[simp] theorem putAnswer_lookup (s : State) (a : Answer) : (s.putAnswer a).lookup = { s.lookup with answer := some a } := rfl
@[simp] theorem putAnswer_pins (s : State) (a : Answer) : (s.putAnswer a).pins = s.pins := rfl
@[simp] theorem putAnswer_panel (s : State) (a : Answer) : (s.putAnswer a).panel = s.panel := rfl
@[simp] theorem putAnswer_freeCount (s : State) (a : Answer) : (s.putAnswer a).freeCount = s.freeCount := rfl
@[simp] theorem putAnswer_pending (s : State) (a : Answer) : (s.putAnswer a).pending = s.pending := rfl

@[simp] theorem setLine_port (s : State) (z : Zone) (level : Bool) : (s.setLine z level).port = s.port := rfl
@[simp] theorem setLine_geometry (s : State) (z : Zone) (level : Bool) : (s.setLine z level).geometry = s.geometry := rfl
@[simp] theorem setLine_keepOuts (s : State) (z : Zone) (level : Bool) : (s.setLine z level).keepOuts = s.keepOuts := rfl
@[simp] theorem setLine_table (s : State) (z : Zone) (level : Bool) : (s.setLine z level).table = s.table := rfl
@[simp] theorem setLine_engine (s : State) (z : Zone) (level : Bool) : (s.setLine z level).engine = s.engine := rfl
@[simp] theorem setLine_router (s : State) (z : Zone) (level : Bool) : (s.setLine z level).router = s.router := rfl
@[simp] theorem setLine_link (s : State) (z : Zone) (level : Bool) : (s.setLine z level).link = s.link := rfl
@[simp] theorem setLine_fill (s : State) (z : Zone) (level : Bool) : (s.setLine z level).fill = s.fill := rfl
@[simp] theorem setLine_sampler (s : State) (z : Zone) (level : Bool) : (s.setLine z level).sampler = s.sampler := rfl
@[simp] theorem setLine_transition (s : State) (z : Zone) (level : Bool) : (s.setLine z level).transition = s.transition := rfl
@[simp] theorem setLine_zones (s : State) (z : Zone) (level : Bool) : (s.setLine z level).zones = s.zones := rfl
@[simp] theorem setLine_lookup (s : State) (z : Zone) (level : Bool) : (s.setLine z level).lookup = s.lookup := rfl
@[simp] theorem setLine_pins (s : State) (z : Zone) (level : Bool) : (s.setLine z level).pins = { s.pins with faultLine := s.pins.faultLine.set z level } := rfl
@[simp] theorem setLine_panel (s : State) (z : Zone) (level : Bool) : (s.setLine z level).panel = s.panel := rfl
@[simp] theorem setLine_freeCount (s : State) (z : Zone) (level : Bool) : (s.setLine z level).freeCount = s.freeCount := rfl
@[simp] theorem setLine_pending (s : State) (z : Zone) (level : Bool) : (s.setLine z level).pending = s.pending := rfl

@[simp] theorem restartSubstitute_port (s : State) : (s.restartSubstitute).port = s.port := rfl
@[simp] theorem restartSubstitute_geometry (s : State) : (s.restartSubstitute).geometry = s.geometry := rfl
@[simp] theorem restartSubstitute_keepOuts (s : State) : (s.restartSubstitute).keepOuts = s.keepOuts := rfl
@[simp] theorem restartSubstitute_table (s : State) : (s.restartSubstitute).table = s.table := rfl
@[simp] theorem restartSubstitute_engine (s : State) : (s.restartSubstitute).engine = s.engine := rfl
@[simp] theorem restartSubstitute_router (s : State) : (s.restartSubstitute).router = s.router := rfl
@[simp] theorem restartSubstitute_link (s : State) : (s.restartSubstitute).link = { s.link with timer := some s.link.interval } := rfl
@[simp] theorem restartSubstitute_fill (s : State) : (s.restartSubstitute).fill = s.fill := rfl
@[simp] theorem restartSubstitute_sampler (s : State) : (s.restartSubstitute).sampler = s.sampler := rfl
@[simp] theorem restartSubstitute_transition (s : State) : (s.restartSubstitute).transition = s.transition := rfl
@[simp] theorem restartSubstitute_zones (s : State) : (s.restartSubstitute).zones = s.zones := rfl
@[simp] theorem restartSubstitute_lookup (s : State) : (s.restartSubstitute).lookup = s.lookup := rfl
@[simp] theorem restartSubstitute_pins (s : State) : (s.restartSubstitute).pins = s.pins := rfl
@[simp] theorem restartSubstitute_panel (s : State) : (s.restartSubstitute).panel = s.panel := rfl
@[simp] theorem restartSubstitute_freeCount (s : State) : (s.restartSubstitute).freeCount = s.freeCount := rfl
@[simp] theorem restartSubstitute_pending (s : State) : (s.restartSubstitute).pending = s.pending := rfl

@[simp] theorem completeTransfer_port (s : State) (f : Transfer) : (s.completeTransfer f).port = s.port := rfl
@[simp] theorem completeTransfer_geometry (s : State) (f : Transfer) : (s.completeTransfer f).geometry = s.geometry := rfl
@[simp] theorem completeTransfer_keepOuts (s : State) (f : Transfer) : (s.completeTransfer f).keepOuts = s.keepOuts := rfl
@[simp] theorem completeTransfer_table (s : State) (f : Transfer) : (s.completeTransfer f).table = s.table := rfl
@[simp] theorem completeTransfer_engine (s : State) (f : Transfer) : (s.completeTransfer f).engine = s.engine := rfl
@[simp] theorem completeTransfer_router (s : State) (f : Transfer) : (s.completeTransfer f).router = s.router := rfl
@[simp] theorem completeTransfer_link (s : State) (f : Transfer) : (s.completeTransfer f).link = { s.link with flight := none } := rfl
@[simp] theorem completeTransfer_fill (s : State) (f : Transfer) : (s.completeTransfer f).fill = s.fill := rfl
@[simp] theorem completeTransfer_sampler (s : State) (f : Transfer) : (s.completeTransfer f).sampler = s.sampler := rfl
@[simp] theorem completeTransfer_transition (s : State) (f : Transfer) : (s.completeTransfer f).transition = s.transition := rfl
@[simp] theorem completeTransfer_zones (s : State) (f : Transfer) : (s.completeTransfer f).zones = s.zones := rfl
@[simp] theorem completeTransfer_lookup (s : State) (f : Transfer) : (s.completeTransfer f).lookup = s.lookup := rfl
@[simp] theorem completeTransfer_pins (s : State) (f : Transfer) : (s.completeTransfer f).pins = s.pins := rfl
@[simp] theorem completeTransfer_panel (s : State) (f : Transfer) : (s.completeTransfer f).panel = s.panel.take f := rfl
@[simp] theorem completeTransfer_freeCount (s : State) (f : Transfer) : (s.completeTransfer f).freeCount = s.freeCount := rfl
@[simp] theorem completeTransfer_pending (s : State) (f : Transfer) : (s.completeTransfer f).pending = s.pending := rfl

@[simp] theorem clearKeepOuts_port (s : State) (which : Option (Fin 8)) : (s.clearKeepOuts which).port = s.port := rfl
@[simp] theorem clearKeepOuts_geometry (s : State) (which : Option (Fin 8)) : (s.clearKeepOuts which).geometry = s.geometry := rfl
@[simp] theorem clearKeepOuts_keepOuts (s : State) (which : Option (Fin 8)) : (s.clearKeepOuts which).keepOuts = Vec.tabulate fun i => if clearsEntry which i then none else s.keepOuts[i] := rfl
@[simp] theorem clearKeepOuts_table (s : State) (which : Option (Fin 8)) : (s.clearKeepOuts which).table = s.table := rfl
@[simp] theorem clearKeepOuts_engine (s : State) (which : Option (Fin 8)) : (s.clearKeepOuts which).engine = s.engine := rfl
@[simp] theorem clearKeepOuts_router (s : State) (which : Option (Fin 8)) : (s.clearKeepOuts which).router = s.router := rfl
@[simp] theorem clearKeepOuts_link (s : State) (which : Option (Fin 8)) : (s.clearKeepOuts which).link = s.link := rfl
@[simp] theorem clearKeepOuts_fill (s : State) (which : Option (Fin 8)) : (s.clearKeepOuts which).fill = s.fill := rfl
@[simp] theorem clearKeepOuts_sampler (s : State) (which : Option (Fin 8)) : (s.clearKeepOuts which).sampler = s.sampler := rfl
@[simp] theorem clearKeepOuts_transition (s : State) (which : Option (Fin 8)) : (s.clearKeepOuts which).transition = s.transition := rfl
@[simp] theorem clearKeepOuts_zones (s : State) (which : Option (Fin 8)) : (s.clearKeepOuts which).zones = s.zones := rfl
@[simp] theorem clearKeepOuts_lookup (s : State) (which : Option (Fin 8)) : (s.clearKeepOuts which).lookup = s.lookup := rfl
@[simp] theorem clearKeepOuts_pins (s : State) (which : Option (Fin 8)) : (s.clearKeepOuts which).pins = s.pins := rfl
@[simp] theorem clearKeepOuts_panel (s : State) (which : Option (Fin 8)) : (s.clearKeepOuts which).panel = s.panel := rfl
@[simp] theorem clearKeepOuts_freeCount (s : State) (which : Option (Fin 8)) : (s.clearKeepOuts which).freeCount = s.freeCount := rfl
@[simp] theorem clearKeepOuts_pending (s : State) (which : Option (Fin 8)) : (s.clearKeepOuts which).pending = s.pending := rfl

@[simp] theorem setFlag_geometry (s : State) (f : EventFlag) : (s.setFlag f).geometry = s.geometry := by unfold State.setFlag; split <;> rfl
@[simp] theorem setFlag_keepOuts (s : State) (f : EventFlag) : (s.setFlag f).keepOuts = s.keepOuts := by unfold State.setFlag; split <;> rfl
@[simp] theorem setFlag_table (s : State) (f : EventFlag) : (s.setFlag f).table = s.table := by unfold State.setFlag; split <;> rfl
@[simp] theorem setFlag_engine (s : State) (f : EventFlag) : (s.setFlag f).engine = s.engine := by unfold State.setFlag; split <;> rfl
@[simp] theorem setFlag_router (s : State) (f : EventFlag) : (s.setFlag f).router = s.router := by unfold State.setFlag; split <;> rfl
@[simp] theorem setFlag_link (s : State) (f : EventFlag) : (s.setFlag f).link = s.link := by unfold State.setFlag; split <;> rfl
@[simp] theorem setFlag_fill (s : State) (f : EventFlag) : (s.setFlag f).fill = s.fill := by unfold State.setFlag; split <;> rfl
@[simp] theorem setFlag_sampler (s : State) (f : EventFlag) : (s.setFlag f).sampler = s.sampler := by unfold State.setFlag; split <;> rfl
@[simp] theorem setFlag_transition (s : State) (f : EventFlag) : (s.setFlag f).transition = s.transition := by unfold State.setFlag; split <;> rfl
@[simp] theorem setFlag_zones (s : State) (f : EventFlag) : (s.setFlag f).zones = s.zones := by unfold State.setFlag; split <;> rfl
@[simp] theorem setFlag_lookup (s : State) (f : EventFlag) : (s.setFlag f).lookup = s.lookup := by unfold State.setFlag; split <;> rfl
@[simp] theorem setFlag_pins (s : State) (f : EventFlag) : (s.setFlag f).pins = s.pins := by unfold State.setFlag; split <;> rfl
@[simp] theorem setFlag_panel (s : State) (f : EventFlag) : (s.setFlag f).panel = s.panel := by unfold State.setFlag; split <;> rfl
@[simp] theorem setFlag_freeCount (s : State) (f : EventFlag) : (s.setFlag f).freeCount = s.freeCount := by unfold State.setFlag; split <;> rfl
@[simp] theorem setFlag_pending (s : State) (f : EventFlag) : (s.setFlag f).pending = s.pending := by unfold State.setFlag; split <;> rfl

@[simp] theorem placeMessage_port (s : State) (z : Zone) : (s.placeMessage z).port = s.port := by unfold State.placeMessage; split <;> rfl
@[simp] theorem placeMessage_geometry (s : State) (z : Zone) : (s.placeMessage z).geometry = s.geometry := by unfold State.placeMessage; split <;> rfl
@[simp] theorem placeMessage_keepOuts (s : State) (z : Zone) : (s.placeMessage z).keepOuts = s.keepOuts := by unfold State.placeMessage; split <;> rfl
@[simp] theorem placeMessage_table (s : State) (z : Zone) : (s.placeMessage z).table = s.table := by unfold State.placeMessage; split <;> rfl
@[simp] theorem placeMessage_engine (s : State) (z : Zone) : (s.placeMessage z).engine = s.engine := by unfold State.placeMessage; split <;> rfl
@[simp] theorem placeMessage_router (s : State) (z : Zone) : (s.placeMessage z).router = s.router := by unfold State.placeMessage; split <;> rfl
@[simp] theorem placeMessage_fill (s : State) (z : Zone) : (s.placeMessage z).fill = s.fill := by unfold State.placeMessage; split <;> rfl
@[simp] theorem placeMessage_sampler (s : State) (z : Zone) : (s.placeMessage z).sampler = s.sampler := by unfold State.placeMessage; split <;> rfl
@[simp] theorem placeMessage_transition (s : State) (z : Zone) : (s.placeMessage z).transition = s.transition := by unfold State.placeMessage; split <;> rfl
@[simp] theorem placeMessage_zones (s : State) (z : Zone) : (s.placeMessage z).zones = s.zones := by unfold State.placeMessage; split <;> rfl
@[simp] theorem placeMessage_lookup (s : State) (z : Zone) : (s.placeMessage z).lookup = s.lookup := by unfold State.placeMessage; split <;> rfl
@[simp] theorem placeMessage_pins (s : State) (z : Zone) : (s.placeMessage z).pins = s.pins := by unfold State.placeMessage; split <;> rfl
@[simp] theorem placeMessage_panel (s : State) (z : Zone) : (s.placeMessage z).panel = s.panel := by unfold State.placeMessage; split <;> rfl
@[simp] theorem placeMessage_freeCount (s : State) (z : Zone) : (s.placeMessage z).freeCount = s.freeCount := by unfold State.placeMessage; split <;> rfl
@[simp] theorem placeMessage_pending (s : State) (z : Zone) : (s.placeMessage z).pending = s.pending := by unfold State.placeMessage; split <;> rfl

@[simp] theorem queueJob_port (s : State) (k : Key) : (s.queueJob k).port = s.port := by unfold State.queueJob; split <;> rfl
@[simp] theorem queueJob_geometry (s : State) (k : Key) : (s.queueJob k).geometry = s.geometry := by unfold State.queueJob; split <;> rfl
@[simp] theorem queueJob_keepOuts (s : State) (k : Key) : (s.queueJob k).keepOuts = s.keepOuts := by unfold State.queueJob; split <;> rfl
@[simp] theorem queueJob_table (s : State) (k : Key) : (s.queueJob k).table = s.table := by unfold State.queueJob; split <;> rfl
@[simp] theorem queueJob_engine (s : State) (k : Key) : (s.queueJob k).engine = s.engine := by unfold State.queueJob; split <;> rfl
@[simp] theorem queueJob_router (s : State) (k : Key) : (s.queueJob k).router = s.router := by unfold State.queueJob; split <;> rfl
@[simp] theorem queueJob_link (s : State) (k : Key) : (s.queueJob k).link = s.link := by unfold State.queueJob; split <;> rfl
@[simp] theorem queueJob_sampler (s : State) (k : Key) : (s.queueJob k).sampler = s.sampler := by unfold State.queueJob; split <;> rfl
@[simp] theorem queueJob_transition (s : State) (k : Key) : (s.queueJob k).transition = s.transition := by unfold State.queueJob; split <;> rfl
@[simp] theorem queueJob_zones (s : State) (k : Key) : (s.queueJob k).zones = s.zones := by unfold State.queueJob; split <;> rfl
@[simp] theorem queueJob_lookup (s : State) (k : Key) : (s.queueJob k).lookup = s.lookup := by unfold State.queueJob; split <;> rfl
@[simp] theorem queueJob_pins (s : State) (k : Key) : (s.queueJob k).pins = s.pins := by unfold State.queueJob; split <;> rfl
@[simp] theorem queueJob_panel (s : State) (k : Key) : (s.queueJob k).panel = s.panel := by unfold State.queueJob; split <;> rfl
@[simp] theorem queueJob_freeCount (s : State) (k : Key) : (s.queueJob k).freeCount = s.freeCount := by unfold State.queueJob; split <;> rfl
@[simp] theorem queueJob_pending (s : State) (k : Key) : (s.queueJob k).pending = s.pending := by unfold State.queueJob; split <;> rfl

/-! ## Reading after an update -/

@[simp] theorem record_updRecord_self (s : State) (i : Slot) (f : Record → Record) :
    (s.updRecord i f).record i = f (s.record i) := by
  show (Vec.modify s.table.slots i f)[i] = _
  rw [Vec.modify_get_self]; rfl

theorem record_updRecord_ne (s : State) (i j : Slot) (f : Record → Record) (h : i ≠ j) :
    (s.updRecord i f).record j = s.record j := by
  show (Vec.modify s.table.slots i f)[j] = _
  rw [Vec.modify_get_ne _ _ _ _ h]; rfl

@[simp] theorem record_mapRecords (s : State) (f : Slot → Record → Record) (i : Slot) :
    (s.mapRecords f).record i = f i (s.record i) := by
  show (Vec.tabulate fun j => f j s.table.slots[j])[i] = _
  rw [Vec.tabulate_get]; rfl

@[simp] theorem PerZone.get_set_self {α : Type} (p : PerZone α) (z : Zone) (x : α) : (p.set z x).get z = x := by
  cases z <;> rfl

theorem PerZone.get_set_ne {α : Type} (p : PerZone α) (z y : Zone) (x : α) (h : z ≠ y) :
    (p.set z x).get y = p.get y := by
  cases z <;> cases y <;> first | rfl | exact absurd rfl h

@[simp] theorem zoneState_updZone_self (s : State) (z : Zone) (f : ZoneState → ZoneState) :
    (s.updZone z f).zoneState z = f (s.zoneState z) := by
  simp [State.zoneState]

theorem zoneState_updZone_ne (s : State) (z y : Zone) (f : ZoneState → ZoneState) (h : z ≠ y) :
    (s.updZone z f).zoneState y = s.zoneState y := by
  simp [State.zoneState, PerZone.get_set_ne _ _ _ _ h]

@[simp] theorem inReset_of_pins (s : State) (p : Pins) : ({ s with pins := p } : State).inReset = (p.resetn || p.drstn) := rfl

/-- Outside the resets a flag is set. -/
theorem setFlag_port (s : State) (f : EventFlag) (h : s.inReset = false) :
    (s.setFlag f).port = { s.port with flags := s.port.flags ||| f.bit } := by
  simp [State.setFlag, h]

/-- Outside the resets a message is placed in its slot. -/
theorem placeMessage_link (s : State) (z : Zone) (h : s.inReset = false) :
    (s.placeMessage z).link = { s.link with slots := s.link.slots.set z (some (s.zoneState z).wanted) } := by
  simp [State.placeMessage, h]

@[simp] theorem setFlag_inReset (s : State) (f : EventFlag) : (s.setFlag f).inReset = s.inReset := by
  simp [State.inReset]

@[simp] theorem placeMessage_inReset (s : State) (z : Zone) : (s.placeMessage z).inReset = s.inReset := by
  simp [State.inReset]

@[simp] theorem setFlag_request (s : State) (f : EventFlag) : (s.setFlag f).port.request = s.port.request := by
  unfold State.setFlag; split <;> rfl

@[simp] theorem setFlag_response (s : State) (f : EventFlag) : (s.setFlag f).port.response = s.port.response := by
  unfold State.setFlag; split <;> rfl

end Sys2Proof.Machine
end

