-- ==== Sys2Proof/Laws/Beyond.lean ====
section
/-! SUPPORT. What the link's work at the end of an event leaves alone: the geometry, the keep-outs, the
sampler, the Lookup Unit, the pins, the panel, the free values and the queue of commands. -/

namespace Sys2Proof.Machine

/-- What no grant, offer, packet or end of SETTLING changes. -/
structure Beyond where
  geometry : Geometry
  keepOuts : Vector (Option KeepOut) 8
  sampler : Sampler
  lookup : LookupUnit
  pins : Pins
  panel : Panel
  freeCount : Nat
  pending : List Instr

/-- The part of a state that the link's work leaves alone. -/
def State.beyond (s : State) : Beyond :=
  { geometry := s.geometry, keepOuts := s.keepOuts, sampler := s.sampler, lookup := s.lookup, pins := s.pins,
    panel := s.panel, freeCount := s.freeCount, pending := s.pending }

@[simp] theorem setFlag_beyond (s : State) (f : EventFlag) : (s.setFlag f).beyond = s.beyond := by
  simp [State.beyond]

@[simp] theorem placeMessage_beyond (s : State) (z : Zone) : (s.placeMessage z).beyond = s.beyond := by
  simp [State.beyond]

@[simp] theorem queueJob_beyond (s : State) (k : Key) : (s.queueJob k).beyond = s.beyond := by
  simp [State.beyond]

@[simp] theorem activity_beyond (s : State) (a : Activity) (z : Zone) : (s.activity a z).beyond = s.beyond := by
  unfold State.activity
  split
  · rfl
  · split <;> simp [State.beyond]

@[simp] theorem removeJob_beyond (s : State) (k : Key) : (s.removeJob k).beyond = s.beyond := by
  unfold State.removeJob
  dsimp only
  split <;> rfl

@[simp] theorem startBuild_beyond (s : State) (k : BuildKind) (l : Layout) : (s.startBuild k l).beyond = s.beyond := by
  rfl

@[simp] theorem takeLatch_beyond (s : State) : s.takeLatch.beyond = s.beyond := by
  unfold State.takeLatch
  dsimp only
  split
  · rfl
  · rw [setFlag_beyond]; rfl

@[simp] theorem takeClaim_beyond (s : State) : s.takeClaim.beyond = s.beyond := by
  unfold State.takeClaim
  split
  · split
    · rfl
    · split
      · rfl
      · split
        · exact takeLatch_beyond s
        · rfl
  · rfl
  · rfl
  · rfl

@[simp] theorem enterIdle_beyond (s : State) : s.enterIdle.beyond = s.beyond := takeClaim_beyond _

@[simp] theorem drainTest_beyond (s : State) : s.drainTest.beyond = s.beyond := by
  unfold State.drainTest
  split
  · split
    · rfl
    · exact enterIdle_beyond s
  · rfl
  · rfl
  · rfl

@[simp] theorem raiseTarget_beyond (s : State) : s.raiseTarget.beyond = s.beyond := takeClaim_beyond _

@[simp] theorem callStart_beyond (s : State) (l : Layout) : (s.callStart l).beyond = s.beyond := by
  unfold State.callStart
  split
  · dsimp only
    split
    · rw [raiseTarget_beyond, setFlag_beyond]; rfl
    · rw [setFlag_beyond]; rfl
  · rfl

@[simp] theorem settleTest_beyond (s : State) : s.settleTest.beyond = s.beyond := by
  unfold State.settleTest
  split
  · dsimp only
    split
    · rw [callStart_beyond, setFlag_beyond]; rfl
    · rw [setFlag_beyond]; rfl
  · rfl

@[simp] theorem startJob_beyond (s : State) : s.startJob.beyond = s.beyond := by
  unfold State.startJob
  split <;> rfl

@[simp] theorem offerTile_beyond (s : State) : s.offerTile.beyond = s.beyond := by
  unfold State.offerTile
  split <;> rfl

@[simp] theorem handWrite_beyond (s : State) : s.handWrite.beyond = s.beyond := by
  unfold State.handWrite
  split <;> rfl

@[simp] theorem endRun_beyond (s : State) : s.endRun.beyond = s.beyond := by
  unfold State.endRun
  split
  · split <;> rfl
  · rfl

@[simp] theorem offerAll_beyond (s : State) : s.offerAll.beyond = s.beyond := by
  simp [State.offerAll]

@[simp] theorem grantStream_beyond (s : State) (w : TileWrite) : (s.grantStream w).beyond = s.beyond := by
  unfold State.grantStream
  split
  · rfl
  · rw [activity_beyond]; rfl

@[simp] theorem grantFill_beyond (s : State) (w : TileWrite) : (s.grantFill w).beyond = s.beyond := by
  unfold State.grantFill
  split
  · rfl
  · rw [activity_beyond]; rfl

theorem arbitrate_beyond (s t : State) (h : s.arbitrate = some t) : t.beyond = s.beyond := by
  unfold State.arbitrate at h
  split at h
  · exact absurd h (by simp)
  · split at h
    · cases h; rfl
    · split at h
      · cases h; simp
      · cases h; simp
      · split at h <;> (cases h; simp)
      · exact absurd h (by simp)

@[simp] theorem pump_beyond (n : Nat) (s : State) : (s.pump n).beyond = s.beyond := by
  induction n generalizing s with
  | zero => simp [State.pump]
  | succ n ih =>
    unfold State.pump
    split
    · rename_i t h
      rw [ih, arbitrate_beyond _ _ h, offerAll_beyond]
    · exact offerAll_beyond s

@[simp] theorem abortTest_beyond (s : State) : s.abortTest.beyond = s.beyond := by
  unfold State.abortTest
  split
  · split <;> rfl
  · rfl

@[simp] theorem settleLink_beyond (s : State) : s.settleLink.beyond = s.beyond := by
  simp [State.settleLink]

@[simp] theorem updStream_beyond (s : State) (n : Fin 8) (f : Stream → Stream) : (s.updStream n f).beyond = s.beyond :=
  rfl

@[simp] theorem closeFrame_beyond (s : State) (n : Fin 8) (r : FrameResult) : (s.closeFrame n r).beyond = s.beyond := by
  simp [State.closeFrame]

@[simp] theorem openFrame_beyond (s : State) (n : Fin 8) (w h : Nat) : (s.openFrame n w h).beyond = s.beyond := rfl

@[simp] theorem setResult_beyond (s : State) (n : Fin 8) (r : FrameResult) : (s.setResult n r).beyond = s.beyond := rfl

@[simp] theorem clearStale_beyond (bs : List Binding) (s : State) : (s.clearStale bs).beyond = s.beyond := by
  unfold State.clearStale
  induction bs generalizing s with
  | nil => rfl
  | cons b rest ih =>
    rw [List.foldl_cons, ih]
    split <;> rfl

@[simp] theorem takeFrameBegin_beyond (s : State) (n : Fin 8) (w h : Nat) :
    (s.takeFrameBegin n w h).beyond = s.beyond := by
  unfold State.takeFrameBegin
  split
  · split <;> simp
  · rfl

@[simp] theorem dropRun_beyond (s : State) (n : Fin 8) (ts : List Pixels) : (s.dropRun n ts).beyond = s.beyond := by
  unfold State.dropRun
  split <;> rfl

@[simp] theorem takeTileRun_beyond (s : State) (n : Fin 8) (i c : Nat) (ts : List Pixels) :
    (s.takeTileRun n i c ts).beyond = s.beyond := by
  unfold State.takeTileRun
  split
  · rw [dropRun_beyond]
    rfl
  · split
    · rw [dropRun_beyond]
      rfl
    · rfl

@[simp] theorem takeFrameEnd_beyond (s : State) (n : Fin 8) : (s.takeFrameEnd n).beyond = s.beyond := by
  unfold State.takeFrameEnd
  split
  · rfl
  · split
    · simp
    · split <;> simp

@[simp] theorem takePacket_beyond (s : State) (p : Packet) : (s.takePacket p).beyond = s.beyond := by
  unfold State.takePacket
  split
  · split <;> simp
  · split
    · split <;> simp
    · rfl
  · split <;> simp
  · rfl

@[simp] theorem takePackets_beyond (n : Nat) (s : State) : (s.takePackets n).beyond = s.beyond := by
  induction n generalizing s with
  | zero => rfl
  | succ n ih =>
    unfold State.takePackets
    split
    · split
      · rfl
      · rw [ih, takePacket_beyond]; rfl
    · rfl

/-- The end of an event leaves everything beyond the link's work alone. -/
@[simp] theorem finish_beyond (s : State) : s.finish.beyond = s.beyond := by
  simp [State.finish]

@[simp] theorem finish_geometry (s : State) : s.finish.geometry = s.geometry := congrArg Beyond.geometry (finish_beyond s)

@[simp] theorem finish_keepOuts (s : State) : s.finish.keepOuts = s.keepOuts := congrArg Beyond.keepOuts (finish_beyond s)

@[simp] theorem finish_sampler (s : State) : s.finish.sampler = s.sampler := congrArg Beyond.sampler (finish_beyond s)

@[simp] theorem finish_lookup (s : State) : s.finish.lookup = s.lookup := congrArg Beyond.lookup (finish_beyond s)

@[simp] theorem finish_pins (s : State) : s.finish.pins = s.pins := congrArg Beyond.pins (finish_beyond s)

@[simp] theorem finish_panel (s : State) : s.finish.panel = s.panel := congrArg Beyond.panel (finish_beyond s)

@[simp] theorem finish_freeCount (s : State) : s.finish.freeCount = s.freeCount :=
  congrArg Beyond.freeCount (finish_beyond s)

@[simp] theorem finish_pending (s : State) : s.finish.pending = s.pending := congrArg Beyond.pending (finish_beyond s)

end Sys2Proof.Machine
end

