-- ==== Sys2Proof/Laws/Fill.lean ====
section
/-! SUPPORT. What the operations on the fill queue, the slots and the panel's frame memory do, once each. -/

namespace Sys2Proof.Machine

/-! ## The fill queue -/

/-- A job queued joins the back, unless its key waits already (R101). -/
theorem queueJob_queue (s : State) (k : Key) :
    (s.queueJob k).fill.queue = if k ∈ s.fill.queue then s.fill.queue else s.fill.queue ++ [k] := by
  unfold State.queueJob
  split <;> rfl

@[simp] theorem queueJob_job (s : State) (k : Key) : (s.queueJob k).fill.job = s.fill.job := by
  unfold State.queueJob
  split <;> rfl

/-- After a key is queued it waits. -/
theorem mem_queueJob (s : State) (k : Key) : k ∈ (s.queueJob k).fill.queue := by
  rw [queueJob_queue]
  split
  · assumption
  · simp

/-- Queuing a job keeps the keys distinct (R101). -/
theorem queueJob_nodup (s : State) (k : Key) (h : s.fill.queue.Nodup) : (s.queueJob k).fill.queue.Nodup := by
  rw [queueJob_queue]
  split
  · exact h
  · rename_i hk
    rw [List.nodup_append]
    refine ⟨h, by simp, ?_⟩
    intro a ha b hb e
    simp only [List.mem_singleton] at hb
    subst hb
    exact hk (e ▸ ha)

/-- Moving BLANK to the front keeps the keys distinct (R101). -/
theorem queueBlank_nodup (s : State) (h : s.fill.queue.Nodup) : s.queueBlank.fill.queue.Nodup := by
  rw [queueBlank_fill]
  exact List.nodup_cons.mpr ⟨by simp, h.filter _⟩

/-- A removed key no longer waits (R106). -/
theorem removeJob_queue (s : State) (k : Key) :
    (s.removeJob k).fill.queue = s.fill.queue.filter fun q => q ≠ k := by
  unfold State.removeJob
  dsimp only
  split <;> rfl

/-- A removed key is not the job in progress (R106). -/
theorem removeJob_job (s : State) (k : Key) (j : Job) (h : (s.removeJob k).fill.job = some j) : j.key ≠ k := by
  unfold State.removeJob at h
  dsimp only at h
  split at h
  · cases h
  · rename_i hk
    intro e
    apply hk
    change s.fill.job = some j at h
    simp [State.jobIs, h, e]

/-! ## The panel's frame memory -/

/-- The tile written holds the pixels. -/
theorem lookup_insertTile_self (t : Nat) (px : Pixels) (l : List (Nat × Pixels)) :
    (insertTile t px l).lookup t = some px := by
  induction l with
  | nil => simp [insertTile]
  | cons a rest ih =>
    obtain ⟨u, q⟩ := a
    unfold insertTile
    split
    · simp
    · split
      · simp
      · rename_i _ h
        have : (t == u) = false := by simpa using h
        simp [List.lookup, this, ih]

/-- No other tile changes. -/
theorem lookup_insertTile_ne (t u : Nat) (px : Pixels) (l : List (Nat × Pixels)) (h : u ≠ t) :
    (insertTile t px l).lookup u = l.lookup u := by
  have hut : (u == t) = false := by simpa using h
  induction l with
  | nil => simp [insertTile, List.lookup, hut]
  | cons a rest ih =>
    obtain ⟨v, q⟩ := a
    unfold insertTile
    split
    · simp [List.lookup, hut]
    · split
      · rename_i _ e
        subst e
        simp [List.lookup, hut]
      · simp only [List.lookup]
        split
        · rfl
        · exact ih

/-- The first key of an insertion is the tile's or the list's own. -/
theorem risingKeys_cons_iff {α : Type} (a : Nat × α) (l : List (Nat × α)) :
    risingKeys (a :: l) = true ↔ (∀ b, l.head? = some b → a.1 < b.1) ∧ risingKeys l = true := by
  cases l with
  | nil => simp [risingKeys]
  | cons b rest => simp [risingKeys]

theorem head_insertTile (t : Nat) (px : Pixels) (l : List (Nat × Pixels)) (b : Nat × Pixels)
    (h : (insertTile t px l).head? = some b) : b.1 = t ∨ l.head?.map Prod.fst = some b.1 := by
  cases l with
  | nil => simp [insertTile] at h; subst h; exact .inl rfl
  | cons a rest =>
    obtain ⟨u, q⟩ := a
    unfold insertTile at h
    split at h
    · simp at h; subst h; exact .inl rfl
    · split at h
      · simp at h; subst h; exact .inl rfl
      · simp at h; subst h; exact .inr rfl

/-- A write keeps the canonical form of the frame memory. -/
theorem insertTile_rising (t : Nat) (px : Pixels) (l : List (Nat × Pixels)) (h : risingKeys l = true) :
    risingKeys (insertTile t px l) = true := by
  induction l with
  | nil => rfl
  | cons a rest ih =>
    obtain ⟨u, q⟩ := a
    unfold insertTile
    split
    · rename_i hlt
      rw [risingKeys_cons_iff]
      refine ⟨?_, h⟩
      intro b hb
      simp at hb
      subst hb
      exact hlt
    · split
      · rename_i _ e
        subst e
        rw [risingKeys_cons_iff] at h ⊢
        exact h
      · rename_i h1 h2
        rw [risingKeys_cons_iff] at h ⊢
        refine ⟨?_, ih h.2⟩
        intro b hb
        rcases head_insertTile t px rest b hb with e | e
        · rw [e]; change u < t; omega
        · cases hr : rest.head? with
          | none => rw [hr] at e; cases e
          | some c =>
            rw [hr] at e
            simp at e
            have := h.1 c hr
            omega

theorem Panel.write_wf (p : Panel) (t : Nat) (px : Pixels) (h : p.wf = true) : (p.write t px).wf = true :=
  insertTile_rising t px p.tiles h

@[simp] theorem Panel.read_write_self (p : Panel) (t : Nat) (px : Pixels) : (p.write t px).read t = some px :=
  lookup_insertTile_self t px p.tiles

theorem Panel.read_write_ne (p : Panel) (t u : Nat) (px : Pixels) (h : u ≠ t) :
    (p.write t px).read u = p.read u :=
  lookup_insertTile_ne t u px p.tiles h

end Sys2Proof.Machine
end

