-- ==== Sys2Proof/Laws/Maps.lean ====
section
/-! SUPPORT. What the map of a build holds at each tile, and that it is in canonical form. -/

namespace Sys2Proof.Machine

theorem lookup_filterMap_range (f : Nat → TileEntry) (n t : Nat) :
    (((List.range n).filterMap fun u => if f u = TileEntry.empty then none else some (u, f u)).lookup t).getD
      TileEntry.empty = if t < n then f t else TileEntry.empty := by
  induction n with
  | zero => simp
  | succ n ih =>
    rw [List.range_succ, List.filterMap_append, List.lookup_append]
    by_cases hn : f n = TileEntry.empty
    · simp only [List.filterMap_cons, List.filterMap_nil, hn, if_true]
      rw [List.lookup_nil, Option.or_none, ih]
      by_cases h1 : t < n
      · rw [if_pos h1, if_pos (by omega)]
      · rw [if_neg h1]
        by_cases h2 : t = n
        · subst h2; rw [if_pos (by omega), hn]
        · rw [if_neg (by omega)]
    · simp only [List.filterMap_cons, List.filterMap_nil, hn, if_false]
      by_cases h2 : t = n
      · subst h2
        have hx : ((List.range t).filterMap fun u =>
            if f u = TileEntry.empty then none else some (u, f u)).lookup t = none := by
          rw [List.lookup_eq_none_iff]
          intro p hp
          simp only [List.mem_filterMap, List.mem_range] at hp
          obtain ⟨a, ha, e⟩ := hp
          split at e
          · cases e
          · cases e
            simp; omega
        rw [hx]
        simp
      · have hb : (t == n) = false := by simpa using h2
        have hl : ([(n, f n)] : List (Nat × TileEntry)).lookup t = none := by simp [List.lookup, hb]
        rw [hl, Option.or_none, ih]
        by_cases h1 : t < n
        · rw [if_pos h1, if_pos (by omega)]
        · rw [if_neg h1, if_neg (by omega)]

/-- The entry of a tile in the map of a build; a tile off the panel has the empty entry (R60, R61). -/
theorem Build.map_entry (b : Build) (t : Nat) :
    b.map.entry t = if t < Config.tileCount then b.entryAt t else TileEntry.empty := by
  have h := lookup_filterMap_range b.entryAt Config.tileCount t
  simp only [Map.entry, Build.map]
  exact h

@[simp] theorem Build.map_layout (b : Build) : b.map.layout = b.layout := by
  simp only [Build.map]

/-- The binding list of a stream in the map of a build (R62). -/
theorem Build.map_bindings (b : Build) (n : Fin 8) :
    b.map.bindings[n] = b.kept.filterMap fun k => k.2.binding b.geometry n k.1 := by
  simp only [Build.map]
  exact Vec.tabulate_get _ n

/-- The owner of a tile in the map of a build (R60). -/
theorem Build.map_owner (b : Build) (t : Nat) (h : t < Config.tileCount) : b.map.owner t = b.ownerAt t := by
  simp only [Map.owner, Build.map_entry, if_pos h, Build.entryAt]

/-- The Changed mark of a tile in the map of a build (R61). -/
theorem Build.map_changed (b : Build) (t : Nat) (h : t < Config.tileCount) :
    b.map.changed t = decide (b.ownerAt t ≠ b.reference.owner t) := by
  simp only [Map.changed, Build.map_entry, if_pos h, Build.entryAt]

/-- An empty map has Owner 0 and Changed clear in every tile (R45). -/
@[simp] theorem Map.empty_entry (l : Layout) (t : Nat) : (Map.empty l).entry t = TileEntry.empty := rfl

@[simp] theorem Map.empty_owner (l : Layout) (t : Nat) : (Map.empty l).owner t = none := rfl

@[simp] theorem Map.empty_changed (l : Layout) (t : Nat) : (Map.empty l).changed t = false := rfl

@[simp] theorem Map.empty_ownedCount (l : Layout) (i : Slot) : (Map.empty l).ownedCount i = 0 := rfl

/-- What stands at a place of a table made by a function. -/
theorem snapshot_startBuild (s : State) (k : BuildKind) (i : Slot) :
    ((Vec.tabulate fun j => (s.record j).contribution k s.transition.commitJoined : Vector Contribution 32))[i]
      = (s.record i).contribution k s.transition.commitJoined :=
  Vec.tabulate_get _ i

/-- A started build has In Build set on the records it includes, and changes nothing else of a record (R32, R33). -/
theorem record_startBuild (s : State) (k : BuildKind) (l : Layout) (i : Slot) :
    (s.startBuild k l).record i =
      { s.record i with
        inBuild := (s.record i).inBuild || ((s.record i).contribution k s.transition.commitJoined).included } := by
  unfold State.startBuild
  dsimp only
  rw [record_mapRecords, Vec.tabulate_get]
  rfl

end Sys2Proof.Machine
end

