-- ==== Sys2Proof/Laws/Ops.lean ====
section
/-! SUPPORT. What the shared operations do, one equation for each case, so that no proof opens their definitions:
flags, messages, jobs, activities, and the reports of activities and claims. -/

namespace Sys2Proof.Machine

/-! ## Reset inputs -/

theorem inReset_iff (s : State) : s.inReset = false ↔ s.pins.resetn = false ∧ s.pins.drstn = false := by
  simp [State.inReset]

/-! ## Flags -/

/-- Outside the resets a flag is set in the port alone (R182). -/
theorem setFlag_eq (s : State) (f : EventFlag) (h : s.inReset = false) :
    s.setFlag f = { s with port := { s.port with flags := s.port.flags ||| f.bit } } := by
  simp [State.setFlag, h]

/-- While a reset input is asserted no flag is set (R185). -/
theorem setFlag_of_inReset (s : State) (f : EventFlag) (h : s.inReset = true) : s.setFlag f = s := by
  simp [State.setFlag, h]

/-- The bit of a flag has a 1 in the place of that flag alone (R186). -/
theorem bit_place (f g : EventFlag) : f.bit.getLsbD g.place = decide (f = g) := by
  cases f <;> cases g <;> decide

/-- The places of the flags are those of the fourteen (R186). -/
theorem place_lt (f : EventFlag) : f.place < 14 := by cases f <;> decide

/-- A flag set is set, and the others stand (R182). -/
theorem flag_setFlag (s : State) (f g : EventFlag) (h : s.inReset = false) :
    (s.setFlag f).flag g = (s.flag g || decide (f = g)) := by
  rw [setFlag_eq s f h]
  simp [State.flag, bit_place]

/-! ## Messages and jobs -/

/-- Outside the resets the zone's wanted message takes its slot (R153). -/
theorem placeMessage_eq (s : State) (z : Zone) (h : s.inReset = false) :
    s.placeMessage z = { s with link := { s.link with slots := s.link.slots.set z (some (s.zoneState z).wanted) } } := by
  simp [State.placeMessage, h]

/-- While a reset input is asserted no message is placed (R165). -/
theorem placeMessage_of_inReset (s : State) (z : Zone) (h : s.inReset = true) : s.placeMessage z = s := by
  simp [State.placeMessage, h]

/-- Queuing a job changes the fill queue alone (R101). -/
theorem queueJob_eq (s : State) (k : Key) :
    s.queueJob k = { s with fill := { s.fill with
      queue := if k ∈ s.fill.queue then s.fill.queue else s.fill.queue ++ [k] } } := by
  unfold State.queueJob
  split <;> rfl

/-- Removing a job takes its key from the queue and stops it where it is in progress (R106). -/
theorem removeJob_eq (s : State) (k : Key) :
    s.removeJob k = { s with
      fill := { s.fill with queue := s.fill.queue.filter fun q => q ≠ k
                            job := if s.jobIs k then none else s.fill.job }
      link := { s.link with fillWaiting := if s.jobIs k then none else s.link.fillWaiting } } := by
  unfold State.removeJob
  cases h : s.jobIs k <;> simp [State.stopJob, State.jobIs] at h ⊢

/-! ## Activities -/

/-- An activity that the mask does not admit, or in a zone that is neither ON nor DIM, changes nothing (R155). -/
theorem activity_none (s : State) (a : Activity) (z : Zone)
    (h : (s.zoneState z).admits a = false ∨ (s.zoneState z).mode = .off ∨ (s.zoneState z).mode = .tripped) :
    s.activity a z = s := by
  rcases h with h | h | h <;> simp [State.activity, h]

/-- An admitted activity in an ON zone restarts its idle timer (R155). -/
theorem activity_on (s : State) (a : Activity) (z : Zone) (hr : s.inReset = false)
    (ha : (s.zoneState z).admits a = true) (hm : (s.zoneState z).mode = .on) :
    s.activity a z = s.updZone z ZoneState.turnOn := by
  simp [State.activity, hr, ha, hm]

/-- An admitted activity in a DIM zone returns it to ON and places its message (R156). -/
theorem activity_dim (s : State) (a : Activity) (z : Zone) (hr : s.inReset = false)
    (ha : (s.zoneState z).admits a = true) (hm : (s.zoneState z).mode = .dim) :
    s.activity a z = (s.updZone z ZoneState.turnOn).placeMessage z := by
  simp [State.activity, hr, ha, hm]

/-! ## Claims -/

/-- An engine that is not IDLE takes no claim (R52). -/
theorem takeClaim_busy (s : State) (h : s.engine.phase ≠ .idle) : s.takeClaim = s := by
  unfold State.takeClaim
  split <;> first | rfl | (rename_i hp; exact absurd hp h)

/-- With no claim waiting an IDLE engine stays IDLE (R52). -/
theorem takeClaim_none (s : State) (h : s.engine.claims.waits = false) : s.takeClaim = s := by
  unfold State.takeClaim
  simp only [Claims.waits, Bool.or_eq_false_iff] at h
  obtain ⟨⟨h1, h2⟩, h3⟩ := h
  split
  · rw [h1]
    simp only [Bool.false_eq_true, if_false]
    split
    · rename_i l hl
      simp [hl] at h2
    · rw [h3]
      rfl
  · rfl
  · rfl
  · rfl

/-- A drain goes on while a frame of the held epoch is open, and else ends (R69). -/
theorem drainTest_draining (s : State) (m : Map) (e : BitVec 16) (h : s.engine.phase = .draining m e) :
    s.drainTest = if s.frameOpenWith e then s else s.enterIdle := by
  simp [State.drainTest, h]

/-- With no drain on there is nothing to test (R69). -/
theorem drainTest_else (s : State) (h : ∀ m e, s.engine.phase ≠ .draining m e) : s.drainTest = s := by
  unfold State.drainTest
  split
  · rename_i m e hp
    exact absurd hp (h m e)
  · rfl
  · rfl
  · rfl

/-- A frame with a stamp is open (R68). -/
theorem frameOpenWith_iff (s : State) (e : BitVec 16) :
    s.frameOpenWith e = true ↔ ∃ (n : Fin 8) (f : Frame), s.router.streams[n].frame = some f ∧ f.stamp = e := by
  simp only [State.frameOpenWith, List.any_eq_true, Option.any_eq_true]
  constructor
  · rintro ⟨st, hst, f, hf, he⟩
    obtain ⟨i, hi, rfl⟩ := List.getElem_of_mem hst
    refine ⟨⟨i, by simpa using hi⟩, f, ?_, by simpa using he⟩
    simpa using hf
  · rintro ⟨n, f, hf, he⟩
    exact ⟨s.router.streams[n], by simp, f, hf, by simpa using he⟩

end Sys2Proof.Machine
end

