-- ==== Sys2Proof/Laws/PerInstr.lean ====
section
/-! SUPPORT. What well-formedness says of each command, one lemma for each constructor of Instr. -/

namespace Sys2Proof.Laws.Shape

/-- The edges of a well-formed measurement rise one after another (R111). -/
theorem pairwise_of_rising : ∀ edges : List Nat, risingTimes edges = true → edges.Pairwise (· < ·)
  | [], _ => List.Pairwise.nil
  | [a], _ => List.pairwise_singleton _ a
  | a :: b :: rest, h => by
    simp only [risingTimes, Bool.and_eq_true, decide_eq_true_eq] at h
    have hb := pairwise_of_rising (b :: rest) h.2
    refine List.Pairwise.cons ?_ hb
    intro c hc
    rcases List.mem_cons.mp hc with rfl | hc
    · exact h.1
    · exact Nat.lt_trans h.1 (List.rel_of_pairwise_cons hb hc)

/-- The operands of a well-formed command are such as the hardware can meet: a packet is one that the router takes, a
discarded packet is none, a rejected write carries bytes that spell no lookup, and the edges of a measurement rise. -/
def Statement (i : Instr) : Prop :=
  i.wellFormed = true →
    match i with
    | .frameBegin s _ _ => s.toNat ≤ 7
    | .tileRun s _ c tiles => s.toNat ≤ 7 ∧ tiles.length = c.toNat ∧ ∀ px ∈ tiles, px.length = 256
    | .frameEnd s => s.toNat ≤ 7
    | .discardedPacket bytes => parsePacket bytes = none
    | .rejectedWrite bytes => bytes ≠ [] ∧ parseLookup bytes = none
    | .measurementComplete edges => edges.Pairwise (· < ·)
    | _ => True

theorem request (frame : List Byte) : Statement (.request frame) := fun _ => trivial

theorem response : Statement .response := fun _ => trivial

theorem status : Statement .status := fun _ => trivial

theorem unknownKindTransaction : Statement .unknownKindTransaction := fun _ => trivial

theorem statusRead : Statement .statusRead := fun _ => trivial

theorem eventClear : Statement .eventClear := fun _ => trivial

theorem eventMask : Statement .eventMask := fun _ => trivial

theorem geometrySet : Statement .geometrySet := fun _ => trivial

theorem geometryRead : Statement .geometryRead := fun _ => trivial

theorem keepoutSet : Statement .keepoutSet := fun _ => trivial

theorem keepoutClear : Statement .keepoutClear := fun _ => trivial

theorem keepoutRead : Statement .keepoutRead := fun _ => trivial

theorem regionCreate : Statement .regionCreate := fun _ => trivial

theorem regionPlace : Statement .regionPlace := fun _ => trivial

theorem regionAttributes : Statement .regionAttributes := fun _ => trivial

theorem regionRetire : Statement .regionRetire := fun _ => trivial

theorem regionDiscard : Statement .regionDiscard := fun _ => trivial

theorem regionRead : Statement .regionRead := fun _ => trivial

theorem regionList : Statement .regionList := fun _ => trivial

theorem tableSet : Statement .tableSet := fun _ => trivial

theorem commit : Statement .commit := fun _ => trivial

theorem mapRead : Statement .mapRead := fun _ => trivial

theorem streamSet : Statement .streamSet := fun _ => trivial

theorem streamRead : Statement .streamRead := fun _ => trivial

theorem backgroundSet : Statement .backgroundSet := fun _ => trivial

theorem scanSet : Statement .scanSet := fun _ => trivial

theorem fillRead : Statement .fillRead := fun _ => trivial

theorem postureSet : Statement .postureSet := fun _ => trivial

theorem postureRead : Statement .postureRead := fun _ => trivial

theorem layoutReady : Statement .layoutReady := fun _ => trivial

theorem layoutPin : Statement .layoutPin := fun _ => trivial

theorem layoutUnpin : Statement .layoutUnpin := fun _ => trivial

theorem transitionAbort : Statement .transitionAbort := fun _ => trivial

theorem transitionSet : Statement .transitionSet := fun _ => trivial

theorem transitionRead : Statement .transitionRead := fun _ => trivial

theorem zoneMode : Statement .zoneMode := fun _ => trivial

theorem zoneTable : Statement .zoneTable := fun _ => trivial

theorem zoneIdle : Statement .zoneIdle := fun _ => trivial

theorem zoneRestore : Statement .zoneRestore := fun _ => trivial

theorem zoneRead : Statement .zoneRead := fun _ => trivial

theorem lookup : Statement .lookup := fun _ => trivial

theorem verify : Statement .verify := fun _ => trivial

theorem point (x y : BitVec 16) : Statement (.point x y) := fun _ => trivial

theorem lookupPortVerify (r g : Byte) (x y : BitVec 16) : Statement (.lookupPortVerify r g x y) := fun _ => trivial

theorem rejectedWrite (bytes : List Byte) : Statement (.rejectedWrite bytes) := by
  intro h'
  simpa [Instr.wellFormed] using h'

theorem answerRead : Statement .answerRead := fun _ => trivial

theorem frameBegin (s w h : Byte) : Statement (.frameBegin s w h) := by
  intro h'
  simpa [Instr.wellFormed, Packet.taken] using h'

theorem tileRun (s : Byte) (i : BitVec 16) (c : Byte) (tiles : List Pixels) : Statement (.tileRun s i c tiles) := by
  intro h'
  simpa [Instr.wellFormed, Packet.taken, and_assoc] using h'

theorem streamTile : Statement .streamTile := fun _ => trivial

theorem frameEnd (s : Byte) : Statement (.frameEnd s) := by
  intro h'
  simpa [Instr.wellFormed, Packet.taken] using h'

theorem discardedPacket (bytes : List Byte) : Statement (.discardedPacket bytes) := by
  intro h'
  simpa [Instr.wellFormed] using h'

theorem frameTimerExpiry (n : Fin 8) : Statement (.frameTimerExpiry n) := fun _ => trivial

theorem buildComplete : Statement .buildComplete := fun _ => trivial

theorem scanStart : Statement .scanStart := fun _ => trivial

theorem substituteScanStart : Statement .substituteScanStart := fun _ => trivial

theorem transferComplete : Statement .transferComplete := fun _ => trivial

theorem fillJobComplete : Statement .fillJobComplete := fun _ => trivial

theorem intervalTimerExpiry : Statement .intervalTimerExpiry := fun _ => trivial

theorem measurementComplete (edges : List Nat) : Statement (.measurementComplete edges) := fun h => pairwise_of_rising edges h

theorem prepareTimerExpiry : Statement .prepareTimerExpiry := fun _ => trivial

theorem zoneFaultRise (z : Zone) : Statement (.zoneFaultRise z) := fun _ => trivial

theorem zoneFaultFall (z : Zone) : Statement (.zoneFaultFall z) := fun _ => trivial

theorem idleTimerExpiry (z : Zone) : Statement (.idleTimerExpiry z) := fun _ => trivial

theorem resetnAssert : Statement .resetnAssert := fun _ => trivial

theorem resetnRelease (addrsel : Bool) : Statement (.resetnRelease addrsel) := fun _ => trivial

theorem drstnAssert : Statement .drstnAssert := fun _ => trivial

theorem drstnRelease : Statement .drstnRelease := fun _ => trivial

end Sys2Proof.Laws.Shape
end

