-- ==== Sys2Proof/Laws/Requests.lean ====
section
/-! SUPPORT. How the decision of a held request, a refusal and a taken request read, what the bytes returned beyond a
frame are, and what a transaction puts in the queue. -/

namespace Sys2Proof.Machine

/-- The held request with a row's code is decided by the row. -/
theorem decideRequest_held (code : Byte) (d : List Byte → State → Decision) (s : State) (params : List Byte)
    (h : s.port.request = some { code, params }) :
    decideRequest code d s = .next ((d params s).respond code) := by
  simp [decideRequest, h]

/-- With no held request a decision does not arrive (log entry 4). -/
theorem decideRequest_none (code : Byte) (d : List Byte → State → Decision) (s : State)
    (h : s.port.request = none) : decideRequest code d s = .next s := by
  simp [decideRequest, h]

/-- Every decision command answers a next state. -/
theorem decideRequest_next (code : Byte) (d : List Byte → State → Decision) (s : State) :
    ∃ t, decideRequest code d s = .next t := by
  unfold decideRequest
  split
  · split
    · exact ⟨_, rfl⟩
    · exact ⟨_, rfl⟩
  · exact ⟨_, rfl⟩

@[simp] theorem respond_request (d : Decision) (code : Byte) : (d.respond code).port.request = none := rfl

@[simp] theorem respond_response (d : Decision) (code : Byte) :
    (d.respond code).port.response = some { code, result := d.result, data := d.data } := rfl

@[simp] theorem respond_pending (d : Decision) (code : Byte) : (d.respond code).pending = d.state.pending := rfl

@[simp] theorem withoutParams_nil (d : State → Decision) (s : State) : withoutParams d [] s = d s := rfl

@[simp] theorem withoutParams_cons (d : State → Decision) (b : Byte) (ps : List Byte) (s : State) :
    withoutParams d (b :: ps) s = refused .badParam s := rfl

/-! ## Bytes returned -/

/-- A byte of the frame is returned as it is (R179). -/
theorem frameByte_within (frame : List Byte) (k : Nat) (h : k < frame.length) : frameByte frame k = frame[k] := by
  simp [frameByte, h]

/-- Beyond the frame the part returns 00H (R167, R179). -/
theorem frameByte_beyond (frame : List Byte) (k : Nat) (h : frame.length ≤ k) : frameByte frame k = 0x00 := by
  simp [frameByte, List.getElem?_eq_none h]

/-- The free bytes of a report are no more than there is room for (R186). -/
theorem freeBytes_length (d : Data) (room : Nat) : (d.freeBytes room).length ≤ room := by
  simp only [Data.freeBytes, List.length_map, List.length_range]
  exact Nat.min_le_right _ _

/-- STATUS READ's data is its free bytes and the two of the event flags (R186). -/
theorem statusData_length (r : StatusReport) :
    r.frame.length = ((Data.status r).freeBytes 122).length + 2 := by
  simp only [StatusReport.frame, bytes16, List.length_append, List.length_take, List.length_drop, List.length_cons,
    List.length_nil]
  omega

/-- The event flags stand in STATUS READ's data as a 16-bit number in their places (R186). -/
theorem statusData_flags (r : StatusReport) :
    ∃ before after : List Byte, r.frame = before ++ bytes16 (r.flags.zeroExtend 16) ++ after :=
  ⟨_, _, rfl⟩

/-- Response data is at most 124 bytes (R186). -/
theorem dataFrame_length (d : Data) : d.frame.length ≤ 124 := by
  cases d
  case empty => exact Nat.zero_le _
  case answer a => exact (by decide : 12 ≤ 124)
  case status r => exact (statusData_length r).le.trans (Nat.add_le_add_right (freeBytes_length _ 122) 2)
  all_goals exact freeBytes_length _ 124

/-- The first byte of a response frame echoes the Request Code (R186). -/
@[simp] theorem responseFrame_code (r : Response) : frameByte r.frame 0 = r.code := rfl

/-- The second byte of a response frame is the result (R186). -/
@[simp] theorem responseFrame_result (r : Response) : frameByte r.frame 1 = r.result.byte := rfl

/-- The third byte of a response frame is the number of data bytes (R186). -/
@[simp] theorem responseFrame_dataLength (r : Response) :
    frameByte r.frame 2 = BitVec.ofNat 8 r.data.frame.length := rfl

/-- An answer frame is 12 bytes (R186). -/
@[simp] theorem answerFrame_length (a : Answer) : a.frame.length = 12 := rfl

/-- A status frame is 3 bytes (R186). -/
@[simp] theorem statusFrame_length (portStatus : Byte) (flags : BitVec 16) :
    (statusFrame portStatus flags).length = 3 := rfl

/-- Beyond the 12 bytes of the answer a read of the lookup port returns 00H (R167). -/
theorem returnedByte_beyond (u : LookupUnit) (a : Answer) (k : Nat) (h : u.returned = some a) (hk : 12 ≤ k) :
    u.returnedByte k = some 0x00 := by
  rw [LookupUnit.returnedByte, h, Option.map_some, frameByte_beyond a.frame k hk]

/-! ## The kind byte and the end of a transaction -/

@[simp] theorem transactionCommand_request (frame : List Byte) :
    transactionCommand (0x01 :: frame) = some (.request frame) := rfl

@[simp] theorem transactionCommand_response (b : Byte) (sent : List Byte) :
    transactionCommand (0x02 :: b :: sent) = some .response := rfl

@[simp] theorem transactionCommand_status (b : Byte) (sent : List Byte) :
    transactionCommand (0x03 :: b :: sent) = some .status := rfl

@[simp] theorem transactionCommand_response_alone : transactionCommand [0x02] = none := rfl

@[simp] theorem transactionCommand_status_alone : transactionCommand [0x03] = none := rfl

@[simp] theorem transactionCommand_nil : transactionCommand [] = some .unknownKindTransaction := rfl

/-- Any other kind byte is a transaction without effect (R179). -/
theorem transactionCommand_other (kind : Byte) (sent : List Byte) (h1 : kind ≠ 0x01) (h2 : kind ≠ 0x02)
    (h3 : kind ≠ 0x03) : transactionCommand (kind :: sent) = some .unknownKindTransaction := by
  unfold transactionCommand
  split <;> simp_all

/-- A reset input is asserted among commands exactly where one of its two commands is there. -/
theorem any_assertsReset (during : List Instr) :
    during.any Instr.assertsReset = true ↔ Instr.resetnAssert ∈ during ∨ Instr.drstnAssert ∈ during := by
  simp only [List.any_eq_true]
  constructor
  · rintro ⟨c, hc, h⟩
    cases c <;> simp_all [Instr.assertsReset]
  · rintro (h | h)
    · exact ⟨_, h, rfl⟩
    · exact ⟨_, h, rfl⟩

/-- A transaction during which a reset input is asserted gives no command (R166, R179). -/
theorem transaction_abandoned (early late : List Instr) (command : Option Instr) (s : State)
    (h : Instr.resetnAssert ∈ early ++ late ∨ Instr.drstnAssert ∈ early ++ late) :
    s.transaction early late command = { s with pending := s.pending ++ (early ++ late) } := by
  rw [State.transaction, (any_assertsReset _).mpr h]
  simp

/-- Any other transaction gives its command, before what comes after the moment that fixes it (R166, R179, R181). -/
theorem transaction_ends (early late : List Instr) (command : Option Instr) (s : State)
    (h1 : Instr.resetnAssert ∉ early ++ late) (h2 : Instr.drstnAssert ∉ early ++ late) :
    s.transaction early late command = { s with pending := s.pending ++ early ++ command.toList ++ late } := by
  have h : (early ++ late).any Instr.assertsReset = false :=
    Bool.eq_false_iff.mpr fun e => ((any_assertsReset _).mp e).elim h1 h2
  rw [State.transaction, h]
  simp

/-- A transaction without a command changes nothing but what comes while it runs. -/
theorem transaction_silent (early late : List Instr) (s : State) :
    s.transaction early late none = { s with pending := s.pending ++ (early ++ late) } := by
  unfold State.transaction
  split <;> simp

/-- A control port transaction changes the queue alone (R179). -/
theorem portTransaction_frame (early late : List Instr) (bytes : List Byte) (s : State) :
    s.portTransaction early late bytes = { s with pending := (s.portTransaction early late bytes).pending } := by
  unfold State.portTransaction
  split <;> rfl

/-! ## The bus of the lookup port -/

/-- With no command waiting the port acknowledges its own address alone, outside the resets (R166, R178). -/
theorem acknowledges_now (address : BitVec 7) (s : State) (h : s.pending = []) :
    s.acknowledges address = true ↔ s.inReset = false ∧ address = s.lookup.address := by
  simp [State.acknowledges, State.target, State.inReset, h]

/-- A write that the port does not acknowledge gives no command (R166). -/
theorem lookupWrite_unacknowledged (address : BitVec 7) (during : List Instr) (bytes : List Byte) (s : State)
    (h : s.acknowledges address = false) :
    s.lookupWrite address during bytes = { s with pending := s.pending ++ during } := by
  rw [State.lookupWrite, h]
  simp [transaction_silent]

/-- A write that the port acknowledges is a transaction of the command that its bytes make (R166). -/
theorem lookupWrite_acknowledged (address : BitVec 7) (during : List Instr) (bytes : List Byte) (s : State)
    (h : s.acknowledges address = true) :
    s.lookupWrite address during bytes = s.transaction during [] (some (writeCommand bytes)) := by
  rw [State.lookupWrite, h]
  rfl

/-- A write of the lookup port changes the queue alone (R166). -/
theorem lookupWrite_frame (address : BitVec 7) (during : List Instr) (bytes : List Byte) (s : State) :
    s.lookupWrite address during bytes = { s with pending := (s.lookupWrite address during bytes).pending } := rfl

/-- A read that the port does not acknowledge gives no command (R166). -/
theorem lookupRead_unacknowledged (address : BitVec 7) (late : List Instr) (s : State)
    (h : s.acknowledges address = false) : s.lookupRead address late = { s with pending := s.pending ++ late } := by
  rw [State.lookupRead, h]
  simp [transaction_silent]

/-- A read that the port acknowledges is a transaction whose command comes as it begins (R166, R167). -/
theorem lookupRead_acknowledged (address : BitVec 7) (late : List Instr) (s : State)
    (h : s.acknowledges address = true) : s.lookupRead address late = s.transaction [] late (some .answerRead) := by
  rw [State.lookupRead, h]
  rfl

/-- While no reset input is asserted, commands that assert none leave the reset inputs and the address (R166). -/
theorem foldl_targetAfter (cs : List Instr) (t : Target) (hr : t.resetn = false) (hd : t.drstn = false)
    (h : cs.any Instr.assertsReset = false) : cs.foldl Target.after t = t := by
  induction cs with
  | nil => rfl
  | cons c cs ih =>
    simp only [List.any_cons, Bool.or_eq_false_iff] at h
    have e : t.after c = t := by
      obtain ⟨r, d, a⟩ := t
      cases c <;> simp_all [Target.after, Instr.assertsReset]
    rw [List.foldl_cons, e, ih h.2]

/-- A port that acknowledges an address still does after commands that assert no reset input (R166). -/
theorem acknowledges_append (address : BitVec 7) (cs : List Instr) (s : State) (h : s.acknowledges address = true)
    (hc : cs.any Instr.assertsReset = false) :
    State.acknowledges address { s with pending := s.pending ++ cs } = true := by
  have h' := h
  simp only [State.acknowledges, Bool.and_eq_true, Bool.not_eq_true', decide_eq_true_eq] at h'
  have e : (s.pending ++ cs).foldl Target.after s.target = s.pending.foldl Target.after s.target := by
    rw [List.foldl_append, foldl_targetAfter cs _ h'.1.1 h'.1.2 hc]
  rw [← h]
  simp only [State.acknowledges]
  exact congrArg (fun t : Target => !t.resetn && !t.drstn && decide (address = t.address)) e

/-- The bytes of a write make no assertion of a reset input (R166). -/
theorem writeCommand_assertsReset (bytes : List Byte) : (writeCommand bytes).assertsReset = false := by
  unfold writeCommand
  split <;> rfl

/-- A joined write and read whose write a reset input cuts off gives no command (R166; log entry 28). -/
theorem lookupWriteRead_abandoned (address : BitVec 7) (during late : List Instr) (bytes : List Byte) (s : State)
    (h : s.acknowledges address = true) (hr : during.any Instr.assertsReset = true) :
    s.lookupWriteRead address during late bytes = { s with pending := s.pending ++ during ++ late } := by
  rw [State.lookupWriteRead, h, hr]
  rfl

/-- A joined write and read whose write is not cut off: the lookup, then the read as a transaction that the port
acknowledges (R166). -/
theorem lookupWriteRead_served (address : BitVec 7) (during late : List Instr) (bytes : List Byte) (s : State)
    (h : s.acknowledges address = true) (hr : during.any Instr.assertsReset = false) :
    s.lookupWriteRead address during late bytes =
      State.transaction [] late (some .answerRead)
        { s with pending := s.pending ++ during ++ [writeCommand bytes] } := by
  have w : s.lookupWrite address during bytes = { s with pending := s.pending ++ (during ++ [writeCommand bytes]) } := by
    rw [lookupWrite_acknowledged address during bytes s h, State.transaction]
    simp only [List.append_nil, hr, Bool.false_eq_true, if_false, Option.toList_some, List.append_assoc]
  have a : (s.lookupWrite address during bytes).acknowledges address = true := by
    rw [w]
    exact acknowledges_append address _ s h (by simp [hr, writeCommand_assertsReset])
  rw [State.lookupWriteRead, h, hr, Bool.and_false, if_neg Bool.false_ne_true,
    lookupRead_acknowledged address late _ a, w, List.append_assoc]

/-- A joined write and read changes the queue alone (R166). -/
theorem lookupWriteRead_frame (address : BitVec 7) (during late : List Instr) (bytes : List Byte) (s : State) :
    s.lookupWriteRead address during late bytes =
      { s with pending := (s.lookupWriteRead address during late bytes).pending } := by
  unfold State.lookupWriteRead
  split <;> rfl

/-- A read of the lookup port changes the queue alone (R166). -/
theorem lookupRead_frame (address : BitVec 7) (late : List Instr) (s : State) :
    s.lookupRead address late = { s with pending := (s.lookupRead address late).pending } := rfl

end Sys2Proof.Machine
end

