-- ==== Sys2Proof/Tests/Slice0.lean ====
section
/-! SUPPORT. The model's own tests: ill-formed commands that the check refuses, worked examples of the spec, and for
each statement with hypotheses a state and operands that meet them. -/

namespace Sys2Proof.Tests

open Sys2Proof.Machine

set_option Elab.async false

/-! ## Small states -/

/-- The state right after reset with a request held. -/
def asking (code : Byte) (params : List Byte) : State :=
  { State.reset with port := { State.reset.port with request := some { code, params } } }

/-- A state with a request held. -/
def asks (code : Byte) (params : List Byte) (s : State) : State :=
  { s with port := { s.port with request := some { code, params } } }

/-- A command answers a next state of which a test holds. -/
def answers (o : Host.Outcome State Fault Refusal) (p : State → Bool) : Bool :=
  match o with
  | .next s => p s
  | _ => false

/-- The response buffer holds a response with a result. -/
def replied (r : Result) (s : State) : Bool := s.port.response.any fun x => x.result = r

/-- The first slot, that of Region ID 1. -/
def one : Slot := 0

/-- A part on FRONT that shows a colour: the columns 0 to 3 and rows 0 to 1 of the face. -/
def part : Part :=
  { face := .front, rect := { baseCol := 0, baseRow := 0, limitCol := 3, limitRow := 1 }, zLevel := 2,
    source := .fill 0x102030 }

/-- A part on FRONT that shows stream 1. -/
def streamPart : Part := { part with source := .stream 1 0 0 }

/-- A content with one part for FOLDED. -/
def content (p : Part) : Content := { attributes := Attributes.default, folded := some p, unfolded := none }

/-- A STAGED record. -/
def staged : Record :=
  { Record.free 1 with lifecycle := .staged, commitPending := true, pending := some (content part) }

/-- An IN_SERVICE record that is SHOWN. -/
def shown (p : Part) : Record :=
  { Record.free 1 with lifecycle := .inService, showing := .shown, live := some (content p) }

/-- The first slot holds a record. -/
def withOne (r : Record) (s : State) : State := s.updRecord one fun _ => r

/-- The engine is in a phase. -/
def withPhase (p : EnginePhase) (s : State) : State := { s with engine := { s.engine with phase := p } }

/-- The Transition Controller is in a state, on its way to UNFOLDED. -/
def inTransition (q : TransitionState) (s : State) : State :=
  { s with transition := { s.transition with state := q, target := some .unfolded } }

/-- A build of a kind with nothing in it. -/
def emptyBuild (kind : BuildKind) (layout : Layout) : Build :=
  { kind, layout, snapshot := Vec.tabulate fun _ => .absent, geometry := State.reset.geometry,
    reference := Map.empty .folded }

/-- Stream 1 has an open frame of 2 by 2 tiles at a Next Index, its timer running or not. -/
def withFrame (next : Nat) (timer : Option Nat) (s : State) : State :=
  s.updStream 1 fun st =>
    { st with frame := some { stamp := 0, width := 2, height := 2, next, malformed := false, timer } }

/-- The pixels of a tile in one colour. -/
def tile (c : Colour) : Pixels := List.replicate 256 c

/-- A stream tile write. -/
def streamWrite (t : Nat) : TileWrite := { tile := t, pixels := tile 7, kind := .stream }

/-- The link is FREE and nothing waits on it. -/
def quiet : State := { State.reset with link := Link.inReset 40, fill := Fill.reset }

/-- RESETN is asserted; nothing is on the link. -/
def stillHeld : State := State.held

/-! ## Ill-formed commands -/

theorem test_wellFormed_packets :
    (Instr.frameBegin 8 1 1).wellFormed = false ∧ (Instr.frameEnd 8).wellFormed = false
      ∧ (Instr.tileRun 8 0 0 []).wellFormed = false ∧ (Instr.tileRun 0 0 1 []).wellFormed = false
      ∧ (Instr.tileRun 0 0 1 [[0]]).wellFormed = false ∧ (Instr.tileRun 0 0 1 [tile 0]).wellFormed = true := by
  decide +kernel

theorem test_wellFormed_discarded :
    (Instr.discardedPacket [0x03, 0x07]).wellFormed = false ∧ (Instr.discardedPacket [0x03, 0x08]).wellFormed = true
      ∧ (Instr.discardedPacket []).wellFormed = true := by
  decide

theorem test_wellFormed_rejected :
    (Instr.rejectedWrite []).wellFormed = false
      ∧ (Instr.rejectedWrite [0x01, 0, 0, 0, 0]).wellFormed = false
      ∧ (Instr.rejectedWrite [0x01, 0, 0, 0]).wellFormed = true := by
  decide

theorem test_wellFormed_edges :
    (Instr.measurementComplete [3, 3]).wellFormed = false ∧ (Instr.measurementComplete [3, 4]).wellFormed = true := by
  decide

/-! ## How State.reset comes about -/

theorem test_release_gives_reset :
    answers (step { State.held with pending := [.resetnRelease false] }) (fun s => s = State.reset) = true := by
  decide +kernel

theorem test_word_spells_nothing : decodeTableWord 8 0 = none ∧ State.reset.withFetchWord 8 0 = State.reset := by
  decide +kernel

/-! ## The queue and the control port -/

theorem witness_StepRunsFront :
    { State.reset with pending := [.response] }.pending = .response :: [] ∧ State.reset.pending = [] := by
  decide +kernel

theorem witness_RequestTransaction :
    State.reset.inReset = false ∧ State.reset.port.request = none ∧ State.reset.port.response = none
      ∧ (0x81 : Byte) ∈ requestCodes ∧ (List.replicate 60 (0 : Byte)).length ≤ 60
      ∧ (asking 0x01 []).inReset = false ∧ (asking 0x01 []).port.request ≠ none ∧ State.held.inReset = true
      ∧ (0x00 : Byte) ∉ requestCodes ∧ 60 < (61 : Byte).toNat ∧ ([] : List Byte).length < (1 : Byte).toNat := by
  decide +kernel

theorem test_request_results :
    answers (exec (.request [0x40, 0x01, 0x05, 0xFF]) State.reset)
        (fun s => s.port.request = some { code := 0x40, params := [0x05] }) = true
      ∧ answers (exec (.request [0x00, 0x00]) State.reset) (replied .badRequest) = true
      ∧ answers (exec (.request [0x40, 0x02, 0x05]) State.reset) (replied .badRequest) = true
      ∧ answers (exec (.request [0x01, 0x00]) (asking 0x01 []))
        (fun s => s.port.overrun && s.flag .portOverrun) = true := by
  decide +kernel

theorem witness_PortTransactions :
    let s : State := { State.reset with port := { State.reset.port with
      response := some { code := 1, result := .ok, data := .empty } } }
    s.inReset = false ∧ s.port.response = some { code := 1, result := .ok, data := .empty }
      ∧ State.reset.port.response = none ∧ State.held.inReset = true
      ∧ ({ code := 1, result := .ok, data := .empty } : Response).frame = [0x01, 0x00, 0x00]
      ∧ (0x00 : Byte) ≠ 0x01 ∧ (0x04 : Byte) ≠ 0x03
      ∧ Instr.drstnAssert ∈ [Instr.scanStart, .drstnAssert] ∧ Instr.resetnAssert ∉ [Instr.scanStart] := by
  decide +kernel

theorem test_transactions :
    transactionCommand [0x01, 0x40, 0x01, 0x05] = some (.request [0x40, 0x01, 0x05])
      ∧ transactionCommand [0x02, 0x01] = some .response ∧ transactionCommand [0x03, 0x00] = some .status
      ∧ transactionCommand [0x02] = none ∧ transactionCommand [0x03] = none
      ∧ transactionCommand [0x04] = some .unknownKindTransaction
      ∧ transactionCommand [] = some .unknownKindTransaction
      ∧ writeCommand [0x01, 0x04, 0x4A, 0, 5] = .point 1098 5 ∧ writeCommand [0x01] = .rejectedWrite [0x01]
      ∧ (State.reset.portTransaction [.scanStart] [.statusRead] [0x02, 0x00]).pending
        = [.scanStart, .response, .statusRead]
      ∧ (State.reset.portTransaction [.scanStart] [.statusRead] [0x02]).pending = [.scanStart, .statusRead]
      ∧ (State.reset.portTransaction [.scanStart] [.statusRead] [0x01, 0x01, 0x00]).pending
        = [.scanStart, .statusRead, .request [0x01, 0x00]]
      ∧ (State.reset.portTransaction [] [.drstnAssert] [0x01, 0x40]).pending = [.drstnAssert] := by
  decide +kernel

/-- A write on the bus of the lookup port: to its own address, to another one, cut by a reset, begun under a reset that
ends before the write does, and begun behind a release that gives the other address. -/
theorem test_lookup_bus :
    let held : State := { State.held with pending := [] }
    (State.reset.lookupWrite 0x3A [.scanStart] [0x01]).pending = [.scanStart, .rejectedWrite [0x01]]
      ∧ (State.reset.lookupWrite 0x3B [] [0x01]).pending = []
      ∧ (State.reset.lookupWrite 0x3A [.drstnAssert] [0x01]).pending = [.drstnAssert]
      ∧ (held.lookupWrite 0x3A [.resetnRelease false] [0x01]).pending = [.resetnRelease false]
      ∧ ({ held with pending := [.resetnRelease true] }.lookupWrite 0x3B [] [0x01]).pending
        = [.resetnRelease true, .rejectedWrite [0x01]]
      ∧ (State.reset.lookupRead 0x3A [.scanStart]).pending = [.answerRead, .scanStart]
      ∧ (State.reset.lookupRead 0x3C [.scanStart]).pending = [.scanStart]
      ∧ (State.reset.lookupRead 0x3A [.scanStart, .drstnAssert]).pending = [.scanStart, .drstnAssert] := by
  decide +kernel

/-- A write and a read joined by a repeated start: served, cut off in the read, cut off in the write by a reset that ends
before the repeated start, and begun under a reset that ends before it. -/
theorem test_lookup_bus_joined :
    (State.reset.lookupWriteRead 0x3A [.scanStart] [.drstnRelease] [0x01]).pending
      = [.scanStart, .rejectedWrite [0x01], .answerRead, .drstnRelease]
      ∧ (State.reset.lookupWriteRead 0x3A [] [.resetnAssert] [0x01]).pending = [.rejectedWrite [0x01], .resetnAssert]
      ∧ (State.reset.lookupWriteRead 0x3A [.drstnAssert, .drstnRelease] [.scanStart] [0x01]).pending
        = [.drstnAssert, .drstnRelease, .scanStart]
      ∧ State.held.acknowledges 0x3A = false
      ∧ (State.held.lookupWriteRead 0x3A [.resetnRelease false] [] [0x01]).pending
        = [.resetnRelease false, .answerRead] := by
  decide +kernel

theorem test_returned_bytes :
    (PortReturn.status 0x09 0x2001).byte 0 = some 0x09 ∧ (PortReturn.status 0x09 0x2001).byte 1 = some 0x20
      ∧ (PortReturn.status 0x09 0x2001).byte 2 = some 0x01 ∧ (PortReturn.status 0x09 0x2001).byte 3 = some 0x00
      ∧ PortReturn.zeros.byte 7 = some 0x00
      ∧ (PortReturn.response { code := 0x40, result := .badParam, data := .empty }).byte 1 = some 0x04
      ∧ (PortReturn.response { code := 0x20, result := .ok, data := .created 1 1 }).byte 0 = some 0x20
      ∧ (PortReturn.response { code := 0x20, result := .ok, data := .created 1 1 }).byte 1 = some 0x00
      ∧ answers (exec .answerRead State.reset) (fun t => t.lookup.returnedByte 0 = some 0x00
        && t.lookup.returnedByte 11 = some 0x00 && t.lookup.returnedByte 12 = some 0x00) = true
      ∧ answers (exec .answerRead (State.reset.putAnswer (Answer.zero .rejected)))
        (fun t => t.lookup.returnedByte 0 = some 0x09 && t.lookup.returnedByte 12 = some 0x00) = true := by
  decide +kernel

theorem witness_DecisionsAnswer :
    ((0x01, .statusRead) : Byte × Instr) ∈ decisionCommands ∧ (asking 0x01 []).Holds 0x01 []
      ∧ State.reset.port.request = none ∧ (asking 0x74 [0x00]).Holds 0x74 [0x00]
      ∧ (asking 0x60 [0x00]).Holds 0x60 [0x00] ∧ (asking 0x60 [0x00]).transition.state = .steady
      ∧ (asking 0x63 [0x00]).Holds 0x63 [0x00]
      ∧ (let s : State := { asking 0x63 [0x00] with transition := { Transition.reset with state := .settling } }
         s.Holds 0x63 [0x00] ∧ answers (exec .transitionAbort s) (replied .badParam) = true)
      ∧ (let s : State := { asking 0x30 [0x00] with transition := { Transition.reset with state := .blanking } }
         s.Holds 0x30 [0x00] ∧ answers (exec .commit s) (replied .badParam) = true) := by
  decide +kernel

theorem witness_EventFlags :
    (be16 0x3F 0xFF).toNat < 16384 ∧ 16384 ≤ (be16 0x40 0x00).toNat ∧ (asking 0x02 [0x3F, 0xFF]).Holds 0x02 [0x3F, 0xFF]
      ∧ (asking 0x03 [0x40, 0x00]).Holds 0x03 [0x40, 0x00]
      ∧ answers (exec .eventClear (State.setFlag .sensorLost (asking 0x02 [0x3F, 0xFF])))
        (fun t => !t.flag .sensorLost) = true := by
  decide +kernel

theorem witness_ReadRequests :
    (asking 0x01 []).Holds 0x01 [] ∧ (asking 0x14 []).Holds 0x14 [] ∧ (asking 0x51 []).Holds 0x51 [] := by
  decide +kernel

theorem test_streamRead_gives_no_timer :
    (withFrame 3 (some 50) State.reset).streamsReport = (withFrame 3 none State.reset).streamsReport
      ∧ (withFrame 3 none State.reset).streamsReport.streams[1]?.bind (fun st => st.frame)
        = some { stamp := 0, width := 2, height := 2, next := 3, malformed := false, stampActive := true } := by
  decide +kernel

theorem witness_TimedReadRequests :
    let job (p : Nat) : State := { asking 0x44 [] with fill := { Fill.reset with job := some { key := .blank, position := p } } }
    (job 14335).Holds 0x44 [] ∧ (job 14335).fill.job = some { key := .blank, position := 14335 }
      ∧ (job 14336).fill.job = some { key := .blank, position := 14336 }
      ∧ (asking 0x44 []).fill.job ≠ none
      ∧ (let s : State := { asking 0x65 [] with transition := { Transition.reset with prepareTimer := some 510 } }
         s.Holds 0x65 [] ∧ s.transition.prepareTimer = some 510)
      ∧ (∀ window ∈ [0, 2], let s : State := { asking 0x65 [] with transition :=
           { Transition.reset with prepareTimer := some window } }
         s.Holds 0x65 [] ∧ s.transition.prepareTimer = some window)
      ∧ (asking 0x74 []).Holds 0x74 []
      ∧ (((asking 0x74 []).updZone .spine fun q => { q with idleTimer := some 255 }).zoneState .spine).idleTimer
        = some 255
      ∧ (((asking 0x74 []).updZone .rear fun q => { q with idleTimer := some 1 }).zoneState .rear).idleTimer
        = some 1 := by
  decide +kernel

/-! ## Geometry and the keep-out list -/

theorem witness_GeometrySet :
    (asking 0x10 [80, 16]).inReset = false ∧ (asking 0x10 [80, 16]).Holds 0x10 [80, 16]
      ∧ (asking 0x10 [80, 16]).geometryLock = false
      ∧ (withOne staged (asking 0x10 [40, 4])).geometryLock = true
      ∧ (asking 0x10 [60, 8]).geometry = { spineStart := 60, spineWidth := 8 }
      ∧ (asking 0x10 [81, 4]).Holds 0x10 [81, 4] ∧ ¬ ((81 : Byte).toNat ≤ 80) := by
  decide +kernel

theorem test_geometrySet :
    answers (exec .geometrySet (asking 0x10 [80, 16])) (fun t => t.geometry = { spineStart := 80, spineWidth := 16 }
      && replied .ok t) = true
      ∧ answers (exec .geometrySet (withOne staged (asking 0x10 [40, 4]))) (replied .locked) = true
      ∧ answers (exec .geometrySet (asking 0x10 [81, 4])) (replied .badParam) = true := by
  decide +kernel

theorem witness_KeepOutRequests :
    let k : KeepOut := { kind := .bend, rect := { baseCol := 0, baseRow := 0, limitCol := 127, limitRow := 111 } }
    let s := asking 0x12 [7, 2, 0, 0, 127, 111]
    let held : State := { s with keepOuts := s.keepOuts.set (7 : Fin 8) (some k) }
    s.Holds 0x12 [7, 2, 0, 0, 127, 111] ∧ s.geometryLock = false ∧ s.keepOuts[(7 : Fin 8)] ≠ some k
      ∧ held.Holds 0x12 [7, 2, 0, 0, 127, 111] ∧ held.keepOuts[(7 : Fin 8)] = some k
      ∧ (withOne staged s).geometryLock = true
      ∧ (asking 0x12 [8, 1, 0, 0, 0, 0]).Holds 0x12 [8, 1, 0, 0, 0, 0]
      ∧ (asks 0x13 [7] held).Holds 0x13 [7] ∧ (asks 0x13 [0xFF] held).keepOuts[(7 : Fin 8)] ≠ none
      ∧ (asking 0x13 [0]).keepOuts[(0 : Fin 8)] = none ∧ (asking 0x13 [8]).Holds 0x13 [8]
      ∧ coveredByBend held.keepOuts 14335 = true ∧ heldByHole held.keepOuts 14335 = false
      ∧ keptOut held.keepOuts true 14335 = true ∧ keptOut held.keepOuts false 14335 = false := by
  decide +kernel

theorem witness_FaceTranslations :
    let g : Geometry := { spineStart := 80, spineWidth := 16 }
    g.inRange = true ∧ 31 ≤ g.lastLocal .front ∧ 79 ≤ g.lastLocal .rear ∧ (1279 : Nat) / 16 ≤ g.lastLocal .rear
      ∧ (tile 3).length = 256
      ∧ (let p : Part := { part with face := .rear }
         p.rect.baseCol ≤ p.rect.limitCol ∧ p.rect.limitCol ≤ g.lastLocal p.face
         ∧ g.coversTile p 79 = true ∧ g.coversTile p 76 = true ∧ g.coversTile p 75 = false
         ∧ g.coversTile p 80 = false) := by
  decide +kernel

/-! ## The Region Table -/

/-- A REGION CREATE for FOLDED with the part above and no attribute. -/
def createBytes : List Byte := 0x00 :: (part.bytes ++ [0x00])

theorem witness_RegionCreate :
    (asking 0x20 createBytes).Holds 0x20 createBytes
      ∧ regionCreateParams State.reset.geometry createBytes = some (content part)
      ∧ (State.reset.record one).lifecycle = .free ∧ (∀ j : Slot, ¬ j < one)
      ∧ (∀ i : Slot, ((State.reset.mapRecords fun _ _ => staged).record i).lifecycle ≠ .free)
      ∧ regionCreateParams State.reset.geometry [0x01] = none ∧ (asking 0x20 [0x01]).Holds 0x20 [0x01] := by
  decide +kernel

/-- Bytes too few for a placement part are those of no REGION CREATE. -/
theorem witness_RegionCreate_no_encoding (layout : Layout) (p : Part) (e : AttributeEdit) :
    [0x01] ≠ layoutByte layout :: (p.bytes ++ e.bytes) := by
  simp [Part.bytes]

theorem test_regionCreate :
    answers (exec .regionCreate (asking 0x20 createBytes)) (fun t =>
      t.port.response = some { code := 0x20, result := .ok, data := .created 1 1 } && t.record one = staged) = true := by
  decide +kernel

theorem witness_EditRefusals :
    (asking 0x21 [0]).Holds 0x21 [0] ∧ (asking 0x24 [33]).Holds 0x24 [33] ∧ 32 < (33 : Byte).toNat
      ∧ (asking 0x22 []).Holds 0x22 []
      ∧ ((withOne { staged with inBuild := true } (asking 0x24 [1, 0])).record one).lifecycle = .staged
      ∧ ((asking 0x22 [1]).record one).lifecycle = .free
      ∧ ((withOne { staged with inBuild := true } (asking 0x23 [1])).record one).inBuild = true
      ∧ ((withOne { shown part with retirePending := true, commitPending := true } (asking 0x21 [1])).record
        one).retirePending = true
      ∧ (32 : Byte).toNat = (31 : Slot).val + 1 := by
  decide +kernel

theorem witness_RegionEdits :
    let s := withOne (shown part) (asking 0x21 (0x01 :: 0x01 :: []))
    let p : Part := { part with face := .whole }
    (s.record one).lifecycle = .inService ∧ (s.record one).inBuild = false ∧ (s.record one).retirePending = false
      ∧ (s.record one).pending = none ∧ (s.record one).live = some (content part)
      ∧ ((withOne staged s).record one).pending = some (content part)
      ∧ partField s.geometry .unfolded p.bytes = some p
      ∧ (content part).unfolded = none ∧ (content part).folded ≠ none
      ∧ partField s.geometry .folded p.bytes = none
      ∧ attributeBlock [0x01, 63] = some ⟨some 63, none, none, none, none, none, none⟩
      ∧ attributeBlock [0x01, 64] = none ∧ (attributeBlock [0x00]).any AttributeEdit.any = false
      ∧ (asks 0x21 [0x01] s).Holds 0x21 [0x01] ∧ (asks 0x22 [0x01] s).Holds 0x22 [0x01] := by
  decide +kernel

/-- A Region ID alone carries neither a placement part nor an attribute. -/
theorem witness_RegionEdits_no_encoding (layout : Layout) (p : Part) (e : AttributeEdit) :
    [] ≠ [layoutByte layout, 0x00] ∧ [] ≠ layoutByte layout :: p.bytes ∧ [] ≠ e.bytes := by
  simp [AttributeEdit.bytes]

theorem test_edits_without_bytes :
    answers (exec .regionPlace (withOne (shown part) (asking 0x21 [0x01]))) (replied .badParam) = true
      ∧ answers (exec .regionAttributes (withOne (shown part) (asking 0x22 [0x01]))) (replied .badParam) = true
      ∧ answers (exec .regionDiscard (asking 0x24 [])) (replied .badParam) = true := by
  decide +kernel

theorem test_regionPlace_remove :
    answers (exec .regionPlace (withOne (shown part) (asking 0x21 [0x01, 0x00, 0x00]))) (replied .badParam) = true
      ∧ answers (exec .regionPlace (withOne (shown part) (asking 0x21 (0x01 :: 0x01 :: { part with face := .whole }.bytes))))
        (fun t => (t.record one).commitPending && replied .ok t) = true := by
  decide +kernel

theorem witness_RetireAndDiscard :
    let s := withOne staged (asking 0x23 [1])
    let t := withOne (shown part) (asking 0x24 [1])
    s.Holds 0x23 [1] ∧ (s.record one).inBuild = false ∧ (s.record one).lifecycle = .staged
      ∧ t.Holds 0x24 [1] ∧ (t.record one).lifecycle = .inService ∧ (t.record one).retirePending = false
      ∧ (asks 0x23 [1, 0] s).Holds 0x23 [1, 0] := by
  decide +kernel

theorem test_regionRetire :
    answers (exec .regionRetire (withOne staged (asking 0x23 [1]))) (fun t => (t.record one).lifecycle = .quarantine
      && (t.record one).quarantineCount = 2) = true
      ∧ answers (exec .regionRetire (withOne (shown part) (asking 0x23 [1]))) (fun t => (t.record one).retirePending
        && (t.record one).commitPending && (t.record one).lifecycle = .inService) = true := by
  decide +kernel

theorem witness_TableAndMapReads :
    (asking 0x25 [32]).Holds 0x25 [32] ∧ (asking 0x25 [33]).Holds 0x25 [33] ∧ (asking 0x27 [1, 15]).Holds 0x27 [1, 15]
      ∧ (asking 0x27 [2, 1]).Holds 0x27 [2, boolByte true] ∧ (asking 0x27 [3, 1, 0]).Holds 0x27 [3, 1, boolByte false]
      ∧ (asking 0x27 [0]).Holds 0x27 [0] ∧ (asking 0x31 [127, 111]).Holds 0x31 [127, 111]
      ∧ (asking 0x31 [128, 0]).Holds 0x31 [128, 0] ∧ ¬ ((128 : Byte).toNat ≤ 127)
      ∧ (asking 0x25 []).Holds 0x25 [] ∧ (asking 0x25 [32, 0]).Holds 0x25 [32, 0] ∧ (32 : Byte).toNat ≤ 32 := by
  decide +kernel

theorem witness_GenerationsHold :
    answers (exec .regionCreate (asking 0x20 createBytes)) (fun t =>
      (t.record one).generation ≠ ((asking 0x20 createBytes).record one).generation) = true
      ∧ answers (exec .resetnAssert (withOne staged State.reset)) (fun t => (t.record one).generation = 0) = true := by
  decide +kernel

theorem witness_ByteFormsAgree :
    State.reset.geometry.inRange = true ∧ part.admitted State.reset.geometry .folded = true
      ∧ streamPart.admitted State.reset.geometry .folded = true
      ∧ ({ ownerToken := some 63, touch := none, persist := none, ephemeral := none, staleLimit := some 255,
           staleAction := none, fallback := none } : AttributeEdit).inRange = true
      ∧ (Packet.tileRun 7 0 1 [tile 0]).taken = true
      ∧ (let a := State.reset.bareAnswer .hit true
         a.region ≤ 32 ∧ a.ownerToken ≤ 63 ∧ -32768 ≤ a.localX ∧ a.localX ≤ 32767)
      ∧ statusFrame 0x05 0x2001 = [0x05, 0x20, 0x01] := by
  decide +kernel

/-! ## The Placement Engine -/

theorem witness_Commit :
    let s := asking 0x30 []
    s.Holds 0x30 [] ∧ s.transition.state = .steady ∧ (inTransition .prepare s).transition.state = .prepare
      ∧ (inTransition .holding s).transition.state = .holding
      ∧ s.engine.claims.commitLatch = false ∧ s.engine.phase = .idle
      ∧ ((withOne staged s).record one).commitPending = true ∧ ((withOne staged s).record one).inBuild = false
      ∧ (∀ i : Slot, (s.record i).commitPending = false)
      ∧ (withPhase (.building (emptyBuild .commit .folded)) s).engine.phase ≠ .idle
      ∧ (s.updClaims fun c => { c with commitLatch := true }).engine.claims.commitLatch = true := by
  decide +kernel

theorem test_commit :
    answers (exec .commit (withOne staged (asking 0x30 []))) (fun t => replied .accepted t && (t.record one).inBuild) = true
      ∧ answers (exec .commit (asking 0x30 [])) (replied .ok) = true
      ∧ answers (exec .commit (inTransition .holding (asking 0x30 []))) (replied .busy) = true := by
  decide +kernel

theorem witness_BuildTakesSnapshot :
    let s := withOne (shown part) State.reset
    (State.reset.record one).lifecycle = .free ∧ ((withOne staged State.reset).record one).pending = some (content part)
      ∧ (s.record one).lifecycle = .inService ∧ (s.record one).commitPending = false
      ∧ (s.record one).live = some (content part) ∧ (s.record one).showing = .shown
      ∧ (content part).attributes.ephemeral = false := by
  decide +kernel

/-- A build over the first two records, which own the same tiles. -/
def firstTwo (kind : BuildKind) (fromPending : Bool) : Build :=
  let e : Contribution := .taken (content part) fromPending
  { emptyBuild kind .folded with snapshot := ((Vec.tabulate fun _ => Contribution.absent).set one e).set (1 : Slot) e }

theorem witness_BuildComplete :
    State.reset.inReset = false
      ∧ (withPhase (.building (emptyBuild .target .unfolded)) State.reset).engine.phase
        = .building (emptyBuild .target .unfolded)
      ∧ (emptyBuild .commit .folded).conflict = none
      ∧ (firstTwo .commit true).conflict = some (0, 1)
      ∧ (let b := emptyBuild .restore .folded
         let s := withPhase (.building b) { State.reset with pins := { State.reset.pins with drstn := true } }
         s.inReset = true ∧ s.engine.phase = .building b ∧ b.kind = .restore) := by
  decide +kernel

theorem witness_ClaimPrecedence :
    let s := State.reset.updClaims fun _ => { restore := true, target := some .unfolded, commitLatch := true }
    s.inReset = false ∧ s.engine.phase = .idle ∧ s.engine.claims.restore = true
      ∧ (s.updClaims fun c => { c with restore := false }).engine.claims.target = some .unfolded
      ∧ (s.updClaims fun c => { c with restore := false, target := none }).engine.claims.commitLatch = true
      ∧ ((withOne staged s).record one).commitPending = true := by
  decide +kernel

theorem witness_ConflictsAndSuppression :
    let b := firstTwo .restore false
    b.kind ≠ .commit ∧ b.conflict = some (0, 1) ∧ b.kept = [(0, part)] ∧ b.suppressedNow 1 = true
      ∧ b.suppressedNow 0 = false
      ∧ (firstTwo .commit true).kind = .commit ∧ (firstTwo .commit true).kept = [(0, part), (1, part)] := by
  decide +kernel

theorem witness_BuiltMap :
    let b := { emptyBuild .restore .folded with snapshot := (Vec.tabulate fun _ => Contribution.absent).set one (.taken (content part) false) }
    b.ownerAt 68 = some one ∧ b.ownerAt (128 + 71) = some one ∧ b.ownerAt 72 = none ∧ b.ownerAt 67 = none
      ∧ (b.entryAt 68).changed = true := by
  decide +kernel

/-! ## Scan starts -/

/-- A scan start that swaps a map with nothing in it. -/
def swapping (kind : BuildKind) (layout : Layout) (s : State) : State :=
  withPhase (.ready (emptyBuild kind layout) (Map.empty layout)) s

theorem witness_SwapSettles :
    let s := swapping .commit .folded (withOne { staged with inBuild := true } State.reset)
    let t := swapping .target .unfolded (inTransition .holding { State.reset with
      transition := { State.reset.transition with holdCount := 1, blankHold := 1 } })
    s.inReset = false ∧ State.reset.link.timer ≠ none
      ∧ s.engine.phase = .ready (emptyBuild .commit .folded) (Map.empty .folded)
      ∧ (s.record one).inBuild = true ∧ (s.record one).lifecycle = .staged ∧ s.router.linkQueue = []
      ∧ (withFrame 0 none s).router.streams[(1 : Fin 8)].frame.isSome = true
      ∧ t.transition.state = .holding ∧ t.transition.holdCount = t.transition.blankHold
      ∧ answers (exec .scanStart s) (fun u => (u.record one).lifecycle = .inService
        && (u.record one).live = some (content part) && u.engine.epoch = 1 && u.flag .commitDone) = true := by
  decide +kernel

/-- A record in QUARANTINE with a count. -/
def leaving (n : Nat) : Record := { Record.free 1 with lifecycle := .quarantine, quarantineCount := n }

/-- A SHOWN record of stream 1 with a Stale Limit. -/
def watched (limit : Nat) : Record :=
  { shown streamPart with live := some { content streamPart with attributes :=
      { Attributes.default with staleLimit := limit, staleAction := .fill } } }

/-- A READY map, of no tiles, of a COMMIT build that took the first slot's contribution. -/
def swappingOne (c : Contribution) (s : State) : State :=
  withPhase (.ready { emptyBuild .commit .folded with snapshot := (Vec.tabulate fun _ => Contribution.absent).set one c }
    (Map.empty .folded)) s

/-- The first slot's record stays as it is at the swap. -/
def staying (r : Record) : State :=
  (swappingOne (.taken ((watched 1).live.getD (content part)) false) (withOne r quiet)).setStaleCount one 5

/-- A scan start that swaps advances the count of a region that stays SHOWN with the same live copy; at its Stale Limit
the region becomes Stale, and a Stale region is not counted. -/
theorem witness_SwapSettles_stale :
    (∀ limit ∈ [6, 7], (staying (watched limit)).router.linkQueue = []
      ∧ ((staying (watched limit)).record one).inBuild = false ∧ (staying (watched limit)).isShown one = true
      ∧ ((staying (watched limit)).record one).stale = false ∧ (staying (watched limit)).activePart one = some streamPart
      ∧ answers (exec .scanStart (staying (watched limit))) (fun t => t.isShown one
        && decide (t.router.staleCounts[one] = 6) && ((t.record one).stale == decide (limit = 6))
        && (t.flag .regionStale == decide (limit = 6))) = true)
      ∧ answers (exec .scanStart (staying { watched 6 with stale := true })) (fun t =>
        decide (t.router.staleCounts[one] = 5) && (t.record one).stale) = true := by
  decide +kernel

/-- A swap restarts the count of a region that becomes SHOWN, of an included record and of one that leaves. -/
theorem witness_SwapSettles_restarts :
    (staying { watched 6 with showing := .parked }).isShown one = false
      ∧ answers (exec .scanStart (staying { watched 6 with showing := .parked })) (fun t => t.isShown one
        && decide (t.router.staleCounts[one] = 0)) = true
      ∧ answers (exec .scanStart (staying { staged with inBuild := true })) (fun t =>
        decide (t.router.staleCounts[one] = 0)) = true
      ∧ answers (exec .scanStart ((swappingOne .excluded (withOne (watched 9) quiet)).setStaleCount one 5)) (fun t =>
        (t.record one).lifecycle = .quarantine && decide (t.router.staleCounts[one] = 0)) = true := by
  decide +kernel

/-- A scan start that swaps counts a slot in QUARANTINE and leaves a FREE slot as it is. -/
theorem witness_SwapSettles_quarantine :
    (∀ n ∈ [1, 2], answers (exec .scanStart (swapping .commit .folded (withOne (leaving n) quiet))) (fun t =>
        decide (t.record one = if n = 1 then Record.free 1 else leaving 1)) = true)
      ∧ (leaving 1).lifecycle = .quarantine ∧ (leaving 1).quarantineCount = 1 ∧ (leaving 1).inBuild = false
      ∧ (emptyBuild .commit .folded).snapshot[one] ≠ .excluded
      ∧ answers (exec .scanStart (swapping .commit .folded (withOne (Record.free 7) quiet))) (fun t =>
        decide (t.record one = Record.free 7)) = true := by
  decide +kernel

/-- A map with one Changed tile that slot 1 owns and one of Owner 0. -/
def twoChanged (layout : Layout) : Map :=
  { Map.empty layout with tiles := [(68, { owner := some one, changed := true }), (72, { owner := none, changed := true })] }

/-- The swap's fill work: the job in progress waits again first, then the region that owns a Changed tile, then
BACKGROUND, and the link has taken the first of them up again. -/
theorem witness_SwapSettles_fill :
    let b := { emptyBuild .restore .folded with snapshot :=
      (Vec.tabulate fun _ => Contribution.absent).set one (.taken (content part) false) }
    let s := withPhase (.ready b (twoChanged .folded)) (withOne (shown part) { quiet with fill :=
      { Fill.reset with queue := [.bend], job := some { key := .zone .front, position := 9 } } })
    s.engine.phase = .ready b (twoChanged .folded) ∧ b.kind ≠ .target ∧ (twoChanged .folded).wf = true
      ∧ s.fill.job = some { key := .zone .front, position := 9 }
      ∧ answers (exec .scanStart s) (fun t => t.fill.job.any (fun j => j.key = .bend)
        && t.fill.queue = [.zone .front, .region one, .background]) = true := by
  decide +kernel

theorem witness_TransitionSwap :
    let t := swapping .target .unfolded (inTransition .holding { quiet with
      transition := { State.reset.transition with holdCount := 1, blankHold := 1, commitJoined := true } })
    t.inReset = false ∧ t.engine.phase = .ready (emptyBuild .target .unfolded) (Map.empty .unfolded)
      ∧ t.transition.state = .holding ∧ t.transition.holdCount = t.transition.blankHold
      ∧ (t.zoneState .rear).mode = .off
      ∧ answers (exec .scanStart t) (fun u => u.activeLayout = .unfolded && (u.zoneState .rear).mode = .on
        && u.transition.state = .steady && u.flag .transitionDone && u.flag .commitDone) = true
      ∧ (Map.empty .unfolded).wf = true
      ∧ (let u : State := { t with fill := { Fill.reset with queue := [.bend] } }
         u.fill.queue = [.bend]
         ∧ answers (exec .scanStart u) (fun v => v.transition.state = .settling && !v.flag .transitionDone) = true)
      ∧ answers (exec .scanStart (withPhase (.ready (emptyBuild .target .unfolded) (twoChanged .unfolded)) t))
        (fun v => v.transition.state = .settling) = true := by
  decide +kernel

theorem witness_ScanCounts :
    let s := withOne (leaving 1) State.reset
    let t := withOne (watched 1) State.reset
    s.inReset = false ∧ s.link.timer ≠ none ∧ s.engine.phase = .idle ∧ (s.record one).lifecycle = .quarantine
      ∧ (s.record one).quarantineCount ≤ 1 ∧ 1 < ((withOne (leaving 2) State.reset).record one).quarantineCount
      ∧ t.router.linkQueue = [] ∧ t.isShown one = true ∧ (t.record one).stale = false
      ∧ t.activePart one = some streamPart
      ∧ (inTransition .holding State.reset).transition.holdCount ≠ (inTransition .holding State.reset).transition.blankHold
      ∧ State.held.link.timer = none ∧ State.held.inReset = true
      ∧ answers (exec .scanStart s) (fun u => u.record one = Record.free 1) = true
      ∧ answers (exec .substituteScanStart t) (fun u => (u.record one).stale && u.flag .regionStale
        && u.flag .scanSubstituted && decide (u.router.staleCounts[one] = 1)) = true := by
  decide +kernel

/-! ## The pixel input link -/

theorem witness_FramesAndRuns :
    let s := State.reset
    let t := withFrame 0 (some 50) s
    s.inReset = false ∧ s.link.streamWaiting = none ∧ s.router.run = none ∧ s.router.linkQueue = []
      ∧ (1 : Byte).toNat = (1 : Fin 8).val ∧ (128 : Byte).toNat ≤ 128 ∧ ¬ ((113 : Byte).toNat ≤ 112)
      ∧ s.router.streams[(1 : Fin 8)].frame = none ∧ t.router.streams[(1 : Fin 8)].frame ≠ none
      ∧ [tile 1, tile 2].length = (2 : Byte).toNat ∧ (2 : BitVec 16).toNat ≠ 0
      ∧ ([] : List Pixels).length = (0 : Byte).toNat
      ∧ { s with router := { s.router with run := some { stream := 1, tiles := [], routed := true } } }.router.run ≠ none
      ∧ parsePacket [0x04] = none ∧ 7 < (8 : Byte).toNat ∧ State.held.inReset = true := by
  decide +kernel

theorem test_frames :
    answers (exec (.frameBegin 1 2 2) State.reset) (fun t => t = withFrame 0 (some 50) State.reset) = true
      ∧ answers (exec (.tileRun 1 0 2 [tile 1, tile 2]) (withFrame 0 (some 50) State.reset))
        (fun t => t.router.run = some { stream := 1, tiles := [tile 1, tile 2], routed := true }) = true
      ∧ answers (exec (.tileRun 1 1 1 [tile 1]) (withFrame 0 (some 50) State.reset))
        (fun t => t.router.streams[(1 : Fin 8)].frame.any fun f => f.malformed) = true := by
  decide +kernel

theorem witness_FramesClose :
    let s := withFrame 4 (some 50) State.reset
    let t := withFrame 3 none (withPhase (.draining (Map.empty .folded) 0) State.reset)
    s.inReset = false ∧ s.router.streams[(1 : Fin 8)].frame.isSome = true ∧ s.link.streamWaiting = none
      ∧ t.engine.phase = .draining (Map.empty .folded) 0
      ∧ t.router.streams[(1 : Fin 8)].frame.any (fun f => f.stamp = 0 && f.next < f.width * f.height) = true
      ∧ State.reset.router.streams[(1 : Fin 8)].frame = none
      ∧ answers (exec (.frameEnd 1) s) (fun u => decide (u.router.streams[(1 : Fin 8)]
        = { frame := none, completed := 1, last := .complete })) = true
      ∧ answers (exec (.frameEnd 1) t) (fun u => u.engine.phase = .idle) = true
      ∧ answers (exec (.frameTimerExpiry 1) s) (fun u => u.flag .streamAborted) = true := by
  decide +kernel

/-- The ACTIVE map shows the part of stream 1 in slot 1; tile 68 is its first. -/
def mapped (s : State) : State :=
  { withOne (shown streamPart) s with
    engine := { s.engine with active :=
      { layout := .folded, tiles := [(68, { owner := some one, changed := false })]
        bindings := Vec.tabulate fun n => if n.val = 1 then
          [{ region := one, originCol := 0, originRow := 0, width := 4, height := 2, baseCol := 0, baseRow := 0,
             translation := s.geometry.translation .front }] else [] } } }

/-- A run of one tile of stream 1 is being taken. -/
def running (s : State) : State :=
  withFrame 0 none { s with router := { s.router with run := some { stream := 1, tiles := [tile 9], routed := true } } }

theorem witness_StreamTile :
    let s := running (mapped State.reset)
    s.router.run = some { stream := 1, tiles := [tile 9], routed := true } ∧ s.link.streamWaiting = none
      ∧ s.router.streams[(1 : Fin 8)].frame.isSome = true
      ∧ { s with link := { s.link with streamWaiting := some (streamWrite 0) } }.link.streamWaiting ≠ none
      ∧ answers (exec .streamTile s) (fun t => t.link.streamWaiting
        = some { tile := 68, pixels := tile 9, kind := .stream }) = true := by
  decide +kernel

/-- A run out of order of one tile stops its frame's timer, which restarts after the tile with the Frame Timeout that a
STREAM SET has set in between (R78). -/
theorem test_dropped_run :
    let s := withFrame 0 (some 50) quiet
    answers (exec (.tileRun 1 1 1 [tile 1]) s) (fun t =>
      t.router.run = some { stream := 1, tiles := [tile 1], routed := false }
      && t.router.streams[(1 : Fin 8)].frame.any (fun f => f.malformed && f.timer = none)
      && answers (exec (.frameTimerExpiry 1) t) (fun u => u = t)
      && answers (exec .streamSet (asks 0x40 [7] t)) (fun u => answers (exec .streamTile u) (fun v =>
        v.router.run = none && v.router.handing = []
        && v.router.streams[(1 : Fin 8)].frame.any (fun f => f.malformed && f.next = 0 && f.timer = some 7)))) = true
      ∧ answers (exec (.tileRun 1 0 1 [tile 1]) quiet) (fun t =>
        t.router.run = some { stream := 1, tiles := [tile 1], routed := false }
        && decide (t.router.streams[(1 : Fin 8)].last = .orphan)
        && answers (exec .streamTile t) (fun u => u.router.run = none)) = true
      ∧ answers (exec (.tileRun 1 0 0 []) s) (fun t => t.router.run = none
        && t.router.streams[(1 : Fin 8)].frame.any (fun f => f.malformed && f.timer = some 50)) = true := by
  decide +kernel

/-! ## The panel link and the Fill Writer -/

/-- A transfer is on the link. -/
def flying (f : Transfer) (s : State) : State := { s with link := { s.link with flight := some f } }

theorem witness_TransferComplete :
    (flying (.tile (streamWrite 14335)) quiet).link.flight = some (.tile (streamWrite 14335))
      ∧ (flying (.message .front { on := true, brightness := 255 }) quiet).link.flight
        = some (.message .front { on := true, brightness := 255 })
      ∧ quiet.link.flight = none
      ∧ answers (exec .transferComplete (flying (.tile (streamWrite 14335)) quiet))
        (fun t => t.panel.read 14335 = some (tile 7) && t.panel.read 0 = none) = true
      ∧ answers (exec .transferComplete State.reset) (fun t => t.panel.zones.rear = some { on := false, brightness := 0 }
        && t.link.flight = some (.message .spine { on := true, brightness := 255 })) = true := by
  decide +kernel

theorem witness_Arbitration :
    let w := streamWrite 0
    let f : TileWrite := { tile := 1, pixels := tile 0, kind := .fill .background false }
    let s : State := { quiet with link := { quiet.link with streamWaiting := some w, fillWaiting := some f } }
    s.link.flight = none ∧ s.messageFirst = none ∧ w.kind = .stream ∧ s.link.fillWaitCount < 8
      ∧ f.kind = .fill .background false
      ∧ ¬ ({ s with link := { s.link with fillWaitCount := 8 } }.link.fillWaitCount < 8)
      ∧ State.reset.link.flight ≠ none ∧ State.reset.link.slots.spine ≠ none
      ∧ s.protectionFails w = false
      ∧ (s.updZone .rear fun q => { q with mode := .tripped }).protectionFails w = true
      ∧ s.arbitrate.any (fun t => t.link.flight = some (.tile w) && t.link.fillWaitCount = 1) = true := by
  decide +kernel

theorem witness_FillJobSets :
    (mapped State.reset).jobColour (.region one) 68 = none
      ∧ (mapped State.reset).jobColour .background 0 = some 0
      ∧ (withOne (shown part) (mapped State.reset)).jobColour (.region one) 68 = some 0x102030
      ∧ (withOne (shown part) (mapped State.reset)).jobColour (.zone .front) 68 = some 0x102030
      ∧ (withOne { watched 1 with stale := true } (mapped State.reset)).jobColour (.region one) 68 = some 0 := by
  decide +kernel

theorem witness_FillJobComplete :
    let done (k : Key) : State := { quiet with fill := { Fill.reset with job := some { key := k, position := 14336 } } }
    let s := inTransition .settling (done .background)
    (done .blank).fill.job = some { key := .blank, position := 14336 } ∧ (done .blank).link.fillWaiting = none
      ∧ State.reset.fill.job.any (fun j => j.position < 14336) = true
      ∧ s.inReset = false ∧ s.fill.queue = [] ∧ s.transition.state = .settling
      ∧ answers (exec .fillJobComplete (inTransition .blanking (done .blank)))
        (fun t => t.transition.state = .holding) = true
      ∧ answers (exec .fillJobComplete s) (fun t => t.transition.state = .steady && t.flag .transitionDone) = true := by
  decide +kernel

/-! ## Settings and posture -/

theorem witness_Settings :
    (asking 0x40 [255]).Holds 0x40 [255] ∧ (asking 0x40 [0]).Holds 0x40 [0] ∧ (asking 0x43 [10]).Holds 0x43 [10]
      ∧ (asking 0x43 [101]).Holds 0x43 [101] ∧ 100 < (101 : Byte).toNat
      ∧ (asking 0x42 [0, 1, 2, 3]).Holds 0x42 [layoutByte .folded, 1, 2, 3]
      ∧ (asking 0x42 [2, 0, 0, 0]).Holds 0x42 [2, 0, 0, 0]
      ∧ transitionSetInRange (some 510) (some 7) = true ∧ transitionSetBytes (some 510) (some 7) = [0x03, 0x01, 0xFE, 7]
      ∧ (asking 0x64 [0x03, 0x01, 0xFE, 7]).Holds 0x64 (transitionSetBytes (some 510) (some 7))
      ∧ (asking 0x64 []).Holds 0x64 []
      ∧ (let e : PostureEdit := { sampleInterval := none, foldLimit := some 900, openLimit := some 1000,
                                  debounce := none, reportMode := none }
         e.inRange = true ∧ e.bytes = [0x06, 0x03, 0x84, 0x03, 0xE8])
      ∧ (asking 0x50 [0x00]).Holds 0x50 [0x00] := by
  decide +kernel

theorem test_postureSet_example :
    answers (exec .postureSet (asking 0x50 [0x04, 0x03, 0xE8])) (replied .badParam) = true
      ∧ answers (exec .postureSet (asking 0x50 [0x06, 0x03, 0x84, 0x03, 0xE8])) (fun t => t.sampler.foldLimit = 900
        && t.sampler.openLimit = 1000 && replied .ok t) = true := by
  decide +kernel

/-- A measurement is in flight. -/
def measuring (s : State) : State := { s with sampler := { s.sampler with phase := .measuring } }

/-- The edges of a Sample. -/
def edgesOf (d : Nat) : List Nat := [2, d / 4 + 2, d / 2 + 2, 3 * (d / 4) + 2, d + 2]

theorem witness_Measurements :
    State.reset.sampler.phase = .waiting 8 ∧ (measuring State.reset).sampler.phase = .measuring
      ∧ risingTimes (edgesOf 4094) = true ∧ measure (edgesOf 4094) = (4094, .valid)
      ∧ measure (edgesOf 4095) = (4095, .saturated) ∧ measure [4095] = (0, .noSignal)
      ∧ measure [4094] = (4095, .saturated) := by
  decide +kernel

theorem witness_SampleClasses :
    let s := measuring State.reset
    measure (edgesOf 1200) = (1200, .valid) ∧ measure (edgesOf 3000) = (3000, .valid)
      ∧ s.sampler.foldLimit < s.sampler.openLimit
      ∧ answers (exec (.measurementComplete (edgesOf 1200)) s) (fun t => t.sampler.lastClass = some .folded) = true
      ∧ answers (exec (.measurementComplete (edgesOf 1201)) s) (fun t => t.sampler.lastClass = some .partly) = true
      ∧ answers (exec (.measurementComplete (edgesOf 3000)) s) (fun t => t.sampler.lastClass = some .unfolded) = true
      ∧ answers (exec (.measurementComplete []) s) (fun t => t.sampler.lastClass = none) = true := by
  decide +kernel

theorem witness_PostureSettles :
    let s := measuring { quiet with sampler := { Sampler.reset with runClass := some .unfolded, runLength := 2 } }
    let t := measuring { quiet with sampler := { Sampler.reset with invalidRun := 7 } }
    s.inReset = false ∧ s.sampler.phase = .measuring ∧ s.sampler.debounce ≤ s.sampler.runLength + 1
      ∧ t.sampler.invalidRun = 7 ∧ (measure []).2 ≠ .valid
      ∧ answers (exec (.measurementComplete (edgesOf 3400)) s) (fun u => u.sampler.posture = .unfolded
        && u.sampler.lastDirection = .resumed && !u.sampler.bendApplied && u.flag .postureChanged
        && u.transition.state = .prepare && u.transition.target = some .unfolded && u.flag .transitionStarted) = true
      ∧ answers (exec (.measurementComplete []) t) (fun u => u.flag .sensorLost && u.sampler.invalidRun = 8) = true
      ∧ (let v : State := { s with pins := { s.pins with drstn := true } }
         v.inReset = true ∧ v.sampler.phase = .measuring
         ∧ answers (exec (.measurementComplete (edgesOf 3400)) v) (fun u => u.sampler.posture = .unfolded
           && !u.sampler.bendApplied && u.sampler.bendDeferred && !u.flag .postureChanged
           && u.transition.lastRequest = none && u.fill.queue = []) = true) := by
  decide +kernel

/-! ## Transitions -/

theorem witness_LayoutActs :
    let s := State.reset
    s.inReset = false ∧ s.transition.state = .steady ∧ Layout.unfolded ≠ s.engine.active.layout
      ∧ s.transition.pin = none ∧ s.transition.prepareWindow ≠ 0
      ∧ { s with transition := { s.transition with prepareWindow := 0 } }.transition.prepareWindow = 0
      ∧ (inTransition .settling s).transition.state = .settling
      ∧ { s with transition := { s.transition with pin := some .folded } }.transition.pin ≠ none := by
  decide +kernel

theorem witness_Cancel :
    let b := { emptyBuild .target .unfolded with geometry := State.reset.geometry }
    let s := inTransition .blanking (withPhase (.ready b (Map.empty .unfolded)) State.reset)
    let t := inTransition .building (withPhase (.building b) State.reset)
    s.inReset = false ∧ s.blankingOn = true ∧ t.blankingOn = false ∧ t.engine.phase = .building b
      ∧ b.kind = .target ∧ t.engine.claims.restore = false ∧ t.engine.claims.commitLatch = false
      ∧ (s.cancel.fill.queue = [.background]) ∧ t.cancel.engine.phase = .idle
      ∧ (let latched := t.updClaims fun c => { c with commitLatch := true }
         latched.engine.claims.restore = false ∧ latched.engine.claims.commitLatch = true
         ∧ latched.cancel.engine.phase = .idle ∧ latched.cancel.flag .commitDone = true
         ∧ ((withOne staged latched).record one).commitPending = true
         ∧ ((withOne staged latched).cancel.record one).inBuild = true)
      ∧ (t.updClaims fun c => { c with restore := true }).engine.claims.restore = true
      ∧ (let m := twoChanged .unfolded
         let u := withPhase (.ready b m) (withOne (shown part) s)
         let v : State := { u with engine := { u.engine with active :=
           { Map.empty .folded with tiles := [(68, { owner := some one, changed := false })] } } }
         m.wf = true ∧ v.engine.active.wf = true ∧ v.cancel.fill.queue = [.region one, .background])
      ∧ s.engine.active.wf = true ∧ s.panel.wf = true ∧ (Map.empty .unfolded).wf = true := by
  decide +kernel

theorem witness_LayoutRequests :
    let s := asking 0x60 []
    s.inReset = false ∧ (inTransition .prepare s).Holds 0x60 [] ∧ (inTransition .prepare s).transition.state = .prepare
      ∧ { s with transition := { s.transition with prepareTimer := some 100 } }.transition.prepareTimer ≠ none
      ∧ (asking 0x61 [1]).Holds 0x61 [layoutByte .unfolded] ∧ (asking 0x61 [2]).Holds 0x61 [2]
      ∧ (asking 0x62 []).Holds 0x62 [] ∧ (asking 0x63 []).Holds 0x63 []
      ∧ answers (exec .transitionAbort (asking 0x63 [])) (replied .badState) = true
      ∧ answers (exec .transitionAbort (inTransition .settling (asking 0x63 []))) (replied .tooLate) = true
      ∧ answers (exec .transitionAbort (inTransition .prepare (asking 0x63 []))) (fun t => replied .ok t
        && t.transition.pin = some .folded && t.transition.state = .steady && t.flag .transitionCancelled) = true := by
  decide +kernel

/-! ## Zones -/

/-- The zone FRONT in a mode with its fault line at a level. -/
def faulty (m : ZoneMode) (line : Bool) (s : State) : State :=
  { s.updZone .front (fun q => { q with mode := m, faultActive := line }) with
    pins := { s.pins with faultLine := s.pins.faultLine.set .front line } }

theorem witness_ZoneRequests :
    zoneTableBytes .unfolded none none (some true) = [1, 4, 1] ∧ (asking 0x71 [1, 4, 1]).Holds 0x71 [1, 4, 1]
      ∧ zoneIdleBytes .front (some 255) (some 7) (some 0) = [2, 7, 255, 7, 0]
      ∧ givenWithin 0 255 (some 255) = true ∧ (asking 0x72 [2, 7, 255, 7, 0]).Holds 0x72 [2, 7, 255, 7, 0]
      ∧ (asking 0x70 [2, 1]).Holds 0x70 [zoneByte .front, boolByte true] ∧ (asking 0x73 [3]).Holds 0x73 [3]
      ∧ (asking 0x71 []).Holds 0x71 [] ∧ (asking 0x72 [2, 0]).Holds 0x72 [2, 0]
      ∧ answers (exec .zoneRestore (faulty .tripped false (asking 0x73 [2]))) (fun t => replied .ok t
        && (t.zoneState .front).mode = .on) = true
      ∧ answers (exec .zoneRestore (faulty .tripped true (asking 0x73 [2]))) (replied .faultActive) = true
      ∧ answers (exec .zoneMode (faulty .tripped false (asking 0x70 [2, 1]))) (replied .faultActive) = true := by
  decide +kernel

theorem witness_FaultsAndIdleTimers :
    let s := faulty .on true State.reset
    let t := State.reset.updZone .front fun q => { q with mode := .dim, idleLimit := 3 }
    s.pins.faultLine.get .front = true ∧ State.reset.pins.faultLine.get .front = false
      ∧ State.reset.pins.resetn = false ∧ State.held.pins.resetn = true
      ∧ (State.reset.zoneState .front).mode ≠ .tripped ∧ ((faulty .tripped false State.reset).zoneState .front).mode = .tripped
      ∧ ((State.reset.updZone .front fun q => { q with idleTimer := some 3 }).zoneState .front).idleTimer ≠ none
      ∧ (t.zoneState .front).activityMask.getLsbD 2 = true ∧ (t.zoneState .front).mode = .dim
      ∧ answers (exec (.zoneFaultRise .front) State.reset) (fun u => (u.zoneState .front).mode = .tripped
        && (u.zoneState .front).tripCount = 1 && u.flag .zoneTripped) = true := by
  decide +kernel

theorem witness_FaultLineFalls :
    let s := faulty .tripped true State.reset
    s.pins.resetn = false ∧ s.pins.faultLine.get .front = true
      ∧ answers (exec (.zoneFaultFall .front) s) (fun t => !(t.zoneState .front).faultActive
        && (t.zoneState .front).mode = .tripped) = true := by
  decide +kernel

/-! ## Touch lookup -/

theorem witness_PointLookups :
    let s := withOne (shown part) (mapped State.reset)
    State.reset.inReset = false ∧ (asking 0x80 [0, 0, 0, 0]).Holds 0x80 [0, 0, 0, 0] ∧ (asking 0x80 []).Holds 0x80 []
      ∧ (s.pointAnswer 1098 5).status = .hit ∧ (s.pointAnswer 1098 5).localX = 10 ∧ (s.pointAnswer 1098 5).localY = 5
      ∧ (s.pointAnswer 2047 1791).status = .none ∧ (s.pointAnswer 2048 0).status = .outOfRange
      ∧ (s.pointAnswer 0 0).status = .zoneOff := by
  decide +kernel

theorem witness_VerifyAndLookupPort :
    let s := withOne (shown part) (mapped State.reset)
    (s.verifyAnswer 1 1 1098 5).status = .current ∧ (s.verifyAnswer 1 2 1098 5).status = .gone
      ∧ (s.verifyAnswer 33 1 0 0).status = .outOfRange
      ∧ (asking 0x81 [1, 1, 0, 0, 0, 0]).Holds 0x81 [1, 1, 0, 0, 0, 0]
      ∧ parseLookup [0x01] = none ∧ parseLookup [0x01, 0x04, 0x4A, 0, 5] = some (.point 1098 5)
      ∧ parseLookup [0x02, 1, 1, 0, 0, 0, 0] = some (.verify 1 1 0 0)
      ∧ State.reset.lookup.answer = none ∧ (State.reset.putAnswer (Answer.zero .rejected)).lookup.answer ≠ none
      ∧ answers (exec .answerRead State.reset) (fun t => t.lookup.returned = some (Answer.zero .empty)) = true
      ∧ (LookupRequest.point 1098 5).bytes = [0x01, 0x04, 0x4A, 0, 5]
      ∧ Instr.resetnAssert ∈ [Instr.resetnAssert] ∧ Instr.drstnAssert ∉ [Instr.scanStart]
      ∧ State.reset.pending = [] ∧ State.reset.acknowledges 0x3A = true ∧ State.reset.acknowledges 0x3B = false
      ∧ State.held.acknowledges 0x3A = false
      ∧ { State.held with pending := [.resetnRelease true] }.acknowledges 0x3B = true
      ∧ answers (step { State.held with pending := [.resetnRelease true] }) (fun t => t.acknowledges 0x3B) = true := by
  decide +kernel

/-! ## Resets -/

theorem witness_AfterResetn :
    answers (exec .resetnAssert (withOne staged State.reset)) (fun t =>
      answers (exec (.resetnRelease true) t) (fun u => u.record one = Record.free 0
        && answers (exec .regionCreate (asks 0x20 createBytes u)) (fun w => (w.record one).generation = 1))) = true := by
  decide +kernel

theorem witness_ResetnSettles :
    State.reset.pins.resetn = false ∧ State.held.pins.resetn = true ∧ State.held.pins.drstn = false
      ∧ (let s : State := { State.reset with zones := { State.reset.zones with
           foldedTable := { rear := true, spine := true, front := false }, tripDeferred := true } }
         answers (exec .resetnAssert s) (fun t => t.zones.foldedTable = foldedTableDefault && !t.zones.tripDeferred)
           = true)
      ∧ { State.held with pins := { State.held.pins with drstn := true } }.pins.drstn = true := by
  decide +kernel

theorem witness_DrstnSettles :
    let persists : Record := { shown part with live := some { content part with attributes :=
      { Attributes.default with persist := true } } }
    let s : State := withOne persists { State.reset with table := { State.reset.table with retain := true } }
    let t : State := { State.reset with pins := { State.reset.pins with drstn := true } }
    s.pins.drstn = false ∧ s.pins.resetn = false ∧ s.table.retain = true ∧ (s.record one).lifecycle = .inService
      ∧ t.pins.drstn = true ∧ State.held.pins.drstn = false ∧ State.held.pins.resetn = true
      ∧ answers (exec .drstnAssert s) (fun u => (match u.engine.phase with
          | .building b => b.kind = .restore
          | _ => false) && (u.record one).lifecycle = .inService && u.engine.epoch = 1) = true
      ∧ answers (exec .drstnAssert State.reset) (fun u => u.engine.phase = .idle) = true := by
  decide +kernel

theorem witness_DrstnReleases :
    let s : State := { quiet with pins := { quiet.pins with drstn := true },
                                  sampler := { quiet.sampler with bendDeferred := true } }
    s.pins.drstn = true ∧ s.pins.resetn = false
      ∧ answers (exec .drstnRelease s) (fun t => t.fill.job.any (fun j => j.key = .background)
        && t.fill.queue = [.bend] && t.link.timer = some 40) = true := by
  decide +kernel

/-! ## Laws that every step keeps -/

/-- The step from the held state with a release in its queue. -/
def releasing : State := { State.held with pending := [.resetnRelease false] }

theorem witness_LinkStaysProtected : releasing.LinkProtected := by
  intro w h
  simp [releasing, State.held, Link.inReset] at h

theorem witness_StreamsStayBlanked : releasing.StreamsBlanked := by
  refine ⟨?_, ?_, ?_, ?_⟩ <;> intro w h <;> simp [releasing, State.held, Link.inReset, Router.reset] at h

theorem witness_FormsKept :
    releasing.engine.active.wf = true ∧ releasing.panel.wf = true ∧ releasing.FillServed ∧ releasing.fill.queue = []
      ∧ releasing.PortExclusive ∧ releasing.geometry.inRange = true := by
  refine ⟨by decide +kernel, by decide +kernel, ?_, by decide +kernel, Or.inl rfl, by decide +kernel⟩
  exact Nat.zero_le 8

theorem witness_RecordsKept :
    releasing.RecordsLawful ∧ ∀ i : Slot, (releasing.record i).lifecycle = .free := by
  have h : ∀ i : Slot, releasing.record i = Record.free 0 := by
    intro i
    simp [releasing, State.held, State.record, Table.reset]
  refine ⟨?_, ?_⟩ <;> intro i <;> rw [h i] <;> rfl

theorem witness_OwnersStayShown :
    releasing.SnapshotStands ∧ ∀ t : Nat, releasing.engine.active.owner t = none := by
  refine ⟨?_, fun t => rfl⟩
  intro i
  simp [releasing, State.held, State.record, Table.reset, Record.free]

theorem witness_TransitionAgrees : releasing.TransitionFields ∧ releasing.EngineAgrees := by
  refine ⟨?_, ?_⟩
  · simp [State.TransitionFields, releasing, State.held, Transition.reset]
  · refine ⟨?_, ?_⟩
    · intro l h
      cases h
    · exact ⟨rfl, by decide +kernel, rfl⟩

theorem witness_FramesKept : ∀ n : Fin 8, releasing.router.streams[n].frame = none := by
  decide +kernel

theorem witness_SamplerAndZonesKept :
    releasing.BendFollows ∧ releasing.SamplerLawful ∧ ∀ z : Zone, (releasing.zoneState z).Lawful := by
  refine ⟨rfl, ?_, ?_⟩
  · simp [State.SamplerLawful, releasing, State.held, Sampler.reset]
  · intro z
    cases z <;> simp [ZoneState.Lawful, releasing, State.held, State.zoneState, Zones.reset, PerZone.get, ZoneState.reset]

/-! ## The end of an event -/

theorem witness_EventEnds :
    let tripped := (flying (.tile (streamWrite 0)) State.reset).updZone .rear fun q => { q with mode := .tripped }
    let waiting : State := { quiet with fill := { Fill.reset with queue := [.background, .bend] } }
    let offering : State := { quiet with fill := { Fill.reset with job := some { key := .background, position := 14335 } } }
    let handing : State := { quiet with router := { Router.reset with handing := [streamWrite 0] } }
    let done : Run := { stream := 1, tiles := [], routed := true }
    let spent := withFrame 4 none { quiet with router := { Router.reset with run := some done } }
    let packets : State := { quiet with router := { Router.reset with linkQueue := [.frameBegin 1 2 2, .discarded] } }
    tripped.link.flight = some (.tile (streamWrite 0)) ∧ tripped.abortTest.link.flight = none
      ∧ (flying (.tile (streamWrite 0)) quiet).abortTest.link.flight ≠ none
      ∧ waiting.fill.job = none ∧ waiting.startJob.fill.job = some { key := .background, position := 0 }
      ∧ offering.link.fillWaiting = none ∧ offering.offerTile.link.fillWaiting.any (fun w => w.tile = 14335) = true
      ∧ handing.link.streamWaiting = none ∧ handing.handWrite.link.streamWaiting = some (streamWrite 0)
      ∧ spent.router.run = some { stream := 1, tiles := [], routed := true } ∧ spent.router.handing = []
      ∧ spent.endRun = withFrame 4 (some 50) quiet
      ∧ packets.link.streamWaiting = none ∧ packets.router.run = none
      ∧ packets.finish = withFrame 0 (some 50) quiet
      ∧ running quiet ≠ quiet ∧ (running quiet).router.run ≠ none := by
  decide +kernel

end Sys2Proof.Tests
end

/-! SUPPORT. The Region Table and the Placement Engine through the assertion and the release of RESETN: the blocks
that the release starts leave both at their reset values, since no link work outside a packet, and no end of a
SETTLING that is not under way, changes them. -/

namespace Sys2Proof.Machine

/-! ## What the zones, the fill jobs and the arbiter leave alone -/

/-- The Region Table, the Placement Engine, the Transition Controller and the packets that wait: what no message,
activity, trip, job, offer or grant changes. -/
structure Placing where
  table : Table
  engine : Engine
  transition : Transition
  linkQueue : List Packet

/-- The part of a state that messages, activities, trips, jobs, offers and grants leave alone. -/
def State.placing (s : State) : Placing :=
  { table := s.table, engine := s.engine, transition := s.transition, linkQueue := s.router.linkQueue }

@[simp] theorem setFlag_placing (s : State) (f : EventFlag) : (s.setFlag f).placing = s.placing := by
  simp [State.placing]

@[simp] theorem placeMessage_placing (s : State) (z : Zone) : (s.placeMessage z).placing = s.placing := by
  simp [State.placing]

@[simp] theorem queueJob_placing (s : State) (k : Key) : (s.queueJob k).placing = s.placing := by
  simp [State.placing]

@[simp] theorem updZone_placing (s : State) (z : Zone) (f : ZoneState → ZoneState) :
    (s.updZone z f).placing = s.placing := rfl

@[simp] theorem activity_placing (s : State) (a : Activity) (z : Zone) : (s.activity a z).placing = s.placing := by
  unfold State.activity
  split
  · rfl
  · split <;> simp

@[simp] theorem trip_placing (s : State) (z : Zone) : (s.trip z).placing = s.placing := by
  simp only [State.trip, setFlag_placing, placeMessage_placing]
  rfl

/-! ## Offers and grants -/

@[simp] theorem offerAll_placing (s : State) : s.offerAll.placing = s.placing := by
  have start (t : State) : t.startJob.placing = t.placing := by
    unfold State.startJob
    split <;> rfl
  have offer (t : State) : t.offerTile.placing = t.placing := by
    unfold State.offerTile
    split <;> rfl
  have hand (t : State) : t.handWrite.placing = t.placing := by
    unfold State.handWrite
    split <;> rfl
  have finishRun (t : State) : t.endRun.placing = t.placing := by
    unfold State.endRun
    split
    · split <;> rfl
    · rfl
  rw [State.offerAll, finishRun, hand, offer, start]

@[simp] theorem grantMessage_placing (s : State) (z : Zone) (m : Message) :
    (s.grantMessage z m).placing = s.placing := rfl

@[simp] theorem grantStream_placing (s : State) (w : TileWrite) : (s.grantStream w).placing = s.placing := by
  unfold State.grantStream
  split
  · rfl
  · rw [activity_placing]
    rfl

@[simp] theorem grantFill_placing (s : State) (w : TileWrite) : (s.grantFill w).placing = s.placing := by
  unfold State.grantFill
  split
  · rfl
  · rw [activity_placing]
    rfl

/-- A decision of the arbiter is the grant of a message, of a stream tile write or of a fill tile write (R96). -/
theorem arbitrate_cases {s t : State} (h : s.arbitrate = some t) :
    (∃ z m, t = s.grantMessage z m) ∨ (∃ w, t = s.grantStream w) ∨ ∃ w, t = s.grantFill w := by
  unfold State.arbitrate at h
  split at h
  · cases h
  · split at h
    · cases h
      exact .inl ⟨_, _, rfl⟩
    · split at h
      · cases h
        exact .inr (.inl ⟨_, rfl⟩)
      · cases h
        exact .inr (.inr ⟨_, rfl⟩)
      · split at h
        · cases h
          exact .inr (.inl ⟨_, rfl⟩)
        · cases h
          exact .inr (.inr ⟨_, rfl⟩)
      · cases h

theorem arbitrate_placing {s t : State} (h : s.arbitrate = some t) : t.placing = s.placing := by
  obtain ⟨z, m, rfl⟩ | ⟨w, rfl⟩ | ⟨w, rfl⟩ := arbitrate_cases h
  · exact grantMessage_placing s z m
  · exact grantStream_placing s w
  · exact grantFill_placing s w

@[simp] theorem pump_placing (n : Nat) (s : State) : (s.pump n).placing = s.placing := by
  induction n generalizing s with
  | zero => exact offerAll_placing s
  | succ n ih =>
    unfold State.pump
    split
    next t h => rw [ih, arbitrate_placing h, offerAll_placing]
    next => exact offerAll_placing s

@[simp] theorem abortTest_placing (s : State) : s.abortTest.placing = s.placing := by
  unfold State.abortTest
  split
  · split <;> rfl
  · rfl

/-! ## The end of an event -/

/-- Outside SETTLING there is no end of it to test (R137). -/
theorem settleTest_of_not_settling (s : State) (h : s.transition.state ≠ .settling) : s.settleTest = s := by
  simp [State.settleTest, h]

/-- Where an event (from s to t) leaves the table and the engine alone, so does its end, if no SETTLING is under way and
no packet waits. -/
theorem finish_placing {s t : State} (h : t.placing = s.placing) (hstate : s.transition.state ≠ .settling)
    (hqueue : s.router.linkQueue = []) : t.finish.placing = s.placing := by
  have pumped : (t.abortTest.pump (t.router.handing.length + 4)).placing = s.placing := by simp [h]
  have notSettling : (t.abortTest.pump (t.router.handing.length + 4)).transition.state ≠ .settling := by
    rwa [show State.transition _ = s.transition from congrArg Placing.transition pumped]
  have empty : t.router.linkQueue = [] := (congrArg Placing.linkQueue h).trans hqueue
  rw [State.finish, empty, State.settleLink, settleTest_of_not_settling _ notSettling]
  exact pumped

/-! ## The release of RESETN -/

@[simp] theorem startBlocks_placing (s : State) : s.startBlocks.placing = s.placing := by
  calc s.startBlocks.placing
    _ = (s.placeAllMessages.queueJob .background).placing := rfl
    _ = s.placing := by simp [State.placeAllMessages, zoneList]

@[simp] theorem releaseZone_placing (s : State) (z : Zone) : (s.releaseZone z).placing = s.placing := by
  unfold State.releaseZone
  dsimp only
  split
  · rw [trip_placing, updZone_placing]
  · exact updZone_placing s z _

/-- In the STEADY state, with no packet waiting, the release of RESETN changes neither the table nor the engine. -/
theorem releaseReset_placing (strap : Bool) (s : State) (hstate : s.transition.state = .steady)
    (hqueue : s.router.linkQueue = []) : (s.releaseReset strap).placing = s.placing := by
  have zones (t : State) : (zoneList.foldl (fun v z => v.releaseZone z) t).placing = t.placing := by
    simp [zoneList]
  have blocks (t : State) : (if t.pins.drstn then t else t.startBlocks).placing = t.placing := by
    split
    · rfl
    · exact startBlocks_placing t
  exact finish_placing ((blocks _).trans (zones _)) (by simp [hstate]) hqueue

/-- RESETN asserted and released leaves the table and the engine at their reset values (R42, R72). -/
theorem resetn_placing {s t u : State} {strap : Bool} (hassert : exec .resetnAssert s = .next t)
    (hrelease : exec (.resetnRelease strap) t = .next u) : u.table = Table.reset ∧ u.engine = Engine.reset := by
  cases hassert
  cases hrelease
  have released := releaseReset_placing strap s.resetHeld rfl rfl
  exact ⟨congrArg Placing.table released, congrArg Placing.engine released⟩

/-! ## The claim of a slot -/

/-- REGION CREATE leaves a slot as it stands or claims it (R24). -/
theorem regionCreate_record (ps : List Byte) (s : State) (i : Slot) :
    (regionCreate ps s).state.record i = s.record i
      ∨ ∃ c, (regionCreate ps s).state.record i = (s.record i).claimed c := by
  unfold regionCreate
  split
  · exact .inl rfl
  next c _ =>
    split
    · exact .inl rfl
    next j _ =>
      by_cases hj : j = i
      · subst hj
        exact .inr ⟨c, record_updRecord_self s j _⟩
      · exact .inl (record_updRecord_ne s j i _ hj)

/-- The command REGION_CREATE, whether a request of it is held or not, leaves a slot as it stands or claims it (R24). -/
theorem exec_regionCreate_record {v w : State} (h : exec .regionCreate v = .next w) (i : Slot) :
    w.record i = v.record i ∨ ∃ c, w.record i = (v.record i).claimed c := by
  change decideRequest 0x20 regionCreate v = .next w at h
  unfold decideRequest at h
  split at h
  next r _ =>
    split at h
    · cases h
      exact regionCreate_record r.params v i
    · cases h
      exact .inl rfl
  next =>
    cases h
    exact .inl rfl

/-- The claim of a slot with Generation 0 gives it Generation 1 (R24, R42). -/
theorem claimed_free_generation (c : Content) : ((Record.free 0).claimed c).generation = 1 := by
  simp [Record.claimed, Record.free, nextGeneration]

/-- The first REGION CREATE that claims a slot of Generation 0 gives it Generation 1 (R42). -/
theorem first_claim_generation {v w : State} {i : Slot} (hfree : v.record i = Record.free 0)
    (h : exec .regionCreate v = .next w) (hclaimed : (w.record i).lifecycle ≠ .free) :
    (w.record i).generation = 1 := by
  obtain kept | ⟨c, claimed⟩ := exec_regionCreate_record h i
  · rw [kept, hfree] at hclaimed
    exact absurd rfl hclaimed
  · rw [claimed, hfree]
    exact claimed_free_generation c

/-! ## The obligation -/

/-- Settles O47: RESETN leaves the table and the engine at their reset values, and a slot of Generation 0 is claimed
with Generation 1. -/
theorem afterResetn : Obligations.AfterResetn := by
  intro s t u strap hassert hrelease
  obtain ⟨htable, hengine⟩ := resetn_placing hassert hrelease
  have hrecord (i : Slot) : u.record i = Record.free 0 := by
    simp [State.record, htable, Table.reset]
  rw [htable, hengine]
  refine ⟨hrecord, rfl, rfl, ?_, rfl, rfl, rfl, ?_, rfl, rfl, rfl⟩
  · intro v w i hv hcreate hclaimed
    exact first_claim_generation (hv.trans (hrecord i)) hcreate hclaimed
  · intro n
    simp [Engine.reset, Map.empty]

end Sys2Proof.Machine

/-! SUPPORT. The Posture Sampler through a command: the operations of the link, the engine, the controller and the zones
leave it alone, the judging of a Sample leaves its class and the limits alone, and POSTURE SET and RESETN are the only
commands that write a limit. -/

namespace Sys2Proof.Machine

/-! ## Operations that leave the sampler alone -/

@[simp] theorem activity_sampler (s : State) (a : Activity) (z : Zone) : (s.activity a z).sampler = s.sampler :=
  congrArg Beyond.sampler (activity_beyond s a z)

@[simp] theorem removeJob_sampler (s : State) (k : Key) : (s.removeJob k).sampler = s.sampler :=
  congrArg Beyond.sampler (removeJob_beyond s k)

@[simp] theorem startBuild_sampler (s : State) (k : BuildKind) (l : Layout) :
    (s.startBuild k l).sampler = s.sampler := rfl

@[simp] theorem takeClaim_sampler (s : State) : s.takeClaim.sampler = s.sampler :=
  congrArg Beyond.sampler (takeClaim_beyond s)

@[simp] theorem enterIdle_sampler (s : State) : s.enterIdle.sampler = s.sampler :=
  congrArg Beyond.sampler (enterIdle_beyond s)

@[simp] theorem drainTest_sampler (s : State) : s.drainTest.sampler = s.sampler :=
  congrArg Beyond.sampler (drainTest_beyond s)

@[simp] theorem raiseTarget_sampler (s : State) : s.raiseTarget.sampler = s.sampler :=
  congrArg Beyond.sampler (raiseTarget_beyond s)

@[simp] theorem callStart_sampler (s : State) (l : Layout) : (s.callStart l).sampler = s.sampler :=
  congrArg Beyond.sampler (callStart_beyond s l)

@[simp] theorem settleTest_sampler (s : State) : s.settleTest.sampler = s.sampler :=
  congrArg Beyond.sampler (settleTest_beyond s)

@[simp] theorem closeFrame_sampler (s : State) (n : Fin 8) (r : FrameResult) :
    (s.closeFrame n r).sampler = s.sampler :=
  congrArg Beyond.sampler (closeFrame_beyond s n r)

@[simp] theorem takePacket_sampler (s : State) (p : Packet) : (s.takePacket p).sampler = s.sampler :=
  congrArg Beyond.sampler (takePacket_beyond s p)

@[simp] theorem trip_sampler (s : State) (z : Zone) : (s.trip z).sampler = s.sampler := by
  simp [State.trip]

@[simp] theorem placeAllMessages_sampler (s : State) : s.placeAllMessages.sampler = s.sampler := by
  simp [State.placeAllMessages, zoneList]

@[simp] theorem startBlocks_sampler (s : State) : s.startBlocks.sampler = s.sampler := by
  simp [State.startBlocks]

@[simp] theorem releaseZone_sampler (s : State) (z : Zone) : (s.releaseZone z).sampler = s.sampler := by
  unfold State.releaseZone
  dsimp only
  split <;> simp

/-- Operations one after another leave the sampler alone where each of them does. -/
theorem foldl_sampler {α : Type} {f : State → α → State} (hf : ∀ t a, (f t a).sampler = t.sampler) (l : List α)
    (s : State) : (l.foldl f s).sampler = s.sampler := by
  induction l generalizing s with
  | nil => rfl
  | cons a rest ih => rw [List.foldl_cons, ih, hf]

/-! ## The Transition Controller -/

@[simp] theorem abandonTarget_sampler (s : State) : s.abandonTarget.sampler = s.sampler := by
  unfold State.abandonTarget State.settleAbandoned
  dsimp only
  split
  · split <;> simp
  · split <;> simp
  · rfl
  · rfl

@[simp] theorem queueRecovery_sampler (s : State) : s.queueRecovery.sampler = s.sampler := by
  unfold State.queueRecovery
  rw [queueJob_sampler]
  exact foldl_sampler (fun t i => queueJob_sampler t (.region i)) _ s

@[simp] theorem cancel_sampler (s : State) : s.cancel.sampler = s.sampler := by
  unfold State.cancel
  dsimp only
  split <;> simp

@[simp] theorem actOnLayout_sampler (s : State) (l : Layout) : (s.actOnLayout l).sampler = s.sampler := by
  have cancelled : (if l = s.activeLayout then s.cancel else s).sampler = s.sampler := by
    split
    · exact cancel_sampler s
    · rfl
  unfold State.actOnLayout
  split
  · exact callStart_sampler s l
  · exact cancelled
  · exact cancelled
  · exact cancelled
  · exact cancelled
  · rfl

@[simp] theorem layoutRequest_sampler (s : State) (l : Layout) : (s.layoutRequest l).sampler = s.sampler := by
  unfold State.layoutRequest
  split <;> simp

@[simp] theorem unpin_sampler (s : State) : s.unpin.sampler = s.sampler := by
  unfold State.unpin
  dsimp only
  split <;> simp

@[simp] theorem abort_sampler (s : State) : s.abort.sampler = s.sampler := cancel_sampler s

/-! ## The scan start -/

@[simp] theorem enterQuarantine_sampler (s : State) (i : Slot) : (s.enterQuarantine i).sampler = s.sampler := by
  simp [State.enterQuarantine]

@[simp] theorem requeueJob_sampler (s : State) : s.requeueJob.sampler = s.sampler := by
  unfold State.requeueJob
  split <;> simp

@[simp] theorem settleRecords_sampler (s : State) (b : Build) : (s.settleRecords b).sampler = s.sampler :=
  foldl_sampler enterQuarantine_sampler _ s

@[simp] theorem giveShowing_sampler (s : State) (b : Build) (m : Map) : (s.giveShowing b m).sampler = s.sampler := rfl

@[simp] theorem queueSwapJobs_sampler (s : State) (included : Slot → Bool) (m : Map) :
    (s.queueSwapJobs included m).sampler = s.sampler := by
  have regions := foldl_sampler (fun t i => queueJob_sampler t (.region i)) (s.swapJobs included m) s
  unfold State.queueSwapJobs
  dsimp only
  split
  · rw [queueJob_sampler, regions]
  · exact regions

@[simp] theorem swapFlag_sampler (s : State) (b : Build) : (s.swapFlag b).sampler = s.sampler := by
  unfold State.swapFlag
  split
  · exact setFlag_sampler s _
  · split <;> simp
  · split <;> simp

@[simp] theorem applyTable_sampler (s : State) (l : Layout) (z : Zone) : (s.applyTable l z).sampler = s.sampler := by
  unfold State.applyTable
  split <;> simp

@[simp] theorem enterSettling_sampler (s : State) : s.enterSettling.sampler = s.sampler := by
  have tables := foldl_sampler (fun u z => applyTable_sampler u u.activeLayout z) zoneList s
  unfold State.enterSettling
  dsimp only
  split
  · rw [updTransition_sampler, setFlag_sampler, tables]
  · rw [updTransition_sampler, tables]

@[simp] theorem swap_sampler (s : State) (b : Build) (m : Map) : (s.swap b m).sampler = s.sampler := by
  unfold State.swap
  dsimp only
  split <;> simp

@[simp] theorem becomeStale_sampler (s : State) (i : Slot) : (s.becomeStale i).sampler = s.sampler := by
  unfold State.becomeStale
  dsimp only
  split <;> simp

@[simp] theorem staleTickAt_sampler (s : State) (i : Slot) : (s.staleTickAt i).sampler = s.sampler := by
  unfold State.staleTickAt
  dsimp only
  split
  · split <;> simp
  · rfl

@[simp] theorem staleTick_sampler (s : State) (eligible : Slot → Bool) : (s.staleTick eligible).sampler = s.sampler :=
  foldl_sampler staleTickAt_sampler _ s

@[simp] theorem advanceHold_sampler (s : State) : s.advanceHold.sampler = s.sampler := by
  unfold State.advanceHold
  split <;> rfl

@[simp] theorem scanStart_sampler (s : State) : s.scanStart.sampler = s.sampler := by
  unfold State.scanStart
  dsimp only
  split <;> simp [State.quarantineTick]

/-! ## Events of the other blocks -/

@[simp] theorem reportTouch_sampler (s : State) (a : Answer) (x : Nat) : (s.reportTouch a x).sampler = s.sampler := by
  unfold State.reportTouch
  split <;> simp

@[simp] theorem takePoint_sampler (s : State) (x y : Nat) : (s.takePoint x y).sampler = s.sampler := by
  unfold State.takePoint
  split <;> simp

@[simp] theorem takeVerify_sampler (s : State) (r : Nat) (g : BitVec 8) (x y : Nat) :
    (s.takeVerify r g x y).sampler = s.sampler := by
  unfold State.takeVerify
  split <;> simp

@[simp] theorem answerBadRequest_sampler (s : State) (code : Option Byte) :
    (s.answerBadRequest code).sampler = s.sampler := by
  unfold State.answerBadRequest
  split <;> rfl

@[simp] theorem packetArrives_sampler (s : State) (p : Packet) : (s.packetArrives p).sampler = s.sampler := by
  unfold State.packetArrives
  split
  · rfl
  · split <;> simp

@[simp] theorem takeTile_sampler (s : State) : s.takeTile.sampler = s.sampler := by
  unfold State.takeTile
  split
  · split <;> simp
  · simp
  · rfl

@[simp] theorem completeBuild_sampler (s : State) (b : Build) : (s.completeBuild b).sampler = s.sampler := by
  unfold State.completeBuild
  split
  · split <;> simp [State.failBuild, State.settleAbandoned]
  · simp [State.beginBlanking, State.dropHeldBack]
  · rfl

@[simp] theorem completeJob_sampler (s : State) (j : Job) : (s.completeJob j).sampler = s.sampler := by
  unfold State.completeJob State.reportJob
  split <;> rfl

@[simp] theorem takeRise_sampler (s : State) (z : Zone) : (s.takeRise z).sampler = s.sampler := by
  unfold State.takeRise
  dsimp only
  split <;> simp

@[simp] theorem claimRestore_sampler (s : State) : s.claimRestore.sampler = s.sampler := by
  unfold State.claimRestore
  split <;> simp

/-! ## Decisions -/

/-- A decision leaves the sampler alone, whatever it answers. -/
def KeepsSampler (d : List Byte → State → Decision) : Prop := ∀ ps s, (d ps s).state.sampler = s.sampler

@[simp] theorem refused_sampler (r : Result) (s : State) : (refused r s).state.sampler = s.sampler := rfl

@[simp] theorem answered_sampler (s : State) : (answered s).state.sampler = s.sampler := rfl

@[simp] theorem taken_sampler (s : State) : (taken s).state.sampler = s.sampler := finish_sampler s

@[simp] theorem reported_sampler (d : Data) (s : State) : (reported d s).state.sampler = s.sampler := rfl

/-- A decision command does nothing, or what its decision says for the parameters held (R180). -/
theorem decideRequest_cases {code : Byte} {d : List Byte → State → Decision} {s t : State}
    (h : decideRequest code d s = .next t) : t = s ∨ ∃ ps, t = (d ps s).respond code := by
  unfold decideRequest at h
  split at h
  · split at h
    · cases h
      exact .inr ⟨_, rfl⟩
    · cases h
      exact .inl rfl
  · cases h
    exact .inl rfl

theorem decideRequest_sampler {code : Byte} {d : List Byte → State → Decision} {s t : State} (hd : KeepsSampler d)
    (h : decideRequest code d s = .next t) : t.sampler = s.sampler := by
  obtain rfl | ⟨ps, rfl⟩ := decideRequest_cases h
  · rfl
  · exact hd ps s

theorem withoutParams_keepsSampler {d : State → Decision} (hd : ∀ s, (d s).state.sampler = s.sampler) :
    KeepsSampler (withoutParams d) := by
  intro ps s
  unfold withoutParams
  split
  · exact hd s
  · rfl

theorem eventClear_keepsSampler : KeepsSampler eventClear := by
  intro ps s
  unfold eventClear
  split
  · split <;> rfl
  · rfl

theorem eventMask_keepsSampler : KeepsSampler eventMask := by
  intro ps s
  unfold eventMask
  split
  · split <;> rfl
  · rfl

theorem geometrySet_keepsSampler : KeepsSampler geometrySet := by
  intro ps s
  unfold geometrySet
  split
  · rfl
  · split
    · rfl
    · split <;> simp [State.changeGeometry]

@[simp] theorem changeKeepOut_sampler (s : State) (i : Fin 8) (k : KeepOut) :
    (s.changeKeepOut i k).sampler = s.sampler := by
  unfold State.changeKeepOut
  dsimp only
  split <;> split <;> simp

theorem keepoutSet_keepsSampler : KeepsSampler keepoutSet := by
  intro ps s
  unfold keepoutSet
  split
  · rfl
  · split
    · rfl
    · split <;> simp

theorem keepoutClear_keepsSampler : KeepsSampler keepoutClear := by
  intro ps s
  unfold keepoutClear
  split
  · rfl
  · split
    · rfl
    · split <;> simp

theorem regionCreate_keepsSampler : KeepsSampler regionCreate := by
  intro ps s
  unfold regionCreate
  split
  · rfl
  · split <;> rfl

theorem edit_sampler (s : State) (ps : List Byte) (change : List Byte → Content → Option Content) :
    (s.edit ps change).state.sampler = s.sampler := by
  unfold State.edit
  split
  · rfl
  · split
    · rfl
    · split <;> rfl

theorem regionPlace_keepsSampler : KeepsSampler regionPlace := fun ps s => edit_sampler s ps _

theorem regionAttributes_keepsSampler : KeepsSampler regionAttributes := fun ps s => edit_sampler s ps _

theorem regionRetire_keepsSampler : KeepsSampler regionRetire := by
  intro ps s
  unfold regionRetire
  split
  · rfl
  · split
    · split <;> simp
    · rfl

theorem regionDiscard_keepsSampler : KeepsSampler regionDiscard := by
  intro ps s
  unfold regionDiscard
  split
  · rfl
  · split
    · split <;> simp
    · rfl

theorem regionRead_keepsSampler : KeepsSampler regionRead := by
  intro ps s
  unfold regionRead
  split
  · rfl
  · split
    · rfl
    · split <;> rfl

theorem tableSet_keepsSampler : KeepsSampler tableSet := by
  intro ps s
  unfold tableSet
  split <;> rfl

theorem commitSteady_sampler (s : State) : s.commitSteady.state.sampler = s.sampler := by
  unfold State.commitSteady
  split
  · rfl
  · split
    · rfl
    · split <;> rfl

theorem commit_keepsSampler : KeepsSampler commit := by
  refine withoutParams_keepsSampler fun s => ?_
  cases s.transition.state with
  | steady => exact commitSteady_sampler s
  | prepare | building | blanking | holding | settling => rfl

theorem mapRead_keepsSampler : KeepsSampler mapRead := by
  intro ps s
  unfold mapRead
  split <;> rfl

theorem streamSet_keepsSampler : KeepsSampler streamSet := by
  intro ps s
  unfold streamSet
  split <;> rfl

theorem backgroundSet_keepsSampler : KeepsSampler backgroundSet := by
  intro ps s
  unfold backgroundSet
  dsimp only
  split
  · rfl
  · split
    · rfl
    · split <;> simp

theorem scanSet_keepsSampler : KeepsSampler scanSet := by
  intro ps s
  unfold scanSet
  split <;> rfl

theorem layoutReady_keepsSampler : KeepsSampler layoutReady := by
  refine withoutParams_keepsSampler fun s => ?_
  split <;> simp

theorem layoutPin_keepsSampler : KeepsSampler layoutPin := by
  intro ps s
  unfold layoutPin
  split <;> simp

theorem layoutUnpin_keepsSampler : KeepsSampler layoutUnpin := withoutParams_keepsSampler fun s => by simp

theorem transitionAbort_keepsSampler : KeepsSampler transitionAbort := by
  refine withoutParams_keepsSampler fun s => ?_
  cases s.transition.state with
  | steady | settling => rfl
  | prepare | building | blanking | holding => simp

theorem transitionSet_keepsSampler : KeepsSampler transitionSet := by
  intro ps s
  unfold transitionSet
  split
  · rfl
  · split <;> rfl

theorem zoneMode_keepsSampler : KeepsSampler zoneMode := by
  intro ps s
  unfold zoneMode
  split
  · rfl
  · split <;> simp

theorem zoneTable_keepsSampler : KeepsSampler zoneTable := by
  intro ps s
  unfold zoneTable
  split <;> rfl

theorem zoneIdle_keepsSampler : KeepsSampler zoneIdle := by
  intro ps s
  unfold zoneIdle
  dsimp only
  split
  · rfl
  · split <;> simp

theorem zoneRestore_keepsSampler : KeepsSampler zoneRestore := by
  intro ps s
  unfold zoneRestore
  split
  · rfl
  · split
    · rfl
    · split <;> simp [State.restoreZone]

theorem lookup_keepsSampler : KeepsSampler lookup := by
  intro ps s
  unfold lookup
  split <;> simp

theorem verify_keepsSampler : KeepsSampler verify := by
  intro ps s
  unfold verify
  split <;> rfl

/-! ## The commands that leave the sampler alone -/

/-- The commands that act on the Posture Sampler: its own, and the reset edges that it takes (chapter 6, R122, R123). -/
def actsOnSampler : Instr → Bool
  | .postureSet => true
  | .intervalTimerExpiry => true
  | .measurementComplete _ => true
  | .resetnAssert => true
  | .resetnRelease _ => true
  | .drstnRelease => true
  | _ => false

theorem execRequest_sampler {frame : List Byte} {s t : State} (h : execRequest frame s = .next t) :
    t.sampler = s.sampler := by
  unfold execRequest at h
  split at h
  · cases h
    rfl
  · split at h
    · cases h
      exact setFlag_sampler _ _
    · split at h
      · cases h
        rfl
      · cases h
        exact answerBadRequest_sampler _ _

theorem execResponse_sampler {s t : State} (h : execResponse s = .next t) : t.sampler = s.sampler := by
  unfold execResponse at h
  split at h
  · cases h
    rfl
  · split at h <;> (cases h; rfl)

theorem execStatus_sampler {s t : State} (h : execStatus s = .next t) : t.sampler = s.sampler := by
  unfold execStatus at h
  split at h <;> (cases h; rfl)

theorem execRejectedWrite_sampler {bytes : List Byte} {s t : State} (h : execRejectedWrite bytes s = .next t) :
    t.sampler = s.sampler := by
  unfold execRejectedWrite at h
  split at h
  · cases h
    rfl
  · split at h
    · cases h
      exact takePoint_sampler s _ _
    · cases h
      exact takeVerify_sampler s _ _ _ _
    · cases h
      rfl

theorem execAnswerRead_sampler {s t : State} (h : execAnswerRead s = .next t) : t.sampler = s.sampler := by
  unfold execAnswerRead at h
  split at h <;> (cases h; rfl)

theorem execFrameTimerExpiry_sampler {n : Fin 8} {s t : State} (h : execFrameTimerExpiry n s = .next t) :
    t.sampler = s.sampler := by
  unfold execFrameTimerExpiry at h
  split at h <;> (cases h; simp)

theorem execBuildComplete_sampler {s t : State} (h : execBuildComplete s = .next t) : t.sampler = s.sampler := by
  unfold execBuildComplete at h
  split at h <;> (cases h; simp)

theorem execScanStart_sampler {s t : State} (h : execScanStart s = .next t) : t.sampler = s.sampler := by
  unfold execScanStart at h
  split at h <;> (cases h; simp)

theorem execSubstituteScanStart_sampler {s t : State} (h : execSubstituteScanStart s = .next t) :
    t.sampler = s.sampler := by
  unfold execSubstituteScanStart at h
  split at h <;> (cases h; simp)

theorem execTransferComplete_sampler {s t : State} (h : execTransferComplete s = .next t) :
    t.sampler = s.sampler := by
  unfold execTransferComplete at h
  split at h <;> (cases h; simp)

theorem execFillJobComplete_sampler {s t : State} (h : execFillJobComplete s = .next t) : t.sampler = s.sampler := by
  unfold execFillJobComplete at h
  split at h
  · split at h <;> (cases h; simp)
  · cases h
    rfl

theorem execPrepareTimerExpiry_sampler {s t : State} (h : execPrepareTimerExpiry s = .next t) :
    t.sampler = s.sampler := by
  unfold execPrepareTimerExpiry at h
  split at h <;> (cases h; simp)

theorem execZoneFaultRise_sampler {z : Zone} {s t : State} (h : execZoneFaultRise z s = .next t) :
    t.sampler = s.sampler := by
  unfold execZoneFaultRise at h
  split at h
  · cases h
    rfl
  · split at h <;> (cases h; simp)

theorem execZoneFaultFall_sampler {z : Zone} {s t : State} (h : execZoneFaultFall z s = .next t) :
    t.sampler = s.sampler := by
  unfold execZoneFaultFall at h
  split at h
  · split at h <;> (cases h; rfl)
  · cases h
    rfl

theorem execIdleTimerExpiry_sampler {z : Zone} {s t : State} (h : execIdleTimerExpiry z s = .next t) :
    t.sampler = s.sampler := by
  unfold execIdleTimerExpiry at h
  split at h <;> (cases h; simp)

theorem execDrstnAssert_sampler {s t : State} (h : execDrstnAssert s = .next t) : t.sampler = s.sampler := by
  unfold execDrstnAssert at h
  split at h
  · cases h
    rfl
  · split at h
    · cases h
      rfl
    · cases h
      exact claimRestore_sampler _

/-- A command that does not act on the Posture Sampler leaves it as it stands. -/
theorem exec_sampler {i : Instr} {s t : State} (hi : actsOnSampler i = false) (h : exec i s = .next t) :
    t.sampler = s.sampler := by
  cases i with
  | request => exact execRequest_sampler h
  | response => exact execResponse_sampler h
  | status => exact execStatus_sampler h
  | unknownKindTransaction => cases h; rfl
  | statusRead => exact decideRequest_sampler (withoutParams_keepsSampler fun _ => rfl) h
  | eventClear => exact decideRequest_sampler eventClear_keepsSampler h
  | eventMask => exact decideRequest_sampler eventMask_keepsSampler h
  | geometrySet => exact decideRequest_sampler geometrySet_keepsSampler h
  | geometryRead => exact decideRequest_sampler (withoutParams_keepsSampler fun _ => rfl) h
  | keepoutSet => exact decideRequest_sampler keepoutSet_keepsSampler h
  | keepoutClear => exact decideRequest_sampler keepoutClear_keepsSampler h
  | keepoutRead => exact decideRequest_sampler (withoutParams_keepsSampler fun _ => rfl) h
  | regionCreate => exact decideRequest_sampler regionCreate_keepsSampler h
  | regionPlace => exact decideRequest_sampler regionPlace_keepsSampler h
  | regionAttributes => exact decideRequest_sampler regionAttributes_keepsSampler h
  | regionRetire => exact decideRequest_sampler regionRetire_keepsSampler h
  | regionDiscard => exact decideRequest_sampler regionDiscard_keepsSampler h
  | regionRead => exact decideRequest_sampler regionRead_keepsSampler h
  | regionList => exact decideRequest_sampler (withoutParams_keepsSampler fun _ => rfl) h
  | tableSet => exact decideRequest_sampler tableSet_keepsSampler h
  | commit => exact decideRequest_sampler commit_keepsSampler h
  | mapRead => exact decideRequest_sampler mapRead_keepsSampler h
  | streamSet => exact decideRequest_sampler streamSet_keepsSampler h
  | streamRead => exact decideRequest_sampler (withoutParams_keepsSampler fun _ => rfl) h
  | backgroundSet => exact decideRequest_sampler backgroundSet_keepsSampler h
  | scanSet => exact decideRequest_sampler scanSet_keepsSampler h
  | fillRead => exact decideRequest_sampler (withoutParams_keepsSampler fun _ => rfl) h
  | postureSet => cases hi
  | postureRead => exact decideRequest_sampler (withoutParams_keepsSampler fun _ => rfl) h
  | layoutReady => exact decideRequest_sampler layoutReady_keepsSampler h
  | layoutPin => exact decideRequest_sampler layoutPin_keepsSampler h
  | layoutUnpin => exact decideRequest_sampler layoutUnpin_keepsSampler h
  | transitionAbort => exact decideRequest_sampler transitionAbort_keepsSampler h
  | transitionSet => exact decideRequest_sampler transitionSet_keepsSampler h
  | transitionRead => exact decideRequest_sampler (withoutParams_keepsSampler fun _ => rfl) h
  | zoneMode => exact decideRequest_sampler zoneMode_keepsSampler h
  | zoneTable => exact decideRequest_sampler zoneTable_keepsSampler h
  | zoneIdle => exact decideRequest_sampler zoneIdle_keepsSampler h
  | zoneRestore => exact decideRequest_sampler zoneRestore_keepsSampler h
  | zoneRead => exact decideRequest_sampler (withoutParams_keepsSampler fun _ => rfl) h
  | lookup => exact decideRequest_sampler lookup_keepsSampler h
  | verify => exact decideRequest_sampler verify_keepsSampler h
  | point x y => cases h; exact takePoint_sampler s _ _
  | lookupPortVerify r g x y => cases h; exact takeVerify_sampler s _ _ _ _
  | rejectedWrite => exact execRejectedWrite_sampler h
  | answerRead => exact execAnswerRead_sampler h
  | frameBegin => cases h; exact packetArrives_sampler s _
  | tileRun => cases h; exact packetArrives_sampler s _
  | streamTile => cases h; exact takeTile_sampler s
  | frameEnd => cases h; exact packetArrives_sampler s _
  | discardedPacket => cases h; exact packetArrives_sampler s _
  | frameTimerExpiry => exact execFrameTimerExpiry_sampler h
  | buildComplete => exact execBuildComplete_sampler h
  | scanStart => exact execScanStart_sampler h
  | substituteScanStart => exact execSubstituteScanStart_sampler h
  | transferComplete => exact execTransferComplete_sampler h
  | fillJobComplete => exact execFillJobComplete_sampler h
  | intervalTimerExpiry => cases hi
  | measurementComplete => cases hi
  | prepareTimerExpiry => exact execPrepareTimerExpiry_sampler h
  | zoneFaultRise => exact execZoneFaultRise_sampler h
  | zoneFaultFall => exact execZoneFaultFall_sampler h
  | idleTimerExpiry => exact execIdleTimerExpiry_sampler h
  | resetnAssert => cases hi
  | resetnRelease => cases hi
  | drstnAssert => exact execDrstnAssert_sampler h
  | drstnRelease => cases hi

/-! ## What the judging of a Sample leaves alone -/

/-- The phase, the Last Sample with its status and class, and the settings: what the judging of a Sample, which moves
the runs, the posture, the direction and BEND Applied, leaves alone (R113 to R117). -/
structure Unjudged where
  phase : SamplerPhase
  lastSample : Nat
  status : SampleStatus
  lastClass : Option HingeClass
  sampleInterval : Nat
  foldLimit : Nat
  openLimit : Nat
  debounce : Nat
  reportMode : ReportMode

/-- The part of a sampler that the judging of a Sample leaves alone. -/
def Sampler.unjudged (p : Sampler) : Unjudged :=
  { phase := p.phase, lastSample := p.lastSample, status := p.status, lastClass := p.lastClass,
    sampleInterval := p.sampleInterval, foldLimit := p.foldLimit, openLimit := p.openLimit, debounce := p.debounce,
    reportMode := p.reportMode }

@[simp] theorem followBend_unjudged (s : State) : s.followBend.sampler.unjudged = s.sampler.unjudged := by
  unfold State.followBend
  dsimp only
  split
  · rfl
  · split
    · rfl
    · rw [queueJob_sampler]
      rfl

@[simp] theorem raiseRequest_sampler (s : State) (p : Posture) : (s.raiseRequest p).sampler = s.sampler := by
  unfold State.raiseRequest
  split
  · rfl
  · split <;> simp

@[simp] theorem changePosture_unjudged (s : State) (c : HingeClass) :
    (s.changePosture c).sampler.unjudged = s.sampler.unjudged := by
  unfold State.changePosture
  dsimp only
  rw [raiseRequest_sampler]
  split
  · rw [setFlag_sampler, followBend_unjudged]
    rfl
  · rw [followBend_unjudged]
    rfl

@[simp] theorem judgeValid_unjudged (s : State) (c : HingeClass) :
    (s.judgeValid c).sampler.unjudged = s.sampler.unjudged := by
  unfold State.judgeValid
  dsimp only
  split
  · rfl
  · split
    · rw [changePosture_unjudged]
      rfl
    · rfl

@[simp] theorem loseSensor_unjudged (s : State) : s.loseSensor.sampler.unjudged = s.sampler.unjudged := by
  rw [State.loseSensor, setFlag_sampler, followBend_unjudged]
  rfl

@[simp] theorem judgeInvalid_unjudged (s : State) : s.judgeInvalid.sampler.unjudged = s.sampler.unjudged := by
  unfold State.judgeInvalid
  dsimp only
  split
  · rw [loseSensor_unjudged]
    rfl
  · rfl

/-! ## The completion of a measurement -/

/-- The class of a Sample with its status: none where it is invalid (R112). -/
def Sampler.classOf (p : Sampler) (sample : Nat) (status : SampleStatus) : Option HingeClass :=
  if status = .valid then some (p.classify sample) else none

/-- The sampler with a Sample recorded, waiting again (R110, R111, R112). -/
def Sampler.sampled (p : Sampler) (sample : Nat) (status : SampleStatus) : Sampler :=
  { p with phase := .waiting p.sampleInterval, lastSample := sample, status, lastClass := p.classOf sample status }

/-- A Sample taken is recorded with its class by the limits as they stood; the judging changes neither. -/
theorem takeSample_unjudged (s : State) (sample : Nat) (status : SampleStatus) :
    (s.takeSample sample status).sampler.unjudged = (s.sampler.sampled sample status).unjudged := by
  cases status with
  | valid => exact judgeValid_unjudged _ _
  | none | noSignal | saturated => exact judgeInvalid_unjudged _

/-- In MEASURING the completion records the Sample that the edges decide. -/
theorem exec_measurementComplete_unjudged {edges : List Nat} {s t : State} (hphase : s.sampler.phase = .measuring)
    (h : exec (.measurementComplete edges) s = .next t) :
    t.sampler.unjudged = (s.sampler.sampled (measure edges).1 (measure edges).2).unjudged := by
  change execMeasurementComplete edges s = .next t at h
  rw [execMeasurementComplete, hphase] at h
  cases h
  rw [finish_sampler, takeSample_unjudged]

/-- The class recorded at a completion is that of the Sample by the limits then in force (R112). -/
theorem exec_measurementComplete_lastClass {edges : List Nat} {s t : State} (hphase : s.sampler.phase = .measuring)
    (h : exec (.measurementComplete edges) s = .next t) :
    t.sampler.lastClass = s.sampler.classOf (measure edges).1 (measure edges).2 :=
  congrArg Unjudged.lastClass (exec_measurementComplete_unjudged hphase h)

theorem classify_folded {p : Sampler} {d : Nat} (h : d ≤ p.foldLimit) : p.classify d = .folded := if_pos h

theorem classify_partly {p : Sampler} {d : Nat} (hfold : p.foldLimit < d) (hopen : d < p.openLimit) :
    p.classify d = .partly := by
  rw [Sampler.classify, if_neg (by omega), if_pos hopen]

theorem classify_unfolded {p : Sampler} {d : Nat} (hlimits : p.foldLimit < p.openLimit) (hopen : p.openLimit ≤ d) :
    p.classify d = .unfolded := by
  rw [Sampler.classify, if_neg (by omega), if_neg (by omega)]

/-! ## The order of the limits -/

/-- The Fold Limit is below the Open Limit (R112, R120). -/
def Sampler.LimitsOrdered (p : Sampler) : Prop := p.foldLimit < p.openLimit

/-- The order of the limits is a matter of what no judging touches. -/
theorem limitsOrdered_of_unjudged {p q : Sampler} (h : q.unjudged = p.unjudged) (hp : p.LimitsOrdered) :
    q.LimitsOrdered := by
  have hfold : q.foldLimit = p.foldLimit := congrArg Unjudged.foldLimit h
  have hopen : q.openLimit = p.openLimit := congrArg Unjudged.openLimit h
  rwa [Sampler.LimitsOrdered, hfold, hopen]

/-- POSTURE SET refuses limits out of order (R120). -/
theorem postureSet_limitsOrdered (ps : List Byte) (s : State) (hs : s.sampler.LimitsOrdered) :
    (postureSet ps s).state.sampler.LimitsOrdered := by
  unfold postureSet
  split
  · exact hs
  · split
    next hlimits => exact hlimits
    next => exact hs

theorem execPostureSet_limitsOrdered {s t : State} (h : execPostureSet s = .next t) (hs : s.sampler.LimitsOrdered) :
    t.sampler.LimitsOrdered := by
  obtain rfl | ⟨ps, rfl⟩ := decideRequest_cases h
  · exact hs
  · exact postureSet_limitsOrdered ps s hs

theorem execIntervalTimerExpiry_limitsOrdered {s t : State} (h : execIntervalTimerExpiry s = .next t)
    (hs : s.sampler.LimitsOrdered) : t.sampler.LimitsOrdered := by
  unfold execIntervalTimerExpiry at h
  split at h <;> (cases h; exact hs)

theorem execMeasurementComplete_limitsOrdered {edges : List Nat} {s t : State}
    (h : execMeasurementComplete edges s = .next t) (hs : s.sampler.LimitsOrdered) : t.sampler.LimitsOrdered := by
  unfold execMeasurementComplete at h
  split at h
  · cases h
    rw [finish_sampler]
    exact limitsOrdered_of_unjudged (takeSample_unjudged s _ _) hs
  · cases h
    exact hs
  · cases h
    exact hs

/-- The release of RESETN starts the sampler's interval and changes nothing else of it (R122). -/
theorem releaseReset_sampler (s : State) (strap : Bool) :
    (s.releaseReset strap).sampler = { s.sampler with phase := .waiting s.sampler.sampleInterval } := by
  have zones := foldl_sampler releaseZone_sampler zoneList
  have blocks (t : State) : (if t.pins.drstn then t else t.startBlocks).sampler = t.sampler := by
    split
    · rfl
    · exact startBlocks_sampler t
  exact (finish_sampler _).trans ((blocks _).trans (zones _))

theorem execResetnRelease_limitsOrdered {strap : Bool} {s t : State} (h : execResetnRelease strap s = .next t)
    (hs : s.sampler.LimitsOrdered) : t.sampler.LimitsOrdered := by
  unfold execResetnRelease at h
  split at h
  · cases h
    rw [releaseReset_sampler]
    exact hs
  · cases h
    exact hs

theorem queueDeferredBend_unjudged (s : State) : s.queueDeferredBend.sampler.unjudged = s.sampler.unjudged := by
  unfold State.queueDeferredBend
  split
  · rw [queueJob_sampler]
    rfl
  · rfl

@[simp] theorem reportDeferredTrip_sampler (s : State) : s.reportDeferredTrip.sampler = s.sampler := by
  unfold State.reportDeferredTrip
  split <;> simp

@[simp] theorem requestImplied_sampler (s : State) : s.requestImplied.sampler = s.sampler := by
  unfold State.requestImplied
  split <;> simp

/-- The release of DRSTN changes of the sampler no more than whether a BEND job waits for it (R123). -/
theorem releaseRestart_unjudged (s : State) : s.releaseRestart.sampler.unjudged = s.sampler.unjudged := by
  have zones := foldl_sampler (fun v z => updZone_sampler v z ZoneState.startIdle) zoneList
  rw [State.releaseRestart, finish_sampler, requestImplied_sampler, zones, reportDeferredTrip_sampler,
    queueDeferredBend_unjudged, startBlocks_sampler]

theorem execDrstnRelease_limitsOrdered {s t : State} (h : execDrstnRelease s = .next t)
    (hs : s.sampler.LimitsOrdered) : t.sampler.LimitsOrdered := by
  unfold execDrstnRelease at h
  split at h
  · split at h
    · cases h
      exact hs
    · cases h
      exact limitsOrdered_of_unjudged (releaseRestart_unjudged s) hs
  · cases h
    exact hs

/-- Every command keeps the order of the limits. -/
theorem exec_limitsOrdered {i : Instr} {s t : State} (h : exec i s = .next t) (hs : s.sampler.LimitsOrdered) :
    t.sampler.LimitsOrdered := by
  cases i with
  | postureSet => exact execPostureSet_limitsOrdered h hs
  | intervalTimerExpiry => exact execIntervalTimerExpiry_limitsOrdered h hs
  | measurementComplete edges => exact execMeasurementComplete_limitsOrdered h hs
  | resetnAssert =>
    cases h
    show (1200 : Nat) < 3000
    omega
  | resetnRelease strap => exact execResetnRelease_limitsOrdered h hs
  | drstnRelease => exact execDrstnRelease_limitsOrdered h hs
  | _ => exact (exec_sampler rfl h).symm ▸ hs

/-- A law that the queue of commands does not enter is kept by a step where every command keeps it. -/
theorem keptByStep_of_exec {law : State → Prop} (hqueue : ∀ s rest, law s → law { s with pending := rest })
    (hexec : ∀ i s t, law s → exec i s = .next t → law t) : KeptByStep law := by
  intro s t hs h
  unfold step at h
  split at h
  next =>
    cases h
    exact hs
  next c rest _ => exact hexec c _ t (hqueue s rest hs) h

/-! ## The obligation -/

/-- Settles O37: a Sample is classified at its completion by the limits in force, which stay in order. -/
theorem sampleClasses : Obligations.SampleClasses := by
  refine ⟨?_, ?_, keptByStep_of_exec (fun _ _ hs => hs) (fun _ _ _ hs h => exec_limitsOrdered h hs), rfl, rfl⟩
  · rintro s t edges d hphase hmeasure h ⟨-, -, hlimits⟩
    have hclass : t.sampler.lastClass = some (s.sampler.classify d) := by
      rw [exec_measurementComplete_lastClass hphase h, hmeasure]
      rfl
    refine ⟨fun hfold => ?_, fun hfold hopen => ?_, fun hopen => ?_⟩
    · rw [hclass, classify_folded hfold]
    · rw [hclass, classify_partly hfold hopen]
    · rw [hclass, classify_unfolded hlimits hopen]
  · intro s t edges hphase hinvalid h
    rw [exec_measurementComplete_lastClass hphase h]
    exact if_neg hinvalid

end Sys2Proof.Machine

/-! CLAIM. The falling edge of a zone's fault line (R161): the zone's Fault Active and the level of the line are all
that it changes. -/

namespace Sys2Proof.Machine

/-- ZONE_FAULT_FALL on an active line, while RESETN is not asserted. -/
theorem exec_zoneFaultFall_taken {s : State} {z : Zone} (hresetn : s.pins.resetn = false)
    (hline : s.pins.faultLine.get z = true) : exec (.zoneFaultFall z) s =
      .next ((s.setLine z false).updZone z fun q => { q with faultActive := false }) := by
  show execZoneFaultFall z s = _
  rw [execZoneFaultFall, if_pos hline, if_neg (by simp [hresetn])]

@[simp] theorem zoneState_setLine (s : State) (z y : Zone) (level : Bool) :
    (s.setLine z level).zoneState y = s.zoneState y := rfl

/-- Settles O44: the edge is taken as one change of the line and one change of the zone, and each has its own frame. -/
theorem faultLineFalls : Obligations.FaultLineFalls := by
  intro s z hresetn hline
  refine ⟨_, exec_zoneFaultFall_taken hresetn hline, rfl, ?zones, ?faultActive, ?mode, ?flags, ?slots⟩
  case zones => rw [updZone_zones, setLine_zones, State.zoneState]
  case faultActive => rw [zoneState_updZone_self]
  case mode => rw [zoneState_updZone_self, zoneState_setLine]
  case flags => rw [updZone_port, setLine_port]
  case slots => rw [updZone_link, setLine_link]

end Sys2Proof.Machine

/-! SUPPORT. What a command can do to the state, said once: each command is a chain of the effects listed here, each
with what the model has tested before it acts, so that a law is kept by every step where every effect keeps it. -/

namespace Sys2Proof.Machine

/-! ## The effects -/

/-- The Control Port answers or takes a flag, the Lookup Unit's buffer changes, free values are used up (R166, R180,
R182). -/
inductive PortEffect (c : Instr) (s : State) : State → Prop where
  | write (p : Port) (free : Nat) (hflags : p.flags = s.port.flags ∨ c = .eventClear)
      (hport : p.request = none ∨ p.response = none
        ∨ (p.request = s.port.request ∧ p.response = s.port.response)) :
      PortEffect c s { s with port := p, freeCount := free }
  | flag (f : EventFlag) : PortEffect c s (s.setFlag f)
  | answer (a r : Option Answer) : PortEffect c s { s with lookup := { s.lookup with answer := a, returned := r } }

/-- The fill jobs and the link: queue and job, offers, hand-over, grants, messages, timers and a completed transfer
(R93 to R102). -/
inductive LinkEffect (c : Instr) (s : State) : State → Prop where
  | fill (f : Fill) (hqueue : s.fill.queue.Nodup → f.queue.Nodup) : LinkEffect c s { s with fill := f }
  | offer (w : Option TileWrite) (hkind : ∀ x, w = some x → x.kind ≠ .stream) :
      LinkEffect c s { s with link := { s.link with fillWaiting := w } }
  | hand (w : TileWrite) (rest : List TileWrite) (hhanding : s.router.handing = w :: rest) :
      LinkEffect c s { s with
        link := { s.link with streamWaiting := some w }, router := { s.router with handing := rest } }
  | dropStream : LinkEffect c s { s with link := { s.link with streamWaiting := none } }
  | grantStream (w : TileWrite) (hwaits : s.link.streamWaiting = some w) (hpasses : s.grantFails w = false)
      (hcount : s.link.fillWaiting = none ∨ s.link.fillWaitCount < 8) :
      LinkEffect c s { s with link := { s.link with
        flight := some (.tile w), streamWaiting := none,
        fillWaitCount := if s.link.fillWaiting.isSome then s.link.fillWaitCount + 1 else s.link.fillWaitCount } }
  | grantFill (w : TileWrite) (hwaits : s.link.fillWaiting = some w) (hpasses : s.grantFails w = false) :
      LinkEffect c s { s with link := { s.link with flight := some (.tile w), fillWaiting := none, fillWaitCount := 0 } }
  | grantMessage (z : Zone) (m : Message) (slots : PerZone (Option Message)) :
      LinkEffect c s { s with link := { s.link with flight := some (.message z m), slots } }
  | free : LinkEffect c s { s with link := { s.link with flight := none } }
  | settings (slots : PerZone (Option Message)) (interval : Nat) (timer : Option Nat) :
      LinkEffect c s { s with link := { s.link with slots, interval, timer } }
  | panel (p : Panel) (hc : c = .transferComplete) (hp : s.panel.wf = true → p.wf = true) :
      LinkEffect c s { s with panel := p }

/-- The zones, with the levels of their fault lines, but for a trip (R154 to R162). -/
inductive ZoneEffect (s : State) : State → Prop where
  | setTo (z : Zone) (on : Bool) : ZoneEffect s (s.updZone z (ZoneState.setTo on))
  | dim (z : Zone) : ZoneEffect s (s.updZone z (ZoneState.leaveOn .dim))
  | idle (z : Zone) (limit : Option Nat) (mask : Option (BitVec 3)) (dim : Option Nat)
      (hlimit : ∀ n, limit = some n → n ≤ 255) (hdim : ∀ n, dim = some n → n ≤ 255) :
      ZoneEffect s (s.updZone z (ZoneState.setIdle limit mask dim))
  | tables (folded unfolded : PerZone Bool) (deferred : Bool) :
      ZoneEffect s { s with zones := { s.zones with
        foldedTable := folded, unfoldedTable := unfolded, tripDeferred := deferred } }
  | edge (z : Zone) (level : Bool) (hresetn : s.pins.resetn = false) :
      ZoneEffect s ((s.setLine z level).updZone z fun q => { q with faultActive := level })
  | line (z : Zone) (level : Bool) (hresetn : s.pins.resetn = true) : ZoneEffect s (s.setLine z level)

/-- The Stream Router: the packets that wait, the streams with their frames, the run and its tiles (R74 to R86). -/
inductive FrameEffect (s : State) : State → Prop where
  | queue (q : List Packet) : FrameEffect s { s with router := { s.router with linkQueue := q } }
  | counts (counts : Vector Nat 32) (timeout : Nat) :
      FrameEffect s { s with router := { s.router with staleCounts := counts, frameTimeout := timeout } }
  | last (n : Fin 8) (r : FrameResult) : FrameEffect s (s.updStream n fun st => { st with last := r })
  | completed (n : Fin 8) : FrameEffect s (s.updStream n fun st => { st with completed := st.completed + 1 })
  | opened (n : Fin 8) (w h : Nat) (hrun : s.router.run = none)
      (hsize : 1 ≤ w ∧ w ≤ 128 ∧ 1 ≤ h ∧ h ≤ 112) : FrameEffect s (s.openFrame n w h)
  | closed (n : Fin 8) (r : FrameResult) (hrun : s.router.run = none ∨ s.router.streams[n].timerRuns = true) :
      FrameEffect s (s.updStream n fun st => { st with frame := none, last := r })
  | malformed (n : Fin 8) (f : Frame) (timer : Option Nat) (hrun : s.router.run = none)
      (hframe : s.router.streams[n].frame = some f) :
      FrameEffect s (s.updStream n fun st => { st with frame := some { f with malformed := true, timer } })
  | dropped (n : Fin 8) (tiles : List Pixels) (hrun : s.router.run = none)
      (hframe : ∀ f, s.router.streams[n].frame = some f → f.timer = none ∧ f.malformed = true) :
      FrameEffect s { s with router := { s.router with run := some { stream := n, tiles, routed := false } } }
  | routed (n : Fin 8) (tiles : List Pixels) (f : Frame) (hrun : s.router.run = none)
      (hframe : s.router.streams[n].frame = some f) (hfits : f.next + tiles.length ≤ f.width * f.height) :
      FrameEffect s ({ s with router := { s.router with run := some { stream := n, tiles, routed := true } } }.updStream n
        fun st => { st with frame := some { f with timer := none } })
  | tile (n : Fin 8) (px : Pixels) (rest : List Pixels) (f : Frame)
      (hrun : s.router.run = some { stream := n, tiles := px :: rest, routed := true })
      (hframe : s.router.streams[n].frame = some f) :
      FrameEffect s ({ s with router := { s.router with
        run := some { stream := n, tiles := rest, routed := true },
        handing := s.router.handing ++ s.tileWrites n f px } }.updStream n
          fun st => { st with frame := some { f with next := f.next + 1 } })
  | discarded (n : Fin 8) (px : Pixels) (rest : List Pixels)
      (hrun : s.router.run = some { stream := n, tiles := px :: rest, routed := false }) :
      FrameEffect s { s with router := { s.router with run := some { stream := n, tiles := rest, routed := false } } }
  | ended (n : Fin 8) (timeout : Nat) :
      FrameEffect s ({ s with router := { s.router with run := none } }.updStream n (Stream.restartTimer timeout))

/-- The Region Table: the claim of a slot, edits, retirement and discard, QUARANTINE, Stale and the settings (R24 to
R39). -/
inductive RecordEffect (c : Instr) (s : State) : State → Prop where
  | claimed (i : Slot) (x : Content) (hc : c = .regionCreate) (hfree : (s.record i).lifecycle = .free)
      (hfits : x.Fits s.geometry) : RecordEffect c s (s.updRecord i (Record.claimed x))
  | edited (i : Slot) (x : Content)
      (hlife : (s.record i).lifecycle = .staged ∨ (s.record i).lifecycle = .inService)
      (hbuild : (s.record i).inBuild = false) (hretire : (s.record i).retirePending = false)
      (hfits : s.PlacementsFit → x.Fits s.geometry) : RecordEffect c s (s.updRecord i (Record.edited x))
  | retiring (i : Slot) (hlife : (s.record i).lifecycle = .inService) (hbuild : (s.record i).inBuild = false) :
      RecordEffect c s (s.updRecord i Record.retiring)
  | discarded (i : Slot) (hlife : (s.record i).lifecycle = .inService) (hbuild : (s.record i).inBuild = false) :
      RecordEffect c s (s.updRecord i Record.discarded)
  | quarantined (i : Slot) (hlife : (s.record i).lifecycle = .staged) (hbuild : (s.record i).inBuild = false) :
      RecordEffect c s (s.updRecord i (Record.quarantined s.table.quarantineLength))
  | stale (i : Slot) (stale : Bool) (hshown : s.isShown i = true) :
      RecordEffect c s (s.updRecord i fun r => { r with stale })
  | tick : RecordEffect c s s.quarantineTick
  | settings (length : Nat) (retain : Bool) :
      RecordEffect c s { s with table := { s.table with quarantineLength := length, retain } }

/-- The swap of a READY map as far as the drain's test and the SETTLING test: the records, the banks, the Showing, the
jobs and the flag, and of a TARGET map the zones and SETTLING (R65 to R67, R134, R136). -/
def State.swapped (b : Build) (m : Map) (s : State) : State :=
  let t := ((((s.requeueJob.settleRecords b).exchange m).giveShowing b m).queueSwapJobs
    (fun i => (s.record i).inBuild) m).swapFlag b
  if b.kind = .target then t.enterSettling else t

/-- The fields of the Transition Controller after a cancel (R140). -/
def Transition.cancelled (q : Transition) : Transition :=
  { q with state := .steady, target := none, commitJoined := false, holdCount := 0, prepareTimer := none }

/-- The Placement Engine with what the records and the Transition Controller do at the same moment: the latch, builds,
drains, BLANKING, the swap and a cancel (R52 to R70, R127, R130, R140). -/
inductive EngineEffect (s : State) : State → Prop where
  | latched (hphase : s.engine.phase ≠ .idle) : EngineEffect s (s.updClaims fun q => { q with commitLatch := true })
  | conflict (pair : Nat × Nat) : EngineEffect s { s with engine := { s.engine with conflict := pair } }
  | commitBuild (hphase : s.engine.phase = .idle) : EngineEffect s (s.startBuild .commit s.activeLayout)
  | raised (hstate : s.transition.state = .prepare ∨ s.transition.prepareTimer.isSome = true) :
      EngineEffect s s.raiseTarget
  | drained (m : Map) (e : BitVec 16) (hphase : s.engine.phase = .draining m e) (hopen : s.frameOpenWith e = false) :
      EngineEffect s s.enterIdle
  | failed (b : Build) (hphase : s.engine.phase = .building b) (hkind : b.kind = .commit) :
      EngineEffect s s.settleAbandoned.enterIdle
  | ready (b : Build) (hphase : s.engine.phase = .building b) (hkind : b.kind ≠ .target) :
      EngineEffect s (s.becomeReady b)
  | blanked (b : Build) (hphase : s.engine.phase = .building b) (hkind : b.kind = .target) :
      EngineEffect s ((s.becomeReady b).updTransition fun t => { t with state := .blanking }).dropHeldBack
  | swapped (b : Build) (m : Map) (hdue : s.dueSwap = some (b, m)) : EngineEffect s (s.swapped b m)
  | cancelled (hsteady : s.transition.state ≠ .steady) (hsettling : s.transition.state ≠ .settling) :
      EngineEffect s (s.abandonTarget.updTransition Transition.cancelled)

/-- The Transition Controller alone (R124 to R148). -/
inductive TransitionEffect (s : State) : State → Prop where
  | settings (pin lastRequest : Option Layout) (setAside : Bool) :
      TransitionEffect s (s.updTransition fun q => { q with pin, lastRequest, setAside })
  | windows (window hold : Nat) (hstate : s.transition.state = .steady)
      (hhold : hold ≤ 7 ∨ hold = s.transition.blankHold) :
      TransitionEffect s (s.updTransition fun q => { q with prepareWindow := window, blankHold := hold })
  | joined (hstate : s.transition.state = .prepare) :
      TransitionEffect s (s.updTransition fun q => { q with commitJoined := true })
  | waiting (w : Option Layout) (hstate : s.transition.state = .settling)
      (hw : w = none ∨ w = some s.activeLayout.other) :
      TransitionEffect s (s.updTransition fun q => { q with waitingTarget := w })
  | started (layout : Layout) (hstate : s.transition.state = .steady) (hlayout : layout ≠ s.activeLayout) :
      TransitionEffect s (s.updTransition fun q =>
        { q with state := .prepare, target := some layout, waitingTarget := none, commitJoined := false,
                 holdCount := 0, prepareTimer := some q.prepareWindow })
  | holding (hstate : s.transition.state = .blanking) :
      TransitionEffect s (s.updTransition fun q => { q with state := .holding, holdCount := 0 })
  | held (hstate : s.transition.state = .holding) (hcount : s.transition.holdCount ≠ s.transition.blankHold) :
      TransitionEffect s (s.updTransition fun q => { q with holdCount := q.holdCount + 1 })
  | settled (hstate : s.transition.state = .settling) :
      TransitionEffect s (s.updTransition fun q => { q with state := .steady, target := none, waitingTarget := none })

/-- The Posture Sampler without a Sample judged (R110, R120, R123). -/
inductive SamplerEffect (s : State) : State → Prop where
  | phase (p : SamplerPhase) : SamplerEffect s (s.updSampler fun q => { q with phase := p })
  | edited (e : PostureEdit) (hdebounce : ∀ n, e.debounce = some n → 1 ≤ n)
      (hlimits : (e.apply s.sampler).foldLimit < (e.apply s.sampler).openLimit) :
      SamplerEffect s (s.updSampler e.apply)
  | undeferred : SamplerEffect s (s.updSampler fun q => { q with bendDeferred := false })

/-- The reset inputs, but for the release of RESETN: the assertions, an edge of DRSTN under RESETN, and what the zones
do at the release of DRSTN (R43, R72, R73, R165; log entry 7). -/
inductive ResetEffect (c : Instr) (s : State) : State → Prop where
  | held (hc : c = .resetnAssert) : ResetEffect c s s.resetHeld
  | restarted (hc : c = .drstnAssert) (hresetn : s.pins.resetn = false) :
      ResetEffect c s s.restartBlocks.claimRestore
  | level (level : Bool) (hresetn : s.pins.resetn = true) (hc : c = if level then .drstnAssert else .drstnRelease) :
      ResetEffect c s { s with pins := { s.pins with drstn := level } }
  | awake (hresetn : s.pins.resetn = false) (hc : c = .drstnRelease) :
      ResetEffect c s { s with
        pins := { s.pins with drstn := false }
        zones := { s.zones with
          zone := { rear := s.zones.zone.rear.startIdle, spine := s.zones.zone.spine.startIdle,
                    front := s.zones.zone.front.startIdle }
          tripDeferred := false } }

/-- What leaves a tile write on the link as lawful as it was (R94). -/
inductive Calm (c : Instr) (s : State) : State → Prop where
  | port {t : State} (h : PortEffect c s t) : Calm c s t
  | link {t : State} (h : LinkEffect c s t) : Calm c s t
  | zone {t : State} (h : ZoneEffect s t) : Calm c s t
  | frame {t : State} (h : FrameEffect s t) : Calm c s t
  | record {t : State} (h : RecordEffect c s t) : Calm c s t
  | engine {t : State} (h : EngineEffect s t) : Calm c s t
  | transition {t : State} (h : TransitionEffect s t) : Calm c s t
  | sampler {t : State} (h : SamplerEffect s t) : Calm c s t
  | reset {t : State} (h : ResetEffect c s t) : Calm c s t

/-- A zone of the panel as the release of RESETN leaves it: its FOLDED entry, or TRIPPED once where its fault line is
active (R164). -/
def ZoneState.released (on fault : Bool) : ZoneState :=
  { ZoneState.reset (if fault then .tripped else if on then .on else .off) with
    faultActive := fault, tripCount := if fault then 1 else 0 }

/-- The part as the release of RESETN leaves it before its blocks start: the strap taken, the sampler waiting, the zones
in their modes (R122, R164, R166). -/
def State.woken (addrsel deferred : Bool) (s : State) : State :=
  { s with
    pins := { s.pins with resetn := false }
    lookup := { s.lookup with address := if addrsel then 0x3B else 0x3A }
    sampler := { s.sampler with phase := .waiting s.sampler.sampleInterval }
    zones := { s.zones with
      zone := { rear := .released false s.pins.faultLine.rear, spine := .released true s.pins.faultLine.spine,
                front := .released true s.pins.faultLine.front }
      tripDeferred := deferred } }

/-- What may make a tile write on the link unlawful, so that the link has to settle after it: other geometry or
keep-outs, a Sample judged, a trip, the release of RESETN (R5, R13, R14, R117, R159, R164). -/
inductive Unsettling (c : Instr) (s : State) : State → Prop where
  | geometry (g : Geometry) (hrange : g.inRange = true) (hlock : s.geometryLock = false) :
      Unsettling c s { s with geometry := g }
  | keepOuts (ks : Vector (Option KeepOut) 8) : Unsettling c s { s with keepOuts := ks }
  | sample (d : Nat) (status : SampleStatus) : Unsettling c s { s with sampler := (s.takeSample d status).sampler }
  | tripped (z : Zone) (hresetn : s.pins.resetn = false) :
      Unsettling c s ((s.setLine z true).updZone z fun q =>
        { q with mode := .tripped, faultActive := true, idleTimer := none,
                 tripCount := if q.tripCount < 255 then q.tripCount + 1 else 255 })
  | released (addrsel deferred : Bool) (hresetn : s.pins.resetn = true)
      (hc : c = .resetnRelease addrsel) : Unsettling c s (s.woken addrsel deferred)

/-- One effect of a command. -/
def Does (c : Instr) (s t : State) : Prop := Calm c s t ∨ Unsettling c s t

/-- A chain of calm effects. -/
abbrev CalmChain (c : Instr) : State → State → Prop := Relation.ReflTransGen (Calm c)

/-- A chain of effects. -/
abbrev Chain (c : Instr) : State → State → Prop := Relation.ReflTransGen (Does c)

end Sys2Proof.Machine

/-! SUPPORT. The operations that commands share, the link's work and the packets, as chains of calm effects. -/

namespace Sys2Proof.Machine

/-! ## Shared operations as chains of calm effects -/

section
variable {c : Instr}

theorem calm_setFlag (s : State) (f : EventFlag) : CalmChain c s (s.setFlag f) := .single (.port (.flag f))

theorem calm_fill (s : State) (f : Fill) (h : s.fill.queue.Nodup → f.queue.Nodup) :
    CalmChain c s { s with fill := f } := .single (.link (.fill f h))

theorem calm_settings (s : State) (slots : PerZone (Option Message)) (interval : Nat) (timer : Option Nat) :
    CalmChain c s { s with link := { s.link with slots, interval, timer } } :=
  .single (.link (.settings slots interval timer))

theorem calm_placeMessage (s : State) (z : Zone) : CalmChain c s (s.placeMessage z) := by
  unfold State.placeMessage
  split
  · exact .refl
  · exact calm_settings s _ _ _

theorem calm_queueJob (s : State) (k : Key) : CalmChain c s (s.queueJob k) := by
  have h := queueJob_nodup s k
  rw [queueJob_eq] at h ⊢
  exact calm_fill s _ h

theorem calm_queueBlank (s : State) : CalmChain c s s.queueBlank := calm_fill s _ (queueBlank_nodup s)

theorem calm_stopJob (s : State) : CalmChain c s s.stopJob :=
  (calm_fill s { s.fill with job := none } id).tail (.link (.offer none (fun _ h => by cases h)))

theorem calm_removeJob (s : State) (k : Key) : CalmChain c s (s.removeJob k) := by
  have dequeued := calm_fill (c := c) s { s.fill with queue := s.fill.queue.filter fun q => q ≠ k } (List.Nodup.filter _)
  unfold State.removeJob
  dsimp only
  split
  · exact dequeued.trans (calm_stopJob _)
  · exact dequeued

/-- Operations one after another are a chain where each of them is. -/
theorem calm_foldl {α : Type} {f : State → α → State} (hf : ∀ t a, CalmChain c t (f t a)) (l : List α) (s : State) :
    CalmChain c s (l.foldl f s) := by
  induction l generalizing s with
  | nil => exact .refl
  | cons a rest ih => exact (hf s a).trans (ih _)

theorem calm_activity (s : State) (a : Activity) (z : Zone) : CalmChain c s (s.activity a z) := by
  have woken : CalmChain c s (s.updZone z ZoneState.turnOn) := .single (.zone (.setTo z true))
  unfold State.activity
  split
  · exact .refl
  · split
    · exact woken
    · exact woken.trans (calm_placeMessage _ z)
    · exact .refl
    · exact .refl

/-! ## Offers and grants -/

theorem calm_startJob (s : State) : CalmChain c s s.startJob := by
  unfold State.startJob
  split
  next k rest _ hqueue => exact calm_fill s _ fun h => (List.nodup_cons.mp (hqueue ▸ h)).2
  next => exact .refl

/-- A fill job offers fill tile writes alone. -/
theorem offerFor_kind {s : State} {k : Key} {t : Nat} {w : TileWrite} (h : s.offerFor k t = some w) :
    w.kind ≠ .stream := by
  simp only [State.offerFor, Option.bind_eq_some_iff] at h
  obtain ⟨x, -, hx⟩ := h
  split at hx
  · cases hx
  · cases hx
    exact WriteKind.noConfusion

theorem calm_offerTile (s : State) : CalmChain c s s.offerTile := by
  unfold State.offerTile
  split
  next j _ _ =>
    dsimp only
    refine (calm_fill s { s.fill with job := some { j with position := _ } } id).tail (.link (.offer _ ?_))
    intro x hx
    split at hx
    · exact offerFor_kind hx
    · cases hx
  next => exact .refl

theorem calm_handWrite (s : State) : CalmChain c s s.handWrite := by
  unfold State.handWrite
  split
  next w rest _ hhanding => exact .single (.link (.hand w rest hhanding))
  next => exact .refl

theorem calm_endRun (s : State) : CalmChain c s s.endRun := by
  unfold State.endRun
  split
  next n _ _ =>
    split
    · exact .single (.frame (.ended n s.router.frameTimeout))
    · exact .refl
  next => exact .refl

theorem calm_offerAll (s : State) : CalmChain c s s.offerAll :=
  (((calm_startJob s).trans (calm_offerTile _)).trans (calm_handWrite _)).trans (calm_endRun _)

theorem calm_advanceJob (s : State) : CalmChain c s s.advanceJob := calm_fill s _ id

theorem calm_grantStream (s : State) (w : TileWrite) (hwaits : s.link.streamWaiting = some w)
    (hcount : s.link.fillWaiting = none ∨ s.link.fillWaitCount < 8) : CalmChain c s (s.grantStream w) := by
  unfold State.grantStream
  split
  next => exact .single (.link .dropStream)
  next hpasses =>
    exact Relation.ReflTransGen.trans
      (.single (.link (.grantStream w hwaits (Bool.eq_false_iff.mpr hpasses) hcount))) (calm_activity _ _ _)

theorem calm_grantFill (s : State) (w : TileWrite) (hwaits : s.link.fillWaiting = some w) :
    CalmChain c s (s.grantFill w) := by
  unfold State.grantFill
  split
  next =>
    exact Relation.ReflTransGen.trans (.single (.link (.offer none (fun _ h => by cases h)))) (calm_advanceJob _)
  next hpasses =>
    exact (Relation.ReflTransGen.trans (.single (.link (.grantFill w hwaits (Bool.eq_false_iff.mpr hpasses))))
      (calm_advanceJob _)).trans (calm_activity _ _ _)

/-- What the arbiter has found where it decides: a message, the stream tile write that waits, or the fill tile write
that waits (R96). -/
theorem arbitrate_waits {s t : State} (h : s.arbitrate = some t) :
    (∃ z m, t = s.grantMessage z m)
      ∨ (∃ w, s.link.streamWaiting = some w ∧ (s.link.fillWaiting = none ∨ s.link.fillWaitCount < 8)
        ∧ t = s.grantStream w)
      ∨ ∃ w, s.link.fillWaiting = some w ∧ t = s.grantFill w := by
  unfold State.arbitrate at h
  split at h
  · cases h
  · split at h
    · cases h
      exact .inl ⟨_, _, rfl⟩
    · split at h
      next w hs hf =>
        cases h
        exact .inr (.inl ⟨w, hs, .inl hf, rfl⟩)
      next w hs hf =>
        cases h
        exact .inr (.inr ⟨w, hf, rfl⟩)
      next w f hs hf =>
        split at h
        next hcount =>
          cases h
          exact .inr (.inl ⟨w, hs, .inr hcount, rfl⟩)
        next =>
          cases h
          exact .inr (.inr ⟨f, hf, rfl⟩)
      next => cases h

theorem calm_arbitrate {s t : State} (h : s.arbitrate = some t) : CalmChain c s t := by
  obtain ⟨z, m, rfl⟩ | ⟨w, hw, hcount, rfl⟩ | ⟨w, hw, rfl⟩ := arbitrate_waits h
  · exact .single (.link (.grantMessage z m _))
  · exact calm_grantStream s w hw hcount
  · exact calm_grantFill s w hw

theorem calm_pump (n : Nat) (s : State) : CalmChain c s (s.pump n) := by
  induction n generalizing s with
  | zero => exact calm_offerAll s
  | succ n ih =>
    unfold State.pump
    split
    next t h => exact ((calm_offerAll s).trans (calm_arbitrate h)).trans (ih t)
    next => exact calm_offerAll s

theorem calm_abortTest (s : State) : CalmChain c s s.abortTest := by
  unfold State.abortTest
  split
  · split
    · exact .single (.link .free)
    · exact .refl
  · exact .refl

/-! ## Transitions and drains -/

theorem calm_callStart (s : State) (l : Layout) : CalmChain c s (s.callStart l) := by
  unfold State.callStart
  split
  next h =>
    have started : CalmChain c s ((s.updTransition fun q =>
        { q with state := .prepare, target := some l, waitingTarget := none, commitJoined := false,
                 holdCount := 0, prepareTimer := some q.prepareWindow }).setFlag .transitionStarted) :=
      Relation.ReflTransGen.trans (.single (.transition (.started l h.1 h.2.1))) (calm_setFlag _ _)
    dsimp only
    split
    · exact started.tail (.engine (.raised (.inl (by simp))))
    · exact started
  next => exact .refl

theorem calm_settleTest (s : State) : CalmChain c s s.settleTest := by
  unfold State.settleTest
  split
  next h =>
    have settled : CalmChain c s ((s.updTransition fun q =>
        { q with state := .steady, target := none, waitingTarget := none }).setFlag .transitionDone) :=
      Relation.ReflTransGen.trans (.single (.transition (.settled h.1))) (calm_setFlag _ _)
    dsimp only
    split
    · exact settled.trans (calm_callStart _ _)
    · exact settled
  next => exact .refl

theorem calm_drainTest (s : State) : CalmChain c s s.drainTest := by
  unfold State.drainTest
  split
  next m e hphase =>
    split
    · exact .refl
    next h => exact .single (.engine (.drained m e hphase (Bool.eq_false_iff.mpr h)))
  · exact .refl
  · exact .refl
  · exact .refl

/-! ## Packets -/

theorem calm_closeFrame (s : State) (n : Fin 8) (r : FrameResult)
    (hrun : s.router.run = none ∨ s.router.streams[n].timerRuns = true) : CalmChain c s (s.closeFrame n r) :=
  Relation.ReflTransGen.trans (.single (.frame (.closed n r hrun))) (calm_drainTest _)

theorem calm_setResult (s : State) (n : Fin 8) (r : FrameResult) : CalmChain c s (s.setResult n r) :=
  .single (.frame (.last n r))

theorem calm_takeFrameBegin (s : State) (n : Fin 8) (w h : Nat) (hrun : s.router.run = none) :
    CalmChain c s (s.takeFrameBegin n w h) := by
  unfold State.takeFrameBegin
  split
  next hsize =>
    split
    · exact (((calm_setResult s n .aborted).trans (calm_setFlag _ .streamAborted)).tail
        (.frame (.opened n w h (by simpa [State.setResult] using hrun) hsize))).trans (calm_drainTest _)
    · exact .single (.frame (.opened n w h hrun hsize))
  next => exact calm_setResult s n .malformed

theorem calm_dropRun (s : State) (n : Fin 8) (tiles : List Pixels) (hrun : s.router.run = none)
    (hframe : tiles ≠ [] → ∀ f, s.router.streams[n].frame = some f → f.timer = none ∧ f.malformed = true) :
    CalmChain c s (s.dropRun n tiles) := by
  unfold State.dropRun
  split
  next => exact .refl
  next h => exact .single (.frame (.dropped n tiles hrun (hframe (by simpa using h))))

/-- A stream after a change of it. -/
@[simp] theorem streams_updStream_self (s : State) (n : Fin 8) (f : Stream → Stream) :
    (s.updStream n f).router.streams[n] = f s.router.streams[n] :=
  Vec.modify_get_self _ n f

theorem streams_updStream_ne (s : State) (n k : Fin 8) (f : Stream → Stream) (h : n ≠ k) :
    (s.updStream n f).router.streams[k] = s.router.streams[k] :=
  Vec.modify_get_ne _ n k f h

@[simp] theorem run_updStream (s : State) (n : Fin 8) (f : Stream → Stream) :
    (s.updStream n f).router.run = s.router.run := rfl

theorem calm_takeTileRun (s : State) (n : Fin 8) (start count : Nat) (tiles : List Pixels)
    (hrun : s.router.run = none) (hlength : tiles.length = count) :
    CalmChain c s (s.takeTileRun n start count tiles) := by
  unfold State.takeTileRun
  split
  next hclosed =>
    refine (calm_setResult s n .orphan).trans (calm_dropRun _ n tiles hrun fun _ f hf => ?_)
    rw [State.setResult, streams_updStream_self] at hf
    exact absurd (hclosed.symm.trans hf) (by simp)
  next f hframe =>
    split
    next =>
      refine Relation.ReflTransGen.trans (.single (.frame (.malformed n f _ hrun hframe)))
        (calm_dropRun _ n tiles hrun fun htiles g hg => ?_)
      rw [streams_updStream_self] at hg
      cases hg
      simp [htiles]
    next h => exact .single (.frame (.routed n tiles f hrun hframe (by omega)))

theorem calm_clearStale (bs : List Binding) (s : State) : CalmChain c s (s.clearStale bs) := by
  refine calm_foldl (fun t b => ?_) bs s
  split
  next h =>
    exact Relation.ReflTransGen.trans (.single (.record (.stale b.region false h)))
      (.single (.frame (.counts _ _)))
  next => exact .refl

/-- The records bound to a complete frame change; the run does not. -/
theorem clearStale_run (bs : List Binding) (s : State) : (s.clearStale bs).router.run = s.router.run := by
  unfold State.clearStale
  induction bs generalizing s with
  | nil => rfl
  | cons b rest ih =>
    rw [List.foldl_cons, ih]
    split <;> rfl

theorem calm_takeFrameEnd (s : State) (n : Fin 8) (hrun : s.router.run = none) :
    CalmChain c s (s.takeFrameEnd n) := by
  unfold State.takeFrameEnd
  split
  · exact calm_setResult s n .orphan
  · split
    · exact calm_closeFrame s n _ (.inl hrun)
    · split
      · exact calm_closeFrame s n _ (.inl hrun)
      · exact ((calm_clearStale _ s).tail (.frame (.completed n))).trans
          (calm_closeFrame _ n _ (.inl ((clearStale_run _ s).trans hrun)))

theorem calm_takePacket (s : State) (p : Packet) (hrun : s.router.run = none) : CalmChain c s (s.takePacket p) := by
  unfold State.takePacket
  split
  · split
    · exact calm_takeFrameBegin s _ _ _ hrun
    · exact .refl
  · split
    · split
      next h => exact calm_takeTileRun s _ _ _ _ hrun h.1
      next => exact .refl
    · exact .refl
  · split
    · exact calm_takeFrameEnd s _ hrun
    · exact .refl
  · exact .refl

/-- The router can take a packet where no stream tile write waits and no run is being taken (R74, R97). -/
theorem linkOpen_iff (s : State) : s.linkOpen = true ↔ s.link.streamWaiting = none ∧ s.router.run = none := by
  simp [State.linkOpen]

theorem calm_takePackets (n : Nat) (s : State) : CalmChain c s (s.takePackets n) := by
  induction n generalizing s with
  | zero => exact .refl
  | succ n ih =>
    unfold State.takePackets
    split
    next hopen =>
      split
      · exact .refl
      next p rest _ =>
        have left : CalmChain c s { s with router := { s.router with linkQueue := rest } } := .single (.frame (.queue rest))
        exact (left.trans (calm_takePacket _ p ((linkOpen_iff s).mp hopen).2)).trans (ih _)
    next => exact .refl

theorem calm_settleLink (s : State) : CalmChain c s s.settleLink :=
  ((calm_abortTest s).trans (calm_pump _ _)).trans (calm_settleTest _)

/-- The end of an event is a chain of calm effects. -/
theorem calm_finish (s : State) : CalmChain c s s.finish := (calm_settleLink s).trans (calm_takePackets _ _)

theorem calm_packetArrives (s : State) (p : Packet) : CalmChain c s (s.packetArrives p) := by
  unfold State.packetArrives
  split
  · exact .refl
  · split
    next h =>
      rw [Bool.and_eq_true] at h
      exact calm_takePacket s p ((linkOpen_iff s).mp h.1).2
    next => exact .single (.frame (.queue _))

theorem calm_takeTile (s : State) : CalmChain c s s.takeTile := by
  unfold State.takeTile
  split
  next n px rest hrun _ =>
    split
    next f hframe => exact (Relation.ReflTransGen.single (.frame (.tile n px rest f hrun hframe))).trans (calm_finish _)
    next => exact .refl
  next n px rest hrun _ =>
    exact (Relation.ReflTransGen.single (.frame (.discarded n px rest hrun))).trans (calm_finish _)
  next => exact .refl

end

end Sys2Proof.Machine

/-! SUPPORT. Transitions, builds, scan starts, zones, lookups and a Sample judged, as chains of effects. -/

namespace Sys2Proof.Machine

section
variable {c : Instr}

/-! ## The Transition Controller -/

/-- Removing a job and changing the controller's fields are independent. -/
theorem removeJob_updTransition (s : State) (k : Key) (f : Transition → Transition) :
    (s.removeJob k).updTransition f = (s.updTransition f).removeJob k := by
  rw [removeJob_eq, removeJob_eq]
  rfl

theorem calm_queueRecovery (s : State) : CalmChain c s s.queueRecovery :=
  (calm_foldl (fun t i => calm_queueJob t (.region i)) _ s).trans (calm_queueJob _ .background)

/-- What operations one after another leave alone, each of them leaves alone. -/
theorem foldl_frame {α β : Type} (g : State → β) {f : State → α → State} (hf : ∀ t a, g (f t a) = g t) (l : List α)
    (s : State) : g (l.foldl f s) = g s := by
  induction l generalizing s with
  | nil => rfl
  | cons a rest ih => rw [List.foldl_cons, ih, hf]

/-- Recovery jobs change the fill queue alone. -/
theorem queueRecovery_transition (s : State) : s.queueRecovery.transition = s.transition :=
  (queueJob_transition _ _).trans (foldl_frame State.transition (fun t i => queueJob_transition t (.region i)) _ s)

theorem calm_cancel (s : State) (hsteady : s.transition.state ≠ .steady) (hsettling : s.transition.state ≠ .settling) :
    CalmChain c s s.cancel := by
  have recovered (r : State) (hr : r.transition = s.transition) :
      CalmChain c r (((r.abandonTarget.removeJob .blank).updTransition Transition.cancelled).setFlag
        .transitionCancelled) := by
    rw [removeJob_updTransition]
    exact ((Relation.ReflTransGen.single (.engine (.cancelled (hr ▸ hsteady) (hr ▸ hsettling)))).trans
      (calm_removeJob _ .blank)).trans (calm_setFlag _ _)
  unfold State.cancel
  dsimp only
  split
  · exact (calm_queueRecovery s).trans (recovered _ (queueRecovery_transition s))
  · exact recovered s rfl

/-- The layout that is not the active one is the other. -/
theorem layout_eq_other {l a : Layout} (h : l ≠ a) : l = a.other := by
  cases l with
  | folded =>
    cases a with
    | folded => exact absurd rfl h
    | unfolded => rfl
  | unfolded =>
    cases a with
    | folded => rfl
    | unfolded => exact absurd rfl h

theorem calm_actOnLayout (s : State) (l : Layout) : CalmChain c s (s.actOnLayout l) := by
  have cancelled (hsteady : s.transition.state ≠ .steady) (hsettling : s.transition.state ≠ .settling) :
      CalmChain c s (if l = s.activeLayout then s.cancel else s) := by
    split
    · exact calm_cancel s hsteady hsettling
    · exact .refl
  unfold State.actOnLayout
  split
  next h => exact calm_callStart s l
  next h => exact cancelled (by simp [h]) (by simp [h])
  next h => exact cancelled (by simp [h]) (by simp [h])
  next h => exact cancelled (by simp [h]) (by simp [h])
  next h => exact cancelled (by simp [h]) (by simp [h])
  next h =>
    refine .single (.transition (.waiting _ h ?_))
    split
    · exact .inl rfl
    next hl => exact .inr (congrArg some (layout_eq_other hl))

theorem calm_pinned (s : State) (pin lastRequest : Option Layout) (setAside : Bool) :
    CalmChain c s (s.updTransition fun q => { q with pin, lastRequest, setAside }) :=
  .single (.transition (.settings pin lastRequest setAside))

theorem calm_layoutRequest (s : State) (l : Layout) : CalmChain c s (s.layoutRequest l) := by
  unfold State.layoutRequest
  split
  · exact calm_pinned s s.transition.pin (some l) true
  · exact (calm_pinned s s.transition.pin (some l) false).trans (calm_actOnLayout _ l)

theorem calm_unpin (s : State) : CalmChain c s s.unpin := by
  have unpinned := calm_pinned (c := c) s none s.transition.lastRequest false
  unfold State.unpin
  dsimp only
  split
  · exact unpinned.trans (calm_actOnLayout _ _)
  · exact unpinned

theorem calm_abort (s : State) (hsteady : s.transition.state ≠ .steady) (hsettling : s.transition.state ≠ .settling) :
    CalmChain c s s.abort :=
  (calm_cancel s hsteady hsettling).trans (calm_pinned _ (some s.activeLayout) _ _)

/-! ## Builds and scan starts -/

theorem calm_completeBuild (s : State) (b : Build) (hphase : s.engine.phase = .building b) :
    CalmChain c s (s.completeBuild b) := by
  unfold State.completeBuild
  split
  next hkind =>
    split
    next pair _ =>
      have told : CalmChain c s (State.setFlag .commitFailed { s with engine := { s.engine with
          conflict := (regionId pair.1, regionId pair.2) } }) :=
        Relation.ReflTransGen.trans (.single (.engine (.conflict _))) (calm_setFlag _ _)
      exact told.tail (.engine (.failed b (by simp [hphase]) hkind))
    next => exact .single (.engine (.ready b hphase (by simp [hkind])))
  next hkind =>
    exact ((Relation.ReflTransGen.single (.engine (.blanked b hphase hkind))).trans (calm_queueBlank _)).trans
      (calm_finish _)
  next hkind => exact .single (.engine (.ready b hphase (by simp [hkind])))

theorem calm_setStaleCount (s : State) (i : Slot) (n : Nat) : CalmChain c s (s.setStaleCount i n) :=
  .single (.frame (.counts _ _))

theorem calm_becomeStale (s : State) (i : Slot) (hshown : s.isShown i = true) : CalmChain c s (s.becomeStale i) := by
  have stale := Relation.ReflTransGen.trans (.single (.record (.stale i true hshown)))
    (calm_setFlag (c := c) (s.updRecord i fun r => { r with stale := true }) .regionStale)
  unfold State.becomeStale
  dsimp only
  split
  · exact stale.trans (calm_queueJob _ _)
  · exact stale

theorem calm_staleTickAt (s : State) (i : Slot) : CalmChain c s (s.staleTickAt i) := by
  unfold State.staleTickAt
  split
  next hcounted =>
    have hshown : s.isShown i = true := by
      simp only [State.counted, Bool.and_eq_true] at hcounted
      exact hcounted.1.1.1
    dsimp only
    split
    · exact (calm_setStaleCount s i _).trans (calm_becomeStale _ i hshown)
    · exact calm_setStaleCount s i _
  next => exact .refl

theorem calm_staleTick (s : State) (eligible : Slot → Bool) : CalmChain c s (s.staleTick eligible) :=
  calm_foldl calm_staleTickAt _ s

/-- The scan start orders the swap in HOLDING with the Hold Count at the Blank Hold (R133). -/
theorem swapOrdered_iff (s : State) : s.swapOrdered = true ↔
    s.transition.state = .holding ∧ s.transition.holdCount = s.transition.blankHold := by
  simp [State.swapOrdered]

theorem calm_advanceHold (s : State) : CalmChain c s s.advanceHold := by
  unfold State.advanceHold
  split
  next h =>
    simp only [Bool.and_eq_true, Bool.not_eq_true', decide_eq_true_eq] at h
    refine .single (.transition (.held h.1 fun e => ?_))
    rw [(swapOrdered_iff s).mpr ⟨h.1, e⟩] at h
    exact absurd h.2 (by simp)
  next => exact .refl

/-- A swap is what it settles, then the drain's test and of a TARGET map the SETTLING test (R69, R137). -/
theorem swap_eq (s : State) (b : Build) (m : Map) : s.swap b m =
    if b.kind = .target then (s.swapped b m).drainTest.settleTest else (s.swapped b m).drainTest := by
  unfold State.swap State.swapped
  cases b.kind <;> rfl

theorem calm_swap (s : State) (b : Build) (m : Map) (hdue : s.dueSwap = some (b, m)) : CalmChain c s (s.swap b m) := by
  have drained := (Relation.ReflTransGen.single (.engine (.swapped b m hdue))).trans
    (calm_drainTest (c := c) (s.swapped b m))
  rw [swap_eq]
  split
  · exact drained.trans (calm_settleTest _)
  · exact drained

theorem calm_scanStart (s : State) : CalmChain c s s.scanStart := by
  have ticked : CalmChain c s s.quarantineTick := .single (.record .tick)
  unfold State.scanStart
  dsimp only
  split
  next b m hdue => exact ((ticked.trans (calm_swap _ b m hdue)).trans (calm_staleTick _ _)).trans (calm_finish _)
  next => exact ((ticked.trans (calm_advanceHold _)).trans (calm_staleTick _ _)).trans (calm_finish _)

theorem calm_restartSubstitute (s : State) : CalmChain c s s.restartSubstitute := calm_settings s _ _ _

theorem calm_completeJob (s : State) (j : Job) : CalmChain c s (s.completeJob j) := by
  have freed := calm_fill (c := c) s { s.fill with job := none } id
  unfold State.completeJob State.reportJob
  split
  next h => exact freed.tail (.transition (.holding h.2))
  next => exact freed

/-! ## Zones and lookups -/

theorem calm_reportTouch (s : State) (a : Answer) (x : Nat) : CalmChain c s (s.reportTouch a x) := by
  unfold State.reportTouch
  split
  · exact (calm_activity s _ _).trans (calm_finish _)
  · exact .refl

theorem calm_answer (s : State) (a r : Option Answer) :
    CalmChain c s { s with lookup := { s.lookup with answer := a, returned := r } } := .single (.port (.answer a r))

theorem calm_takePoint (s : State) (x y : Nat) : CalmChain c s (s.takePoint x y) := by
  unfold State.takePoint
  split
  · exact .refl
  · exact (calm_answer s _ _).trans (calm_reportTouch _ _ x)

theorem calm_takeVerify (s : State) (r : Nat) (g : BitVec 8) (x y : Nat) : CalmChain c s (s.takeVerify r g x y) := by
  unfold State.takeVerify
  split
  · exact .refl
  · exact calm_answer s _ _

theorem calm_restoreZone (s : State) (z : Zone) : CalmChain c s (s.restoreZone z) :=
  ((Relation.ReflTransGen.single (.zone (.setTo z _))).trans (calm_placeMessage _ z)).trans (calm_queueJob _ _)

theorem calm_placeAllMessages (s : State) : CalmChain c s s.placeAllMessages := calm_foldl calm_placeMessage _ s

/-! ## A Sample judged -/

theorem calm_raiseRequest (s : State) (p : Posture) : CalmChain c s (s.raiseRequest p) := by
  unfold State.raiseRequest
  split
  · exact .refl
  · split
    · exact calm_layoutRequest s _
    · exact .refl

/-- What an operation does beyond the sampler's own fields is a chain of calm effects. -/
def Judged (c : Instr) (s t : State) : Prop := CalmChain c { s with sampler := t.sampler } t

/-- Changing the sampler first makes no difference to what follows it. -/
theorem judged_updSampler {s t : State} {f : Sampler → Sampler} (h : Judged c (s.updSampler f) t) : Judged c s t := h

theorem judged_setFlag {s t : State} (f : EventFlag) (h : Judged c s t) : Judged c s (t.setFlag f) := by
  unfold Judged
  rw [setFlag_sampler]
  exact h.trans (calm_setFlag t f)

theorem judged_raiseRequest {s t : State} (p : Posture) (h : Judged c s t) : Judged c s (t.raiseRequest p) := by
  unfold Judged
  rw [raiseRequest_sampler]
  exact h.trans (calm_raiseRequest t p)

theorem judged_followBend (s : State) : Judged c s s.followBend := by
  unfold Judged State.followBend
  split
  · exact .refl
  · dsimp only
    split
    · exact .refl
    · rw [queueJob_sampler]
      exact calm_queueJob _ .bend

theorem judged_changePosture (s : State) (x : HingeClass) : Judged c s (s.changePosture x) := by
  unfold State.changePosture
  dsimp only
  refine judged_raiseRequest x.posture ?_
  split
  · exact judged_setFlag .postureChanged (judged_updSampler (judged_followBend _))
  · exact judged_updSampler (judged_followBend _)

theorem judged_judgeValid (s : State) (x : HingeClass) : Judged c s (s.judgeValid x) := by
  unfold State.judgeValid
  dsimp only
  split
  · exact .refl
  · split
    · exact judged_updSampler (judged_changePosture _ x)
    · exact .refl

theorem judged_judgeInvalid (s : State) : Judged c s s.judgeInvalid := by
  unfold State.judgeInvalid
  dsimp only
  split
  · exact judged_setFlag .sensorLost (judged_updSampler (judged_updSampler (judged_followBend _)))
  · exact .refl

theorem judged_takeSample (s : State) (d : Nat) (status : SampleStatus) : Judged c s (s.takeSample d status) := by
  cases status with
  | valid => exact judged_updSampler (judged_judgeValid _ _)
  | none | noSignal | saturated => exact judged_updSampler (judged_judgeInvalid _)

end

end Sys2Proof.Machine

/-! SUPPORT. The decisions of held requests as chains of effects, after which the link settles where it must. -/

namespace Sys2Proof.Machine

section
variable {c : Instr}

/-- The link settles after whatever may make a tile write on it unlawful. -/
def Settles (c : Instr) (s t : State) : Prop :=
  CalmChain c s t ∨ ∃ u, Chain c s u ∧ CalmChain c u.finish t

theorem CalmChain.chain {s t : State} (h : CalmChain c s t) : Chain c s t := by
  induction h with
  | refl => exact .refl
  | tail _ h ih => exact ih.tail (.inl h)

theorem CalmChain.settles {s t : State} (h : CalmChain c s t) : Settles c s t := .inl h

/-- The end of an event settles whatever came before it. -/
theorem Chain.settles {s t : State} (h : Chain c s t) : Settles c s t.finish := .inr ⟨t, h, .refl⟩

theorem Settles.calm {s t u : State} (h : Settles c s t) (hu : CalmChain c t u) : Settles c s u := by
  obtain h | ⟨v, hv, h⟩ := h
  · exact .inl (h.trans hu)
  · exact .inr ⟨v, hv, h.trans hu⟩

/-- What a command does is a chain of effects. -/
theorem Settles.chain {s t : State} (h : Settles c s t) : Chain c s t := by
  obtain h | ⟨v, hv, h⟩ := h
  · exact h.chain
  · exact (hv.trans (calm_finish v).chain).trans h.chain

/-- One unsettling effect, then calm ones, then the end of the event. -/
theorem Unsettling.settles {s t u : State} (h : Unsettling c s t) (hu : CalmChain c t u) : Settles c s u.finish :=
  Chain.settles (.head (.inr h) hu.chain)

/-! ## Decisions -/

/-- A decision does no more than the effects listed. -/
def DecisionSettles (c : Instr) (d : List Byte → State → Decision) : Prop := ∀ ps s, Settles c s (d ps s).state

theorem calm_refl (s : State) : Settles c s s := .inl .refl

/-- The Control Port changes in a way that never holds a request on top of a response. -/
theorem calm_port (s : State) (p : Port) (free : Nat) (hflags : p.flags = s.port.flags ∨ c = .eventClear)
    (hport : p.request = none ∨ p.response = none ∨ (p.request = s.port.request ∧ p.response = s.port.response)) :
    CalmChain c s { s with port := p, freeCount := free } := .single (.port (.write p free hflags hport))

theorem calm_respond (d : Decision) (code : Byte) : CalmChain c d.state (d.respond code) :=
  calm_port d.state { d.state.port with
    request := none, response := some { code, result := d.result, data := d.data } } _ (.inl rfl) (.inl rfl)

theorem decideRequest_settles {code : Byte} {d : List Byte → State → Decision} {s t : State}
    (hd : DecisionSettles c d) (h : decideRequest code d s = .next t) : Settles c s t := by
  obtain rfl | ⟨ps, rfl⟩ := decideRequest_cases h
  · exact calm_refl _
  · exact (hd ps s).calm (calm_respond _ code)

theorem withoutParams_settles {d : State → Decision} (hd : ∀ s, Settles c s (d s).state) :
    DecisionSettles c (withoutParams d) := by
  intro ps s
  unfold withoutParams
  split
  · exact hd s
  · exact calm_refl s

theorem calm_taken {s t : State} (h : CalmChain c s t) : Settles c s (taken t).state :=
  .inl (h.trans (calm_finish t))

theorem eventClear_settles : DecisionSettles .eventClear eventClear := by
  intro ps s
  unfold eventClear
  split
  · split
    next set _ =>
      exact (calm_port s { s.port with flags := s.port.flags &&& ~~~set } s.freeCount (.inr rfl)
        (.inr (.inr ⟨rfl, rfl⟩))).settles
    · exact calm_refl s
  · exact calm_refl s

theorem eventMask_settles : DecisionSettles c eventMask := by
  intro ps s
  unfold eventMask
  split
  · split
    next set _ =>
      exact (calm_port s { s.port with mask := set } s.freeCount (.inl rfl) (.inr (.inr ⟨rfl, rfl⟩))).settles
    · exact calm_refl s
  · exact calm_refl s

theorem geometryParams_inRange {ps : List Byte} {g : Geometry} (h : geometryParams ps = some g) : g.inRange = true := by
  unfold geometryParams at h
  split at h
  · dsimp only at h
    split at h
    next hrange =>
      cases h
      exact hrange
    next => cases h
  · cases h

theorem geometrySet_settles : DecisionSettles c geometrySet := by
  intro ps s
  unfold geometrySet
  split
  · exact calm_refl s
  next g hg =>
    split
    · exact calm_refl s
    next hlock =>
      split
      · exact calm_refl s
      · exact (Unsettling.geometry g (geometryParams_inRange hg) (Bool.eq_false_iff.mpr hlock)).settles
          ((calm_placeAllMessages _).trans (calm_queueJob _ .background))

theorem keepoutSet_settles : DecisionSettles c keepoutSet := by
  intro ps s
  unfold keepoutSet
  split
  · exact calm_refl s
  next i k _ =>
    split
    · exact calm_refl s
    · split
      · exact calm_refl s
      · refine (Unsettling.keepOuts (Vec.modify s.keepOuts i fun _ => some k)).settles ?_
        unfold State.changeKeepOut
        dsimp only
        split <;> split
        · exact (calm_queueJob _ _).trans (calm_queueJob _ _)
        · exact calm_queueJob _ _
        · exact calm_queueJob _ _
        · exact .refl

/-- Entries cleared where none is present leave the list as it is (R14). -/
theorem clearKeepOuts_absent (s : State) (which : Option (Fin 8)) (h : s.clearsPresent which = false) :
    s.clearKeepOuts which = s := by
  have entry (i : Fin 8) : (if clearsEntry which i then none else s.keepOuts[i]) = s.keepOuts[i] := by
    simp only [State.clearsPresent, List.any_eq_false, List.mem_finRange, true_implies, Bool.and_eq_true, not_and,
      Bool.not_eq_true, Option.isSome_eq_false_iff, Option.isNone_iff_eq_none] at h
    split
    next hi => exact (h i hi).symm
    next => rfl
  have list : (Vec.tabulate fun i => if clearsEntry which i then none else s.keepOuts[i]) = s.keepOuts := by
    refine Vector.ext fun i hi => ?_
    exact (Vec.tabulate_get_val _ ⟨i, hi⟩).trans (entry ⟨i, hi⟩)
  show { s with keepOuts := _ } = s
  rw [list]

theorem keepoutClear_settles : DecisionSettles c keepoutClear := by
  intro ps s
  unfold keepoutClear
  split
  · exact calm_refl s
  next which _ =>
    split
    · exact calm_refl s
    · split
      · exact (Unsettling.keepOuts _).settles (calm_queueJob _ .background)
      next h =>
        show Settles c s (s.clearKeepOuts which)
        rw [clearKeepOuts_absent s which (Bool.eq_false_iff.mpr h)]
        exact calm_refl s

/-! ## Contents and records -/

theorem admitted_of_some {g : Geometry} {layout : Layout} {p : Part} (hp : p.admitted g layout = true) :
    ∀ q, some p = some q → q.admitted g layout = true := by
  rintro q ⟨⟩
  exact hp

theorem admitted_of_none {g : Geometry} {layout : Layout} :
    ∀ q : Part, none = some q → q.admitted g layout = true := nofun

/-- A part replaced by an admitted one keeps a content's parts within their faces (R26). -/
theorem Content.Fits.setPart {g : Geometry} {x : Content} {layout : Layout} {p : Part} (hx : x.Fits g)
    (hp : p.admitted g layout = true) : (x.setPart layout (some p)).Fits g := by
  obtain ⟨-, hfolded, hunfolded⟩ := hx
  cases layout with
  | folded => exact ⟨.inl rfl, admitted_of_some hp, hunfolded⟩
  | unfolded => exact ⟨.inr rfl, hfolded, admitted_of_some hp⟩

/-- A part removed beside another one keeps a content's parts within their faces (R26). -/
theorem Content.Fits.remove {g : Geometry} {x : Content} {layout : Layout} (hx : x.Fits g)
    (hother : (x.part layout.other).isSome = true) : (x.setPart layout none).Fits g := by
  obtain ⟨-, hfolded, hunfolded⟩ := hx
  cases layout with
  | folded => exact ⟨.inr hother, admitted_of_none, hunfolded⟩
  | unfolded => exact ⟨.inl hother, hfolded, admitted_of_none⟩

theorem partField_admitted {g : Geometry} {layout : Layout} {bytes : List Byte} {p : Part}
    (h : partField g layout bytes = some p) : p.admitted g layout = true := by
  unfold partField at h
  split at h
  · simp only [Option.bind_eq_some_iff] at h
    obtain ⟨face, -, source, -, h⟩ := h
    split at h
    next hp =>
      cases h
      exact hp
    next => cases h
  · cases h

theorem placeChange_fits {g : Geometry} {ps : List Byte} {x y : Content} (h : placeChange g ps x = some y)
    (hx : x.Fits g) : y.Fits g := by
  unfold placeChange at h
  split at h
  · simp only [Option.bind_eq_some_iff] at h
    obtain ⟨layout, -, h⟩ := h
    split at h
    · split at h
      next hother =>
        cases h
        exact hx.remove hother
      next => cases h
    · simp only [Option.map_eq_some_iff] at h
      obtain ⟨p, hp, rfl⟩ := h
      exact hx.setPart (partField_admitted hp)
  · cases h

theorem attributesChange_fits {g : Geometry} {ps : List Byte} {x y : Content} (h : attributesChange ps x = some y)
    (hx : x.Fits g) : y.Fits g := by
  simp only [attributesChange, Option.bind_eq_some_iff] at h
  obtain ⟨e, -, h⟩ := h
  split at h
  · cases h
    exact hx
  · cases h

theorem regionCreateParams_fits {g : Geometry} {ps : List Byte} {x : Content}
    (h : regionCreateParams g ps = some x) : x.Fits g := by
  unfold regionCreateParams at h
  split at h
  · simp only [Option.bind_eq_some_iff, Option.map_eq_some_iff] at h
    obtain ⟨layout, -, p, hp, e, -, rfl⟩ := h
    have hadmitted := partField_admitted hp
    cases layout with
    | folded => exact ⟨.inl rfl, admitted_of_some hadmitted, admitted_of_none⟩
    | unfolded => exact ⟨.inr rfl, admitted_of_none, admitted_of_some hadmitted⟩
  · cases h

/-- The lowest FREE slot is FREE (R24). -/
theorem freeSlot_free {s : State} {i : Slot} (h : s.freeSlot = some i) : (s.record i).lifecycle = .free := by
  simpa using List.find?_some h

theorem regionCreate_settles : DecisionSettles .regionCreate regionCreate := by
  intro ps s
  unfold regionCreate
  split
  · exact calm_refl s
  next x hx =>
    split
    · exact calm_refl s
    next i hi =>
      exact .inl (.single (.record (.claimed i x rfl (freeSlot_free hi) (regionCreateParams_fits hx))))

/-- A slot that an edit names is STAGED or IN_SERVICE and not In Build (R25). -/
theorem namedSlot_ok {s : State} {ps rest : List Byte} {i : Slot} (h : s.namedSlot ps = .ok (i, rest)) :
    ((s.record i).lifecycle = .staged ∨ (s.record i).lifecycle = .inService) ∧ (s.record i).inBuild = false := by
  unfold State.namedSlot at h
  split at h
  · cases h
  · split at h
    · cases h
    · split at h
      · cases h
      · cases h
      next hlife =>
        split at h
        · cases h
        next hbuild =>
          cases h
          exact ⟨.inl hlife, Bool.eq_false_iff.mpr hbuild⟩
      next hlife =>
        split at h
        · cases h
        next hbuild =>
          cases h
          exact ⟨.inr hlife, Bool.eq_false_iff.mpr hbuild⟩

/-- What an edit changes is the pending copy or the live one (R25). -/
theorem editBase_fits {s : State} {i : Slot} {x : Content} (h : (s.record i).editBase = some x)
    (hlife : (s.record i).lifecycle = .staged ∨ (s.record i).lifecycle = .inService) (hs : s.PlacementsFit) :
    x.Fits s.geometry := by
  obtain ⟨hlive, hpending⟩ := hs i hlife
  unfold Record.editBase at h
  split at h
  next y hy => exact hpending x (hy.trans h)
  next => exact hlive x h

theorem edit_settles (s : State) (ps : List Byte) (change : List Byte → Content → Option Content)
    (hfits : ∀ rest x y, change rest x = some y → x.Fits s.geometry → y.Fits s.geometry) :
    Settles c s (s.edit ps change).state := by
  unfold State.edit
  split
  · exact calm_refl s
  next i rest hnamed =>
    obtain ⟨hlife, hbuild⟩ := namedSlot_ok hnamed
    split
    · exact calm_refl s
    next hretire =>
      split
      · exact calm_refl s
      next y hy =>
        obtain ⟨x, hbase, hchange⟩ := Option.bind_eq_some_iff.mp hy
        exact .inl (.single (.record (.edited i y hlife hbuild (Bool.eq_false_iff.mpr hretire)
          fun hs => hfits rest x y hchange (editBase_fits hbase hlife hs))))

/-- A STAGED record enters QUARANTINE at once (R29, R31, R36). -/
theorem calm_enterQuarantine (s : State) (i : Slot) (hlife : (s.record i).lifecycle = .staged)
    (hbuild : (s.record i).inBuild = false) : CalmChain c s (s.enterQuarantine i) :=
  ((Relation.ReflTransGen.single (.record (.quarantined i hlife hbuild))).trans (calm_removeJob _ _)).trans
    (calm_setStaleCount _ i 0)

theorem regionRetire_settles : DecisionSettles c regionRetire := by
  intro ps s
  unfold regionRetire
  split
  · exact calm_refl s
  next i rest hnamed =>
    obtain ⟨hlife, hbuild⟩ := namedSlot_ok hnamed
    split
    · split
      next hstaged => exact calm_taken (calm_enterQuarantine s i hstaged hbuild)
      next hstaged =>
        exact .inl (.single (.record (.retiring i (hlife.resolve_left hstaged) hbuild)))
    · exact calm_refl s

theorem regionDiscard_settles : DecisionSettles c regionDiscard := by
  intro ps s
  unfold regionDiscard
  split
  · exact calm_refl s
  next i rest hnamed =>
    obtain ⟨hlife, hbuild⟩ := namedSlot_ok hnamed
    split
    · split
      next hstaged => exact calm_taken (calm_enterQuarantine s i hstaged hbuild)
      next hstaged =>
        exact .inl (.single (.record (.discarded i (hlife.resolve_left hstaged) hbuild)))
    · exact calm_refl s

theorem regionRead_settles : DecisionSettles c regionRead := by
  intro ps s
  unfold regionRead
  split
  · exact calm_refl s
  · split
    · exact calm_refl s
    · split <;> exact calm_refl s

theorem tableSet_settles : DecisionSettles c tableSet := by
  intro ps s
  unfold tableSet
  split
  · exact calm_refl s
  · exact .inl (.single (.record (.settings _ _)))

/-! ## The engine, the streams and the link -/

theorem commitSteady_settles (s : State) : Settles c s s.commitSteady.state := by
  unfold State.commitSteady
  split
  · exact calm_refl s
  · split
    · exact calm_refl s
    · split
      next hidle => exact .inl (.single (.engine (.commitBuild (by simpa [State.engineIdle] using hidle))))
      next hidle => exact .inl (.single (.engine (.latched (by simpa [State.engineIdle] using hidle))))

theorem commit_settles : DecisionSettles c commit := by
  refine withoutParams_settles fun s => ?_
  split
  next => exact commitSteady_settles s
  next hstate => exact .inl (.single (.transition (.joined hstate)))
  all_goals exact calm_refl s

theorem mapRead_settles : DecisionSettles c mapRead := by
  intro ps s
  unfold mapRead
  split <;> exact calm_refl s

theorem streamSet_settles : DecisionSettles c streamSet := by
  intro ps s
  unfold streamSet
  split
  · exact calm_refl s
  · exact .inl (.single (.frame (.counts _ _)))

theorem setBackground_queue (f : Fill) (l : Layout) (x : Colour) : (f.setBackground l x).queue = f.queue := by
  cases l <;> rfl

theorem backgroundSet_settles : DecisionSettles c backgroundSet := by
  intro ps s
  unfold backgroundSet
  split
  · exact calm_refl s
  next l x _ =>
    have coloured : CalmChain c s { s with fill := s.fill.setBackground l x } :=
      calm_fill s _ fun h => (setBackground_queue s.fill l x).symm ▸ h
    split
    · exact calm_refl s
    · dsimp only
      split
      · exact calm_taken (coloured.trans (calm_queueJob _ .background))
      · exact coloured.settles

theorem scanSet_settles : DecisionSettles c scanSet := by
  intro ps s
  unfold scanSet
  split
  · exact calm_refl s
  · exact (calm_settings s _ _ _).settles

theorem counted_settles (s : State) (n : Nat) : Settles c s { s with freeCount := n } :=
  (calm_port s s.port n (.inl rfl) (.inr (.inr ⟨rfl, rfl⟩))).settles

/-! ## Posture, transitions and zones -/

/-- A field that a presence bit governs holds a value that its check has let through (R186). -/
theorem optField_value {α : Type} {present : Bool} {size : Nat} {read : List Byte → Option α} {ps rest : List Byte}
    {o : Option α} (h : optField present size read ps = some (o, rest)) : ∀ v, o = some v → ∃ bs, read bs = some v := by
  rintro v rfl
  unfold optField at h
  split at h
  · split at h
    · simp only [Option.map_eq_some_iff, Prod.mk.injEq, Option.some.injEq] at h
      obtain ⟨x, hx, rfl, -⟩ := h
      exact ⟨_, hx⟩
    · cases h
  · simp at h

/-- A one-byte number in a range is in it. -/
theorem byte1_inRange {lo hi v : Nat} {bs : List Byte} (h : byte1 (fun b => inRange lo hi b.toNat) bs = some v) :
    lo ≤ v ∧ v ≤ hi := by
  unfold byte1 at h
  split at h
  · dsimp only [inRange] at h
    split at h
    next hrange =>
      cases h
      exact hrange
    next => cases h
  · cases h

theorem byte1_toNat {v : Nat} {bs : List Byte} (h : byte1 (fun b => some b.toNat) bs = some v) : v ≤ 255 := by
  unfold byte1 at h
  split at h
  next b =>
    cases h
    exact Nat.le_of_lt_succ b.isLt
  next => cases h

theorem postureSetParams_debounce {ps : List Byte} {e : PostureEdit} (h : postureSetParams ps = some e) :
    ∀ n, e.debounce = some n → 1 ≤ n := by
  unfold postureSetParams at h
  split at h
  · cases h
  · split at h
    · simp only [Option.bind_eq_some_iff, Prod.exists] at h
      obtain ⟨o1, r1, -, o2, r2, -, o3, r3, -, o4, r4, hdebounce, o5, r5, -, h⟩ := h
      split at h
      · cases h
        intro n hn
        obtain ⟨bs, hbs⟩ := optField_value hdebounce n hn
        exact (byte1_inRange hbs).1
      · cases h
    · cases h

theorem postureSet_settles : DecisionSettles c postureSet := by
  intro ps s
  unfold postureSet
  split
  · exact calm_refl s
  next e he =>
    split
    next hlimits => exact .inl (.single (.sampler (.edited e (postureSetParams_debounce he) hlimits)))
    next => exact calm_refl s

theorem layoutReady_settles : DecisionSettles c layoutReady := by
  refine withoutParams_settles fun s => ?_
  split
  next hstate => exact .inl (.single (.engine (.raised (.inl hstate))))
  next => exact calm_refl s

theorem layoutPin_settles : DecisionSettles c layoutPin := by
  intro ps s
  unfold layoutPin
  split
  · exact calm_refl s
  next l _ => exact calm_taken ((calm_pinned s (some l) _ _).trans (calm_actOnLayout _ l))

theorem layoutUnpin_settles : DecisionSettles c layoutUnpin := withoutParams_settles fun s => calm_taken (calm_unpin s)

theorem transitionAbort_settles : DecisionSettles c transitionAbort := by
  refine withoutParams_settles fun s => ?_
  split
  · exact calm_refl s
  · exact calm_refl s
  all_goals
    next hstate => exact calm_taken (calm_abort s (by simp [hstate]) (by simp [hstate]))

theorem transitionSetParams_hold {ps : List Byte} {window hold : Option Nat}
    (h : transitionSetParams ps = some (window, hold)) : ∀ n, hold = some n → n ≤ 7 := by
  unfold transitionSetParams at h
  split at h
  · cases h
  · split at h
    · simp only [Option.bind_eq_some_iff, Prod.exists] at h
      obtain ⟨o1, r1, -, o2, r2, hhold, h⟩ := h
      split at h
      · cases h
        intro n hn
        obtain ⟨bs, hbs⟩ := optField_value hhold n hn
        exact (byte1_inRange hbs).2
      · cases h
    · cases h

theorem transitionSet_settles : DecisionSettles c transitionSet := by
  intro ps s
  unfold transitionSet
  split
  · exact calm_refl s
  next window hold hparams =>
    split
    next hstate =>
      refine .inl (.single (.transition (.windows _ _ hstate ?_)))
      cases hold with
      | none => exact .inr rfl
      | some n => exact .inl (transitionSetParams_hold hparams n rfl)
    next => exact calm_refl s

theorem zoneMode_settles : DecisionSettles c zoneMode := by
  intro ps s
  unfold zoneMode
  split
  · exact calm_refl s
  next z on _ =>
    split
    · exact calm_refl s
    · exact calm_taken ((Relation.ReflTransGen.single (.zone (.setTo z on))).trans (calm_placeMessage _ z))

theorem zoneTable_settles : DecisionSettles c zoneTable := by
  intro ps s
  unfold zoneTable
  split
  · exact calm_refl s
  · exact .inl (.single (.zone (.tables _ s.zones.unfoldedTable s.zones.tripDeferred)))
  · exact .inl (.single (.zone (.tables s.zones.foldedTable _ s.zones.tripDeferred)))

theorem zoneIdleParams_range {ps : List Byte} {z : Zone} {limit : Option Nat} {mask : Option (BitVec 3)}
    {dim : Option Nat} (h : zoneIdleParams ps = some (z, limit, mask, dim)) :
    (∀ n, limit = some n → n ≤ 255) ∧ ∀ n, dim = some n → n ≤ 255 := by
  unfold zoneIdleParams at h
  split at h
  · split at h
    · simp only [Option.bind_eq_some_iff, Prod.exists] at h
      obtain ⟨z', -, o1, r1, hlimit, o2, r2, -, o3, r3, hdim, h⟩ := h
      split at h
      · cases h
        constructor
        · intro n hn
          obtain ⟨bs, hbs⟩ := optField_value hlimit n hn
          exact byte1_toNat hbs
        · intro n hn
          obtain ⟨bs, hbs⟩ := optField_value hdim n hn
          exact byte1_toNat hbs
      · cases h
    · cases h
  · cases h

theorem zoneIdle_settles : DecisionSettles c zoneIdle := by
  intro ps s
  unfold zoneIdle
  split
  · exact calm_refl s
  next z limit mask dim hparams =>
    obtain ⟨hlimit, hdim⟩ := zoneIdleParams_range hparams
    have set : CalmChain c s (s.updZone z (ZoneState.setIdle limit mask dim)) :=
      .single (.zone (.idle z limit mask dim hlimit hdim))
    dsimp only
    split
    · exact calm_taken (set.trans (calm_placeMessage _ z))
    · exact set.settles

theorem zoneRestore_settles : DecisionSettles c zoneRestore := by
  intro ps s
  unfold zoneRestore
  split
  · exact calm_refl s
  · split
    · exact calm_refl s
    · split
      · exact calm_refl s
      · exact calm_taken (calm_restoreZone s _)

theorem lookup_settles : DecisionSettles c lookup := by
  intro ps s
  unfold lookup
  split
  · exact calm_refl s
  · exact (calm_reportTouch s _ _).settles

theorem verify_settles : DecisionSettles c verify := by
  intro ps s
  unfold verify
  split <;> exact calm_refl s

end

end Sys2Proof.Machine

/-! SUPPORT. The releases of the two reset inputs, each as one change of the state. -/

namespace Sys2Proof.Machine

/-! ## The releases of the reset inputs -/

/-- A fault line is active. -/
def PerZone.anySet (p : PerZone Bool) : Bool := p.rear || p.spine || p.front

@[simp] theorem PerZone.set_set {α : Type} (p : PerZone α) (z : Zone) (x y : α) : (p.set z x).set z y = p.set z y := by
  cases z <;> rfl

@[simp] theorem updZone_updZone (s : State) (z : Zone) (f g : ZoneState → ZoneState) :
    (s.updZone z f).updZone z g = s.updZone z fun q => g (f q) := by
  cases z <;> rfl

/-- A zone at the release of RESETN: its entry, and where its fault line is active a trip, which while DRSTN is asserted
is left to its release (R164, R165). -/
theorem releaseZone_eq (s : State) (z : Zone) : s.releaseZone z =
    { s with
      zones := { s.zones with
        zone := s.zones.zone.set z (.released (foldedTableDefault.get z) (s.pins.faultLine.get z))
        tripDeferred := s.zones.tripDeferred || (s.pins.faultLine.get z && s.inReset) }
      link := { s.link with
        slots := if (s.pins.faultLine.get z && !s.inReset) = true
          then s.link.slots.set z (some { on := false, brightness := 0 }) else s.link.slots }
      port := { s.port with
        flags := if (s.pins.faultLine.get z && !s.inReset) = true
          then s.port.flags ||| EventFlag.zoneTripped.bit else s.port.flags } } := by
  cases hfault : s.pins.faultLine.get z with
  | false =>
    simp only [State.releaseZone, hfault, ZoneState.released]
    cases foldedTableDefault.get z <;> simp [State.updZone, ZoneState.reset]
  | true =>
    have hreset (q : Zones) : State.inReset { s with zones := q } = s.inReset := rfl
    simp only [State.releaseZone, hfault, if_true, State.trip, updZone_updZone]
    cases hin : s.inReset with
    | false =>
      rw [placeMessage_eq _ _ (by simpa [State.inReset] using hin), setFlag_eq _ _ (by simpa [State.inReset] using hin)]
      simp [State.updZone, State.zoneState, ZoneState.wanted, ZoneState.released, ZoneState.reset, hreset, hin]
    | true =>
      rw [placeMessage_of_inReset _ _ (by simpa [State.inReset] using hin),
        setFlag_of_inReset _ _ (by simpa [State.inReset] using hin)]
      simp [State.updZone, ZoneState.released, ZoneState.reset, hreset, hin]

/-- The zones at the release of RESETN: none takes a message or a flag while DRSTN is asserted (R164, R165). -/
theorem releaseZones_eq (s : State) : zoneList.foldl (fun v z => v.releaseZone z) s =
    { s with
      zones := { s.zones with
        zone := { rear := .released false s.pins.faultLine.rear, spine := .released true s.pins.faultLine.spine,
                  front := .released true s.pins.faultLine.front }
        tripDeferred := s.zones.tripDeferred || (s.pins.faultLine.anySet && s.inReset) }
      link := { s.link with slots := (zoneList.foldl (fun v z => v.releaseZone z) s).link.slots }
      port := { s.port with
        flags := if (s.pins.faultLine.anySet && !s.inReset) = true
          then s.port.flags ||| EventFlag.zoneTripped.bit else s.port.flags } } := by
  have hpins (q : Zones) (p : Port) (l : Link) : State.inReset { s with zones := q, port := p, link := l } = s.inReset :=
    rfl
  have hor (a b : BitVec 14) : a ||| b ||| b = a ||| b := by rw [BitVec.or_assoc, BitVec.or_self]
  simp only [zoneList, List.foldl_cons, List.foldl_nil, releaseZone_eq, hpins, PerZone.get, PerZone.anySet]
  obtain hrear | hrear := Bool.eq_false_or_eq_true s.pins.faultLine.rear <;>
    obtain hspine | hspine := Bool.eq_false_or_eq_true s.pins.faultLine.spine <;>
    obtain hfront | hfront := Bool.eq_false_or_eq_true s.pins.faultLine.front <;>
    obtain hin | hin := Bool.eq_false_or_eq_true s.inReset <;>
    simp [PerZone.set, foldedTableDefault, hor, hrear, hspine, hfront, hin]

/-- While DRSTN is asserted the zones take no message at the release of RESETN (R165). -/
theorem releaseZones_slots (s : State) (h : s.inReset = true) :
    (zoneList.foldl (fun v z => v.releaseZone z) s).link.slots = s.link.slots := by
  have hpins (q : Zones) (p : Port) (l : Link) : State.inReset { s with zones := q, port := p, link := l } = s.inReset :=
    rfl
  simp [zoneList, releaseZone_eq, hpins, h]

/-- Outside the resets all three zones place the messages they want (R153). -/
theorem placeAllMessages_eq (s : State) (h : s.inReset = false) : s.placeAllMessages =
    { s with link := { s.link with slots :=
      { rear := some (s.zoneState .rear).wanted, spine := some (s.zoneState .spine).wanted,
        front := some (s.zoneState .front).wanted } } } := by
  have hlink (l : Link) : State.inReset { s with link := l } = false := h
  simp only [State.placeAllMessages, zoneList, List.foldl_cons, List.foldl_nil]
  rw [placeMessage_eq s _ h, placeMessage_eq _ _ (hlink _), placeMessage_eq _ _ (hlink _)]
  rfl

/-- Outside the resets the blocks start with their messages, the BACKGROUND job and the substitute timer (R100, R109,
R164). -/
theorem startBlocks_eq (s : State) (h : s.inReset = false) : s.startBlocks =
    State.queueJob .background { s with link := { s.link with
      slots := { rear := some (s.zoneState .rear).wanted, spine := some (s.zoneState .spine).wanted,
                 front := some (s.zoneState .front).wanted }
      timer := some s.link.interval } } := by
  unfold State.startBlocks
  rw [placeAllMessages_eq s h, queueJob_eq, queueJob_eq]

/-- The release of RESETN while DRSTN is asserted (R164, R165; log entry 7). -/
theorem releaseReset_drstn (s : State) (strap : Bool) (h : s.pins.drstn = true) : s.releaseReset strap =
    (s.woken strap (s.zones.tripDeferred || s.pins.faultLine.anySet)).finish := by
  simp only [State.releaseReset]
  generalize ht : ({ s with pins := _, lookup := _, sampler := _ } : State) = t
  have hin : t.inReset = true := by
    rw [← ht]
    exact h
  rw [releaseZones_eq, releaseZones_slots t hin, hin]
  subst ht
  simp [h, State.woken]

/-- The release of RESETN with DRSTN inactive (R100, R109, R122, R164). -/
theorem releaseReset_eq (s : State) (strap : Bool) (h : s.pins.drstn = false) : s.releaseReset strap =
    State.finish (State.queueJob .background { s.woken strap s.zones.tripDeferred with
      port := { s.port with
        flags := if s.pins.faultLine.anySet = true then s.port.flags ||| EventFlag.zoneTripped.bit else s.port.flags }
      link := { s.link with
        slots := { rear := some (ZoneState.released false s.pins.faultLine.rear).wanted,
                   spine := some (ZoneState.released true s.pins.faultLine.spine).wanted,
                   front := some (ZoneState.released true s.pins.faultLine.front).wanted }
        timer := some s.link.interval } }) := by
  unfold State.releaseReset
  dsimp only
  rw [releaseZones_eq]
  generalize State.link (zoneList.foldl _ _) = link
  rw [if_neg (by simp [h]), startBlocks_eq]
  · simp [h, State.woken, State.inReset, State.zoneState, PerZone.get]
  · exact h

/-- The release of DRSTN with RESETN inactive as one change, two jobs and the layout request (R100, R109, R123,
R165). -/
theorem releaseRestart_eq (s : State) (h : s.pins.resetn = false) : s.releaseRestart =
    let queued : State := State.queueJob .background { s with
      pins := { s.pins with drstn := false }
      link := { s.link with
        slots := { rear := some (s.zoneState .rear).wanted, spine := some (s.zoneState .spine).wanted
                   front := some (s.zoneState .front).wanted }
        timer := some s.link.interval }
      sampler := { s.sampler with bendDeferred := false }
      port := { s.port with
        flags := if s.zones.tripDeferred = true then s.port.flags ||| EventFlag.zoneTripped.bit else s.port.flags }
      zones := { s.zones with
        zone := { rear := s.zones.zone.rear.startIdle, spine := s.zones.zone.spine.startIdle,
                  front := s.zones.zone.front.startIdle }
        tripDeferred := false } }
    let bent : State := if s.sampler.bendDeferred = true then queued.queueJob .bend else queued
    bent.requestImplied.finish := by
  have hin : ({ s with pins := { s.pins with drstn := false } } : State).inReset = false := by
    simp [h]
  unfold State.releaseRestart State.queueDeferredBend State.reportDeferredTrip
  rw [startBlocks_eq _ hin]
  dsimp only
  refine congrArg (fun t : State => t.requestImplied.finish) ?_
  obtain hbend | hbend := Bool.eq_false_or_eq_true s.sampler.bendDeferred <;>
    obtain htrip | htrip := Bool.eq_false_or_eq_true s.zones.tripDeferred
  all_goals
    simp only [queueJob_eq, hbend, htrip, if_true, if_false, Bool.false_eq_true]
  · rw [setFlag_eq]
    · rfl
    · exact hin
  · simp [zoneList, State.updZone, PerZone.set, PerZone.get, State.zoneState, htrip]
  · rw [setFlag_eq]
    · simp [zoneList, State.updZone, PerZone.set, PerZone.get, State.zoneState, ← hbend]
    · exact hin
  · simp [zoneList, State.updZone, PerZone.set, PerZone.get, State.zoneState, ← hbend, htrip]

end Sys2Proof.Machine

/-! SUPPORT. Every command as a chain of effects. -/

namespace Sys2Proof.Machine

section
variable {c : Instr}

/-- A flag set where a condition holds, outside the resets. -/
theorem calm_flagIf (s : State) (b : Bool) (f : EventFlag) (h : s.inReset = false) :
    CalmChain c s { s with port := { s.port with flags := if b = true then s.port.flags ||| f.bit else s.port.flags } } := by
  cases b with
  | false => exact .refl
  | true =>
    have set := calm_setFlag (c := c) s f
    rw [setFlag_eq s f h] at set
    exact set

theorem calm_requestImplied (s : State) : CalmChain c s s.requestImplied := by
  unfold State.requestImplied
  split
  · exact calm_layoutRequest s _
  · exact .refl

theorem calm_releaseRestart (s : State) (h : s.pins.resetn = false) :
    CalmChain .drstnRelease s s.releaseRestart := by
  have awake := ((Relation.ReflTransGen.single (.reset (.awake h rfl))).tail (.sampler .undeferred)).trans
    (calm_settings _ { rear := some (s.zoneState .rear).wanted, spine := some (s.zoneState .spine).wanted
                       front := some (s.zoneState .front).wanted } s.link.interval (some s.link.interval))
  have told := awake.trans (calm_flagIf _ s.zones.tripDeferred .zoneTripped (by simp [State.inReset, State.updSampler, h]))
  have queued := told.trans (calm_queueJob _ .background)
  rw [releaseRestart_eq s h]
  dsimp only
  refine Relation.ReflTransGen.trans ?_ (calm_finish _)
  refine Relation.ReflTransGen.trans ?_ (calm_requestImplied _)
  split
  · exact queued.trans (calm_queueJob _ .bend)
  · exact queued

theorem releaseReset_settles (s : State) (strap : Bool) (h : s.pins.resetn = true) :
    Settles (.resetnRelease strap) s (s.releaseReset strap) := by
  cases hdrstn : s.pins.drstn with
  | true =>
    rw [releaseReset_drstn s strap hdrstn]
    exact (Unsettling.released strap _ h rfl).settles .refl
  | false =>
    rw [releaseReset_eq s strap hdrstn]
    refine (Unsettling.released strap s.zones.tripDeferred h rfl).settles ?_
    have started := (calm_settings (c := .resetnRelease strap) (s.woken strap s.zones.tripDeferred)
      { rear := some (ZoneState.released false s.pins.faultLine.rear).wanted
        spine := some (ZoneState.released true s.pins.faultLine.spine).wanted
        front := some (ZoneState.released true s.pins.faultLine.front).wanted }
      s.link.interval (some s.link.interval)).trans
        (calm_flagIf _ s.pins.faultLine.anySet .zoneTripped (by simp [State.inReset, State.woken, hdrstn]))
    exact started.trans (calm_queueJob _ .background)

/-! ## The commands -/

theorem execRequest_settles {frame : List Byte} {s t : State} (h : execRequest frame s = .next t) : Settles c s t := by
  have zeros : CalmChain c s s.returnZeros :=
    calm_port s { s.port with returned := .zeros } s.freeCount (.inl rfl) (.inr (.inr ⟨rfl, rfl⟩))
  unfold execRequest at h
  split at h
  · cases h
    exact zeros.settles
  · split at h
    · cases h
      have overrun : CalmChain c s.returnZeros (s.returnZeros.updPort fun p => { p with overrun := true }) :=
        calm_port s.returnZeros { s.returnZeros.port with overrun := true } s.freeCount (.inl rfl)
          (.inr (.inr ⟨rfl, rfl⟩))
      exact .inl ((zeros.trans overrun).trans (calm_setFlag _ _))
    next hfree =>
      simp only [Port.occupied, Bool.or_eq_true, Option.isSome_iff_ne_none, not_or, not_not] at hfree
      split at h
      next r _ =>
        cases h
        exact .inl (zeros.trans (calm_port s.returnZeros { s.returnZeros.port with request := some r } s.freeCount (.inl rfl)
          (.inr (.inl hfree.2))))
      next code _ =>
        cases h
        cases code with
        | none =>
          exact .inl (zeros.trans (calm_port s.returnZeros { s.returnZeros.port with response := some _ } (s.freeCount + 1)
            (.inl rfl) (.inl hfree.1)))
        | some b =>
          exact .inl (zeros.trans (calm_port s.returnZeros { s.returnZeros.port with response := some _ } s.freeCount
            (.inl rfl) (.inl hfree.1)))

theorem execResponse_settles {s t : State} (h : execResponse s = .next t) : Settles c s t := by
  unfold execResponse at h
  split at h
  · cases h
    exact .inl (calm_port s { s.port with returned := .zeros } s.freeCount (.inl rfl) (.inr (.inr ⟨rfl, rfl⟩)))
  · split at h
    next r _ =>
      cases h
      exact .inl (calm_port s { s.port with response := none, returned := .response r } s.freeCount (.inl rfl)
        (.inr (.inl rfl)))
    next =>
      cases h
      exact .inl (calm_port s { s.port with returned := .response nothingResponse } s.freeCount (.inl rfl) (.inr (.inr ⟨rfl, rfl⟩)))

theorem execStatus_settles {s t : State} (h : execStatus s = .next t) : Settles c s t := by
  unfold execStatus at h
  split at h
  · cases h
    exact .inl (calm_port s { s.port with returned := .zeros } s.freeCount (.inl rfl) (.inr (.inr ⟨rfl, rfl⟩)))
  · cases h
    exact .inl (calm_port s { s.port with overrun := false, returned := .status s.portStatus s.flagWord } s.freeCount (.inl rfl)
      (.inr (.inr ⟨rfl, rfl⟩)))

theorem execUnknownKindTransaction_settles {s t : State} (h : execUnknownKindTransaction s = .next t) :
    Settles c s t := by
  cases h
  exact .inl (calm_port s { s.port with returned := .zeros } s.freeCount (.inl rfl) (.inr (.inr ⟨rfl, rfl⟩)))

theorem execRejectedWrite_settles {bytes : List Byte} {s t : State} (h : execRejectedWrite bytes s = .next t) :
    Settles c s t := by
  unfold execRejectedWrite at h
  split at h
  · cases h
    exact calm_refl _
  · split at h
    · cases h
      exact .inl (calm_takePoint s _ _)
    · cases h
      exact .inl (calm_takeVerify s _ _ _ _)
    · cases h
      exact .inl (calm_answer s _ _)

theorem execAnswerRead_settles {s t : State} (h : execAnswerRead s = .next t) : Settles c s t := by
  unfold execAnswerRead at h
  split at h
  · cases h
    exact calm_refl _
  · cases h
    exact .inl (calm_answer s _ _)

theorem execFrameTimerExpiry_settles {n : Fin 8} {s t : State} (h : execFrameTimerExpiry n s = .next t) :
    Settles c s t := by
  unfold execFrameTimerExpiry at h
  split at h
  next hruns =>
    cases h
    exact .inl ((calm_closeFrame s n _ (.inr hruns)).trans (calm_setFlag _ _))
  next =>
    cases h
    exact calm_refl _

theorem execBuildComplete_settles {s t : State} (h : execBuildComplete s = .next t) : Settles c s t := by
  unfold execBuildComplete at h
  split at h
  next b hphase =>
    cases h
    exact .inl (calm_completeBuild s b hphase)
  all_goals
    cases h
    exact calm_refl _

theorem execScanStart_settles {s t : State} (h : execScanStart s = .next t) : Settles c s t := by
  unfold execScanStart at h
  split at h
  · cases h
    exact calm_refl _
  · cases h
    exact .inl ((calm_restartSubstitute s).trans (calm_scanStart _))

theorem execSubstituteScanStart_settles {s t : State} (h : execSubstituteScanStart s = .next t) : Settles c s t := by
  unfold execSubstituteScanStart at h
  split at h
  · cases h
    exact .inl (((calm_restartSubstitute s).trans (calm_setFlag _ _)).trans (calm_scanStart _))
  · cases h
    exact calm_refl _

theorem panelTake_wf (p : Panel) (f : Transfer) (h : p.wf = true) : (p.take f).wf = true := by
  cases f with
  | tile w => exact Panel.write_wf p w.tile w.pixels h
  | message z m => exact h

theorem execTransferComplete_settles {s t : State} (h : execTransferComplete s = .next t) :
    Settles .transferComplete s t := by
  unfold execTransferComplete at h
  split at h
  next f _ =>
    cases h
    have taken : CalmChain .transferComplete s { s with panel := s.panel.take f } :=
      .single (.link (.panel _ rfl (panelTake_wf s.panel f)))
    exact .inl ((taken.tail (.link .free)).trans (calm_finish _))
  next =>
    cases h
    exact calm_refl _

theorem execFillJobComplete_settles {s t : State} (h : execFillJobComplete s = .next t) : Settles c s t := by
  unfold execFillJobComplete at h
  split at h
  · split at h
    · cases h
      exact .inl ((calm_completeJob s _).trans (calm_finish _))
    · cases h
      exact calm_refl _
  · cases h
    exact calm_refl _

theorem execIntervalTimerExpiry_settles {s t : State} (h : execIntervalTimerExpiry s = .next t) : Settles c s t := by
  unfold execIntervalTimerExpiry at h
  split at h
  · cases h
    exact .inl (.single (.sampler (.phase _)))
  all_goals
    cases h
    exact calm_refl _

theorem execMeasurementComplete_settles {edges : List Nat} {s t : State}
    (h : execMeasurementComplete edges s = .next t) : Settles c s t := by
  unfold execMeasurementComplete at h
  split at h
  · cases h
    exact (Unsettling.sample _ _).settles (judged_takeSample s _ _)
  all_goals
    cases h
    exact calm_refl _

theorem execPrepareTimerExpiry_settles {s t : State} (h : execPrepareTimerExpiry s = .next t) : Settles c s t := by
  unfold execPrepareTimerExpiry at h
  split at h
  next hruns =>
    cases h
    exact .inl ((calm_setFlag s .prepareExpired).tail (.engine (.raised (.inr (by simpa using hruns)))))
  next =>
    cases h
    exact calm_refl _

/-- A rising edge taken: Fault Active alone in a TRIPPED zone, else a trip (R159). -/
theorem takeRise_settles (s : State) (z : Zone) (h : s.pins.resetn = false) :
    Settles c s ((s.setLine z true).takeRise z).finish := by
  unfold State.takeRise
  dsimp only
  split
  · exact .inl ((Relation.ReflTransGen.single (.zone (.edge z true h))).trans (calm_finish _))
  · unfold State.trip
    rw [updZone_updZone]
    refine (Unsettling.tripped z h).settles ?_
    refine ((Relation.ReflTransGen.single ?_).trans (calm_placeMessage _ z)).trans (calm_setFlag _ .zoneTripped)
    exact .zone (.tables _ _ _)

theorem execZoneFaultRise_settles {z : Zone} {s t : State} (h : execZoneFaultRise z s = .next t) : Settles c s t := by
  unfold execZoneFaultRise at h
  split at h
  · cases h
    exact calm_refl _
  · split at h
    next hresetn =>
      cases h
      exact .inl (.single (.zone (.line z true hresetn)))
    next hresetn =>
      cases h
      exact takeRise_settles s z (Bool.eq_false_iff.mpr hresetn)

theorem execZoneFaultFall_settles {z : Zone} {s t : State} (h : execZoneFaultFall z s = .next t) : Settles c s t := by
  unfold execZoneFaultFall at h
  split at h
  · split at h
    next hresetn =>
      cases h
      exact .inl (.single (.zone (.line z false hresetn)))
    next hresetn =>
      cases h
      exact .inl (.single (.zone (.edge z false (Bool.eq_false_iff.mpr hresetn))))
  · cases h
    exact calm_refl _

theorem execIdleTimerExpiry_settles {z : Zone} {s t : State} (h : execIdleTimerExpiry z s = .next t) :
    Settles c s t := by
  unfold execIdleTimerExpiry at h
  split at h
  · cases h
    exact .inl (((Relation.ReflTransGen.single (.zone (.dim z))).trans (calm_placeMessage _ z)).trans
      (calm_finish _))
  · cases h
    exact calm_refl _

theorem execResetnRelease_settles {strap : Bool} {s t : State} (h : execResetnRelease strap s = .next t) :
    Settles (.resetnRelease strap) s t := by
  unfold execResetnRelease at h
  split at h
  next hresetn =>
    cases h
    exact releaseReset_settles s strap hresetn
  next =>
    cases h
    exact calm_refl _

theorem execDrstnAssert_settles {s t : State} (h : execDrstnAssert s = .next t) : Settles .drstnAssert s t := by
  unfold execDrstnAssert at h
  split at h
  · cases h
    exact calm_refl _
  · split at h
    next hresetn =>
      cases h
      exact .inl (.single (.reset (.level true hresetn rfl)))
    next hresetn =>
      cases h
      exact .inl (.single (.reset (.restarted rfl (Bool.eq_false_iff.mpr hresetn))))

theorem execDrstnRelease_settles {s t : State} (h : execDrstnRelease s = .next t) : Settles .drstnRelease s t := by
  unfold execDrstnRelease at h
  split at h
  · split at h
    next hresetn =>
      cases h
      exact .inl (.single (.reset (.level false hresetn rfl)))
    next hresetn =>
      cases h
      exact .inl (calm_releaseRestart s (Bool.eq_false_iff.mpr hresetn))
  · cases h
    exact calm_refl _

end

/-- A command is a chain of the effects listed, and the link settles after what may make a tile write on it unlawful. -/
theorem exec_settles {c : Instr} {s t : State} (h : exec c s = .next t) : Settles c s t := by
  cases c with
  | request => exact execRequest_settles h
  | response => exact execResponse_settles h
  | status => exact execStatus_settles h
  | unknownKindTransaction => exact execUnknownKindTransaction_settles h
  | statusRead => exact decideRequest_settles (withoutParams_settles calm_refl) h
  | eventClear => exact decideRequest_settles eventClear_settles h
  | eventMask => exact decideRequest_settles eventMask_settles h
  | geometrySet => exact decideRequest_settles geometrySet_settles h
  | geometryRead => exact decideRequest_settles (withoutParams_settles calm_refl) h
  | keepoutSet => exact decideRequest_settles keepoutSet_settles h
  | keepoutClear => exact decideRequest_settles keepoutClear_settles h
  | keepoutRead => exact decideRequest_settles (withoutParams_settles calm_refl) h
  | regionCreate => exact decideRequest_settles regionCreate_settles h
  | regionPlace => exact decideRequest_settles (fun ps s => edit_settles s ps (placeChange s.geometry) fun _ _ _ => placeChange_fits) h
  | regionAttributes =>
    exact decideRequest_settles (fun ps s => edit_settles s ps attributesChange fun _ _ _ => attributesChange_fits) h
  | regionRetire => exact decideRequest_settles regionRetire_settles h
  | regionDiscard => exact decideRequest_settles regionDiscard_settles h
  | regionRead => exact decideRequest_settles regionRead_settles h
  | regionList => exact decideRequest_settles (withoutParams_settles calm_refl) h
  | tableSet => exact decideRequest_settles tableSet_settles h
  | commit => exact decideRequest_settles commit_settles h
  | mapRead => exact decideRequest_settles mapRead_settles h
  | streamSet => exact decideRequest_settles streamSet_settles h
  | streamRead => exact decideRequest_settles (withoutParams_settles calm_refl) h
  | backgroundSet => exact decideRequest_settles backgroundSet_settles h
  | scanSet => exact decideRequest_settles scanSet_settles h
  | fillRead => exact decideRequest_settles (withoutParams_settles fun s => counted_settles s _) h
  | postureSet => exact decideRequest_settles postureSet_settles h
  | postureRead => exact decideRequest_settles (withoutParams_settles calm_refl) h
  | layoutReady => exact decideRequest_settles layoutReady_settles h
  | layoutPin => exact decideRequest_settles layoutPin_settles h
  | layoutUnpin => exact decideRequest_settles layoutUnpin_settles h
  | transitionAbort => exact decideRequest_settles transitionAbort_settles h
  | transitionSet => exact decideRequest_settles transitionSet_settles h
  | transitionRead => exact decideRequest_settles (withoutParams_settles fun s => counted_settles s _) h
  | zoneMode => exact decideRequest_settles zoneMode_settles h
  | zoneTable => exact decideRequest_settles zoneTable_settles h
  | zoneIdle => exact decideRequest_settles zoneIdle_settles h
  | zoneRestore => exact decideRequest_settles zoneRestore_settles h
  | zoneRead => exact decideRequest_settles (withoutParams_settles fun s => counted_settles s _) h
  | lookup => exact decideRequest_settles lookup_settles h
  | verify => exact decideRequest_settles verify_settles h
  | point => cases h; exact .inl (calm_takePoint s _ _)
  | lookupPortVerify => cases h; exact .inl (calm_takeVerify s _ _ _ _)
  | rejectedWrite => exact execRejectedWrite_settles h
  | answerRead => exact execAnswerRead_settles h
  | frameBegin => cases h; exact .inl (calm_packetArrives s _)
  | tileRun => cases h; exact .inl (calm_packetArrives s _)
  | streamTile => cases h; exact .inl (calm_takeTile s)
  | frameEnd => cases h; exact .inl (calm_packetArrives s _)
  | discardedPacket => cases h; exact .inl (calm_packetArrives s _)
  | frameTimerExpiry => exact execFrameTimerExpiry_settles h
  | buildComplete => exact execBuildComplete_settles h
  | scanStart => exact execScanStart_settles h
  | substituteScanStart => exact execSubstituteScanStart_settles h
  | transferComplete => exact execTransferComplete_settles h
  | fillJobComplete => exact execFillJobComplete_settles h
  | intervalTimerExpiry => exact execIntervalTimerExpiry_settles h
  | measurementComplete => exact execMeasurementComplete_settles h
  | prepareTimerExpiry => exact execPrepareTimerExpiry_settles h
  | zoneFaultRise => exact execZoneFaultRise_settles h
  | zoneFaultFall => exact execZoneFaultFall_settles h
  | idleTimerExpiry => exact execIdleTimerExpiry_settles h
  | resetnAssert => cases h; exact .inl (.single (.reset (.held rfl)))
  | resetnRelease => exact execResetnRelease_settles h
  | drstnAssert => exact execDrstnAssert_settles h
  | drstnRelease => exact execDrstnRelease_settles h

/-- A law that every effect keeps is kept by a command. -/
theorem Chain.keeps {law : State → Prop} {c : Instr} (hdoes : ∀ s t, Does c s t → law s → law t) {s t : State}
    (h : Chain c s t) (hs : law s) : law t := by
  induction h with
  | refl => exact hs
  | tail _ h ih => exact hdoes _ _ h ih

/-- A law that the queue of commands does not enter and that every effect keeps is kept by every step. -/
theorem keptByStep_of_does {law : State → Prop} (hqueue : ∀ s rest, law s → law { s with pending := rest })
    (hdoes : ∀ c s t, Does c s t → law s → law t) : KeptByStep law :=
  keptByStep_of_exec hqueue fun c _ _ hs h => (exec_settles h).chain.keeps (hdoes c) hs

end Sys2Proof.Machine

/-! SUPPORT. What each kind of effect leaves alone, so that a law which reads none of what an effect writes is kept by
it at once. -/

namespace Sys2Proof.Machine

/-! ## Effects on one block -/

section
variable {c : Instr} {s t : State}

theorem PortEffect.writes (h : PortEffect c s t) :
    ∃ p u n, t = { s with port := p, lookup := u, freeCount := n } := by
  cases h with
  | write p n => exact ⟨p, s.lookup, n, rfl⟩
  | flag f =>
    unfold State.setFlag
    split
    · exact ⟨s.port, s.lookup, s.freeCount, rfl⟩
    · exact ⟨_, s.lookup, s.freeCount, rfl⟩
  | answer a r => exact ⟨s.port, _, s.freeCount, rfl⟩

theorem LinkEffect.writes (h : LinkEffect c s t) :
    ∃ l f hd p, t = { s with link := l, fill := f, router := { s.router with handing := hd }, panel := p } := by
  cases h <;> exact ⟨_, _, _, _, rfl⟩

theorem ZoneEffect.writes (h : ZoneEffect s t) :
    ∃ q line, t = { s with zones := q, pins := { s.pins with faultLine := line } } := by
  cases h <;> exact ⟨_, _, rfl⟩

theorem FrameEffect.writes (h : FrameEffect s t) : ∃ r, t = { s with router := r } := by
  cases h <;> exact ⟨_, rfl⟩

theorem RecordEffect.writes (h : RecordEffect c s t) : ∃ b, t = { s with table := b } := by
  cases h <;> exact ⟨_, rfl⟩

theorem TransitionEffect.writes (h : TransitionEffect s t) : ∃ q, t = { s with transition := q } := by
  cases h <;> exact ⟨_, rfl⟩

theorem SamplerEffect.writes (h : SamplerEffect s t) :
    ∃ q, t = { s with sampler := q } ∧ q.bendApplied = s.sampler.bendApplied ∧ q.posture = s.sampler.posture := by
  cases h with
  | phase p => exact ⟨_, rfl, rfl, rfl⟩
  | edited e _ _ =>
    refine ⟨e.apply s.sampler, rfl, ?_⟩
    unfold PostureEdit.apply
    dsimp only
    split <;> exact ⟨rfl, rfl⟩
  | undeferred => exact ⟨_, rfl, rfl, rfl⟩

end

/-! ## The engine's work on claims -/

/-- Taking a claim writes flags, the phase, the claims and In Build of the records (R52, R53). -/
theorem takeClaim_writes (s : State) : ∃ flags phase claims slots, s.takeClaim = { s with
    port := { s.port with flags }, engine := { s.engine with phase, claims }, table := { s.table with slots } } := by
  unfold State.takeClaim
  split
  · split
    · exact ⟨s.port.flags, _, _, _, rfl⟩
    · split
      · exact ⟨s.port.flags, _, _, _, rfl⟩
      · split
        · unfold State.takeLatch State.setFlag
          dsimp only
          split
          · exact ⟨s.port.flags, _, _, _, rfl⟩
          · split
            · exact ⟨s.port.flags, s.engine.phase, _, s.table.slots, rfl⟩
            · exact ⟨_, s.engine.phase, _, s.table.slots, rfl⟩
        · exact ⟨s.port.flags, s.engine.phase, s.engine.claims, s.table.slots, rfl⟩
  all_goals exact ⟨s.port.flags, s.engine.phase, s.engine.claims, s.table.slots, rfl⟩

theorem enterIdle_writes (s : State) : ∃ flags phase claims slots, s.enterIdle = { s with
    port := { s.port with flags }, engine := { s.engine with phase, claims }, table := { s.table with slots } } := by
  obtain ⟨flags, phase, claims, slots, h⟩ := takeClaim_writes { s with engine := { s.engine with phase := .idle } }
  exact ⟨flags, phase, claims, slots, h⟩

/-- Giving up the TARGET work writes no more than taking a claim (R70). -/
theorem abandonTarget_writes (s : State) : ∃ flags phase claims slots, s.abandonTarget = { s with
    port := { s.port with flags }, engine := { s.engine with phase, claims }, table := { s.table with slots } } := by
  unfold State.abandonTarget
  dsimp only
  split
  · split
    · obtain ⟨flags, phase, claims, slots, h⟩ :=
        enterIdle_writes (s.updClaims fun q => { q with target := none }).settleAbandoned
      exact ⟨flags, phase, claims, slots, h⟩
    · exact ⟨s.port.flags, s.engine.phase, _, s.table.slots, rfl⟩
  · split
    · obtain ⟨flags, phase, claims, slots, h⟩ :=
        enterIdle_writes (s.updClaims fun q => { q with target := none }).settleAbandoned
      exact ⟨flags, phase, claims, slots, h⟩
    · exact ⟨s.port.flags, s.engine.phase, _, s.table.slots, rfl⟩
  all_goals exact ⟨s.port.flags, s.engine.phase, _, s.table.slots, rfl⟩

/-! ## The steps of a swap -/

/-- Entering QUARANTINE writes the record, the fill jobs and the stale count (R36). -/
theorem enterQuarantine_writes (s : State) (i : Slot) : ∃ slots queue job fillWaiting staleCounts,
    s.enterQuarantine i = { s with
      table := { s.table with slots }, fill := { s.fill with queue, job }
      link := { s.link with fillWaiting }, router := { s.router with staleCounts } }
    ∧ (s.fill.queue.Nodup → queue.Nodup) ∧ (fillWaiting = none ∨ fillWaiting = s.link.fillWaiting) := by
  unfold State.enterQuarantine
  rw [removeJob_eq]
  refine ⟨_, _, _, _, _, rfl, List.Nodup.filter _, ?_⟩
  split
  · exact .inl rfl
  · exact .inr rfl

theorem foldl_enterQuarantine_writes (l : List Slot) (s : State) : ∃ slots queue job fillWaiting staleCounts,
    l.foldl (fun u i => u.enterQuarantine i) s = { s with
      table := { s.table with slots }, fill := { s.fill with queue, job }
      link := { s.link with fillWaiting }, router := { s.router with staleCounts } }
    ∧ (s.fill.queue.Nodup → queue.Nodup) ∧ (fillWaiting = none ∨ fillWaiting = s.link.fillWaiting) := by
  induction l generalizing s with
  | nil =>
    exact ⟨s.table.slots, s.fill.queue, s.fill.job, s.link.fillWaiting, s.router.staleCounts, rfl, id, .inr rfl⟩
  | cons i rest ih =>
    obtain ⟨slots, queue, job, waiting, counts, h, hqueue, hwaiting⟩ := enterQuarantine_writes s i
    rw [List.foldl_cons, h]
    obtain ⟨slots', queue', job', waiting', counts', h', hqueue', hwaiting'⟩ := ih { s with
      table := { s.table with slots }, fill := { s.fill with queue, job }
      link := { s.link with fillWaiting := waiting }, router := { s.router with staleCounts := counts } }
    refine ⟨slots', queue', job', waiting', counts', h', hqueue' ∘ hqueue, ?_⟩
    rcases hwaiting' with rfl | rfl
    · exact .inl rfl
    · exact hwaiting

theorem requeueJob_writes (s : State) : ∃ queue job fillWaiting,
    s.requeueJob = { s with fill := { s.fill with queue, job }, link := { s.link with fillWaiting } }
    ∧ (s.fill.queue.Nodup → queue.Nodup) ∧ (fillWaiting = none ∨ fillWaiting = s.link.fillWaiting) := by
  unfold State.requeueJob
  split
  next j _ =>
    have hnodup := queueJob_nodup s.stopJob j.key
    rw [queueJob_eq] at hnodup ⊢
    exact ⟨_, _, _, rfl, hnodup, .inl rfl⟩
  next => exact ⟨s.fill.queue, s.fill.job, s.link.fillWaiting, rfl, id, .inr rfl⟩

theorem settleRecords_writes (s : State) (b : Build) : ∃ slots queue job fillWaiting staleCounts,
    s.settleRecords b = { s with
      table := { s.table with slots }, fill := { s.fill with queue, job }
      link := { s.link with fillWaiting }, router := { s.router with staleCounts } }
    ∧ (s.fill.queue.Nodup → queue.Nodup) ∧ (fillWaiting = none ∨ fillWaiting = s.link.fillWaiting) := by
  obtain ⟨slots, queue, job, waiting, counts, h, hqueue, hwaiting⟩ := foldl_enterQuarantine_writes (s.leavers b) s
  unfold State.settleRecords
  rw [h]
  exact ⟨_, queue, job, waiting, _, rfl, hqueue, hwaiting⟩

theorem foldl_queueJob_writes {α : Type} (key : α → Key) (l : List α) (s : State) : ∃ queue,
    l.foldl (fun u a => u.queueJob (key a)) s = { s with fill := { s.fill with queue } }
    ∧ (s.fill.queue.Nodup → queue.Nodup) := by
  induction l generalizing s with
  | nil => exact ⟨s.fill.queue, rfl, id⟩
  | cons a rest ih =>
    have hnodup := queueJob_nodup s (key a)
    rw [queueJob_eq] at hnodup
    rw [List.foldl_cons, queueJob_eq]
    obtain ⟨queue, h, hqueue⟩ := ih { s with fill := { s.fill with
      queue := if key a ∈ s.fill.queue then s.fill.queue else s.fill.queue ++ [key a] } }
    exact ⟨queue, h, hqueue ∘ hnodup⟩

theorem queueSwapJobs_writes (s : State) (included : Slot → Bool) (m : Map) : ∃ queue,
    s.queueSwapJobs included m = { s with fill := { s.fill with queue } } ∧ (s.fill.queue.Nodup → queue.Nodup) := by
  obtain ⟨queue, h, hqueue⟩ := foldl_queueJob_writes Key.region (s.swapJobs included m) s
  unfold State.queueSwapJobs
  rw [h]
  dsimp only
  split
  · have hnodup := queueJob_nodup { s with fill := { s.fill with queue } } .background
    rw [queueJob_eq] at hnodup ⊢
    exact ⟨_, rfl, hnodup ∘ hqueue⟩
  · exact ⟨queue, rfl, hqueue⟩

theorem setFlag_writes (s : State) (f : EventFlag) : ∃ flags,
    s.setFlag f = { s with port := { s.port with flags } } := by
  unfold State.setFlag
  split
  · exact ⟨s.port.flags, rfl⟩
  · exact ⟨_, rfl⟩

theorem swapFlag_writes (s : State) (b : Build) : ∃ flags, s.swapFlag b = { s with port := { s.port with flags } } := by
  have quiet : ∃ flags, s = { s with port := { s.port with flags } } := ⟨s.port.flags, rfl⟩
  unfold State.swapFlag
  split
  · exact setFlag_writes s _
  all_goals
    split
    · exact setFlag_writes s _
    · exact quiet

/-! ## The zones at a swap -/

/-- A zone as its entry of the zone mode table leaves it, unless it is TRIPPED (R136). -/
def ZoneState.follow (on : Bool) (q : ZoneState) : ZoneState := if q.mode = .tripped then q else q.setTo on

theorem placeMessage_writes (s : State) (z : Zone) : ∃ slots,
    s.placeMessage z = { s with link := { s.link with slots } } := by
  unfold State.placeMessage
  split
  · exact ⟨s.link.slots, rfl⟩
  · exact ⟨_, rfl⟩

theorem PerZone.set_get {α : Type} (p : PerZone α) (z : Zone) : p.set z (p.get z) = p := by cases z <;> rfl

theorem updZone_follow (s : State) (z : Zone) (on : Bool) : s.updZone z (ZoneState.follow on) =
    if (s.zoneState z).mode = .tripped then s else s.updZone z (ZoneState.setTo on) := by
  unfold State.updZone ZoneState.follow State.zoneState
  split
  · rw [PerZone.set_get]
  · rfl

theorem applyTable_writes (s : State) (l : Layout) (z : Zone) : ∃ slots, s.applyTable l z =
    { s.updZone z (ZoneState.follow (s.tableEntry l z)) with link := { s.link with slots } } := by
  rw [updZone_follow]
  unfold State.applyTable
  split
  · exact ⟨s.link.slots, rfl⟩
  · exact placeMessage_writes _ z

/-- The zones as the table of a layout leaves them (R136). -/
def Zones.followed (layout : Layout) (q : Zones) : PerZone ZoneState :=
  let table := match layout with
    | .folded => q.foldedTable
    | .unfolded => q.unfoldedTable
  { rear := q.zone.rear.follow table.rear, spine := q.zone.spine.follow table.spine
    front := q.zone.front.follow table.front }

/-- Every zone takes its entry of the table (R136). -/
theorem foldl_applyTable_writes (s : State) : ∃ slots,
    zoneList.foldl (fun u z => u.applyTable u.activeLayout z) s = { s with
      link := { s.link with slots }, zones := { s.zones with zone := s.zones.followed s.activeLayout } } := by
  unfold zoneList
  simp only [List.foldl_cons, List.foldl_nil]
  obtain ⟨rear, hrear⟩ := applyTable_writes s s.activeLayout .rear
  rw [hrear]
  generalize hu : ({ s.updZone .rear _ with link := _ } : State) = u
  obtain ⟨spine, hspine⟩ := applyTable_writes u u.activeLayout .spine
  rw [hspine]
  generalize hv : ({ u.updZone .spine _ with link := _ } : State) = v
  obtain ⟨front, hfront⟩ := applyTable_writes v v.activeLayout .front
  have hzones : (v.updZone .front (ZoneState.follow (v.tableEntry v.activeLayout .front))).zones
      = { s.zones with zone := s.zones.followed s.activeLayout } := by
    subst hv hu
    unfold Zones.followed State.tableEntry State.activeLayout
    dsimp only [updZone_engine, updZone_zones]
    cases s.engine.active.layout <;> rfl
  refine ⟨front, hfront.trans ?_⟩
  rw [← hzones]
  subst hv hu
  rfl

/-- Entering SETTLING (R134, R136). -/
theorem enterSettling_writes (s : State) : ∃ flags slots, s.enterSettling = { s with
    port := { s.port with flags }, link := { s.link with slots }
    zones := { s.zones with zone := s.zones.followed s.activeLayout }
    transition := { s.transition with
      state := .settling, waitingTarget := none, commitJoined := false, holdCount := 0 } } := by
  obtain ⟨slots, h⟩ := foldl_applyTable_writes s
  unfold State.enterSettling
  rw [h]
  dsimp only
  split
  · obtain ⟨flags, hflag⟩ := setFlag_writes { s with
      link := { s.link with slots }, zones := { s.zones with zone := s.zones.followed s.activeLayout } } .commitDone
    rw [hflag]
    exact ⟨flags, slots, rfl⟩
  · exact ⟨s.port.flags, slots, rfl⟩

/-! ## The swap -/

/-- The fields of the Transition Controller after the swap of a TARGET map (R136). -/
def Transition.settling (q : Transition) : Transition :=
  { q with state := .settling, waitingTarget := none, commitJoined := false, holdCount := 0 }

/-- A swap writes every block but those beyond the link's work; of the router only the stale counts, of the link only
the fill tile write that waits and the messages (R65 to R67, R134, R136). -/
theorem swapped_writes (s : State) (b : Build) (m : Map) :
    ∃ flags slots staleCounts fillWaiting messages queue job, s.swapped b m = { s with
      port := { s.port with flags }, table := { s.table with slots }
      engine := { s.engine with epoch := s.engine.epoch + 1, active := m, phase := .draining s.engine.active s.engine.epoch }
      router := { s.router with staleCounts }, link := { s.link with fillWaiting, slots := messages }
      fill := { s.fill with queue, job }
      zones := { s.zones with zone := if b.kind = .target then s.zones.followed m.layout else s.zones.zone }
      transition := if b.kind = .target then s.transition.settling else s.transition }
    ∧ (s.fill.queue.Nodup → queue.Nodup) ∧ (fillWaiting = none ∨ fillWaiting = s.link.fillWaiting) := by
  obtain ⟨queue, job, waiting, hrequeue, hqueue, hwaiting⟩ := requeueJob_writes s
  obtain ⟨slots, queue', job', waiting', counts, hsettle, hqueue', hwaiting'⟩ := settleRecords_writes s.requeueJob b
  obtain ⟨queue'', hjobs, hqueue''⟩ := queueSwapJobs_writes (((s.requeueJob.settleRecords b).exchange m).giveShowing b m)
    (fun i => (s.record i).inBuild) m
  obtain ⟨flags, hflag⟩ := swapFlag_writes ((((s.requeueJob.settleRecords b).exchange m).giveShowing b m).queueSwapJobs
    (fun i => (s.record i).inBuild) m) b
  rw [hrequeue] at hsettle hqueue' hwaiting'
  rw [hrequeue, hsettle] at hjobs hqueue'' hflag
  rw [hjobs] at hflag
  have kept : waiting' = none ∨ waiting' = s.link.fillWaiting := by
    rcases hwaiting' with rfl | rfl
    · exact .inl rfl
    · exact hwaiting
  unfold State.swapped
  rw [hrequeue, hsettle, hjobs, hflag]
  dsimp only
  by_cases hkind : b.kind = .target
  · obtain ⟨flags', messages, htarget⟩ := enterSettling_writes
      ((((s.requeueJob.settleRecords b).exchange m).giveShowing b m).queueSwapJobs (fun i => (s.record i).inBuild) m |>.swapFlag b)
    rw [hrequeue, hsettle, hjobs, hflag] at htarget
    simp only [hkind, if_true]
    rw [htarget]
    exact ⟨flags', _, _, waiting', messages, queue'', job', rfl, hqueue'' ∘ hqueue' ∘ hqueue, kept⟩
  · simp only [hkind, if_false]
    exact ⟨flags, _, _, waiting', s.link.slots, queue'', job', rfl, hqueue'' ∘ hqueue' ∘ hqueue, kept⟩

end Sys2Proof.Machine

/-! CLAIM. No tile write on the link is one that the protection test holds back (R94). -/

namespace Sys2Proof.Machine

/-! ## What the protection test reads -/

/-- A write passes the protection test (R94). -/
theorem protectionFails_eq_false (s : State) (w : TileWrite) : s.protectionFails w = false ↔
    heldByHole s.keepOuts w.tile = false
      ∧ (s.sampler.bendApplied && coveredByBend s.keepOuts w.tile && !w.darkens) = false
      ∧ (s.zoneState (s.geometry.zoneOfTile w.tile)).mode ≠ .tripped := by
  rw [State.protectionFails, Bool.or_eq_false_iff, Bool.or_eq_false_iff, decide_eq_false_iff_not, and_assoc]
  rfl

/-- A tile write on the link stays lawful where no transfer is new to it and the test holds no more back. -/
theorem State.LinkProtected.mono {s t : State} (hs : s.LinkProtected)
    (hflight : ∀ w, t.link.flight = some (.tile w) → s.link.flight = some (.tile w)) (hkeepOuts : t.keepOuts = s.keepOuts)
    (hgeometry : t.geometry = s.geometry) (hbend : t.sampler.bendApplied = s.sampler.bendApplied)
    (htripped : ∀ z, (t.zoneState z).mode = .tripped → (s.zoneState z).mode = .tripped) : t.LinkProtected := by
  intro w hw
  obtain ⟨hhole, hbent, hzone⟩ := (protectionFails_eq_false s w).mp (hs w (hflight w hw))
  rw [protectionFails_eq_false, hkeepOuts, hbend, hgeometry]
  exact ⟨hhole, hbent, fun e => hzone (htripped _ e)⟩

/-- A link without a tile write on it is lawful. -/
theorem State.LinkProtected.of_free {s : State} (h : ∀ w, s.link.flight ≠ some (.tile w)) : s.LinkProtected :=
  fun w hw => absurd hw (h w)

/-! ## Zones that trip -/

theorem setTo_tripped (on : Bool) (q : ZoneState) : (q.setTo on).mode ≠ .tripped := by
  cases on <;> exact ZoneMode.noConfusion

theorem follow_tripped {on : Bool} {q : ZoneState} (h : (q.follow on).mode = .tripped) : q.mode = .tripped := by
  unfold ZoneState.follow at h
  split at h
  next htripped => exact htripped
  next => exact absurd h (setTo_tripped on q)

theorem followed_tripped {l : Layout} {q : Zones} {z : Zone} (h : ((q.followed l).get z).mode = .tripped) :
    (q.zone.get z).mode = .tripped := by
  cases z <;> exact follow_tripped h

/-- A zone changed in a way that trips it no more is TRIPPED only where it was. -/
theorem updZone_tripped {s : State} {z y : Zone} {f : ZoneState → ZoneState}
    (hf : ∀ q, (f q).mode = .tripped → q.mode = .tripped) (h : ((s.updZone z f).zoneState y).mode = .tripped) :
    (s.zoneState y).mode = .tripped := by
  by_cases hz : z = y
  · subst hz
    rw [zoneState_updZone_self] at h
    exact hf _ h
  · rwa [zoneState_updZone_ne _ _ _ _ hz] at h

theorem ZoneEffect.tripped {s t : State} (h : ZoneEffect s t) {y : Zone} (hy : (t.zoneState y).mode = .tripped) :
    (s.zoneState y).mode = .tripped := by
  cases h with
  | setTo z on => exact updZone_tripped (fun q e => absurd e (setTo_tripped on q)) hy
  | dim z => exact updZone_tripped (fun q e => absurd e ZoneMode.noConfusion) hy
  | idle z limit mask dim =>
    refine updZone_tripped (fun q e => ?_) hy
    have hmode : (ZoneState.setIdle limit mask dim q).mode = q.mode := by
      unfold ZoneState.setIdle
      dsimp only
      split <;> rfl
    rwa [hmode] at e
  | tables => exact hy
  | edge z level => exact updZone_tripped (f := fun q => { q with faultActive := level }) (fun _ e => e) hy
  | line => exact hy

/-! ## Calm effects -/

section
variable {c : Instr} {s t : State}

theorem LinkEffect.linkProtected (h : LinkEffect c s t) (hs : s.LinkProtected) : t.LinkProtected := by
  have granted (w : TileWrite) (hpasses : s.grantFails w = false) : s.protectionFails w = false := by
    simp only [State.grantFails, Bool.or_eq_false_iff] at hpasses
    exact hpasses.1
  cases h with
  | grantStream w _ hpasses =>
    intro x hx
    cases hx
    exact granted w hpasses
  | grantFill w _ hpasses =>
    intro x hx
    cases hx
    exact granted w hpasses
  | grantMessage z m => exact .of_free fun w hw => by cases hw
  | free => exact .of_free fun w hw => by cases hw
  | fill | offer | hand | dropStream | settings | panel => exact hs

theorem flight_dropHeldBack {s : State} {w : TileWrite} (h : s.dropHeldBack.link.flight = some (.tile w)) :
    s.link.flight = some (.tile w) := by
  simp only [State.dropHeldBack] at h
  split at h
  next x hx =>
    split at h
    · cases h
    · rw [hx, h]
  next => exact h

theorem EngineEffect.linkProtected (h : EngineEffect s t) (hs : s.LinkProtected) : t.LinkProtected := by
  cases h with
  | latched | conflict | commitBuild | ready => exact hs
  | blanked b => exact hs.mono (fun _ hw => flight_dropHeldBack (s := (s.becomeReady b).updTransition _) hw) rfl rfl rfl fun _ hz => hz
  | raised =>
    obtain ⟨flags, phase, claims, slots, h⟩ := takeClaim_writes _
    rw [State.raiseTarget, h]
    exact hs
  | drained =>
    obtain ⟨flags, phase, claims, slots, h⟩ := enterIdle_writes s
    rw [h]
    exact hs
  | failed =>
    obtain ⟨flags, phase, claims, slots, h⟩ := enterIdle_writes s.settleAbandoned
    rw [h]
    exact hs
  | cancelled =>
    obtain ⟨flags, phase, claims, slots, h⟩ := abandonTarget_writes s
    rw [h]
    exact hs
  | swapped b m =>
    obtain ⟨flags, slots, counts, waiting, messages, queue, job, h, -⟩ := swapped_writes s b m
    rw [h]
    refine hs.mono (fun _ hw => hw) rfl rfl rfl fun z hz => ?_
    simp only [State.zoneState] at hz ⊢
    split at hz
    · exact followed_tripped hz
    · exact hz

theorem claimRestore_writes (s : State) : ∃ flags phase claims slots, s.claimRestore = { s with
    port := { s.port with flags }, engine := { s.engine with phase, claims }, table := { s.table with slots } } := by
  unfold State.claimRestore
  split
  · obtain ⟨flags, phase, claims, slots, h⟩ := takeClaim_writes (s.updClaims fun q => { q with restore := true })
    exact ⟨flags, phase, claims, slots, h⟩
  · exact ⟨s.port.flags, s.engine.phase, s.engine.claims, s.table.slots, rfl⟩

theorem startIdle_mode (q : ZoneState) : q.startIdle.mode = q.mode := by
  unfold ZoneState.startIdle
  split <;> rfl

theorem ResetEffect.linkProtected (h : ResetEffect c s t) (hs : s.LinkProtected) : t.LinkProtected := by
  cases h with
  | held => exact .of_free fun w hw => by cases hw
  | restarted =>
    obtain ⟨flags, phase, claims, slots, h⟩ := claimRestore_writes s.restartBlocks
    rw [h]
    exact .of_free fun w hw => by cases hw
  | level => exact hs
  | awake =>
    refine hs.mono (fun _ hw => hw) rfl rfl rfl fun z hz => ?_
    cases z <;> exact startIdle_mode _ ▸ hz

theorem Calm.linkProtected (h : Calm c s t) (hs : s.LinkProtected) : t.LinkProtected := by
  cases h with
  | port h =>
    obtain ⟨p, u, n, rfl⟩ := h.writes
    exact hs
  | link h => exact h.linkProtected hs
  | zone h =>
    obtain ⟨q, line, ht⟩ := h.writes
    exact hs.mono (by simp [ht]) (by simp [ht]) (by simp [ht]) (by simp [ht]) fun _ => h.tripped
  | frame h =>
    obtain ⟨r, rfl⟩ := h.writes
    exact hs
  | record h =>
    obtain ⟨b, rfl⟩ := h.writes
    exact hs
  | engine h => exact h.linkProtected hs
  | transition h =>
    obtain ⟨q, rfl⟩ := h.writes
    exact hs
  | sampler h =>
    obtain ⟨q, rfl, hbend, -⟩ := h.writes
    exact hs.mono (fun _ hw => hw) rfl rfl hbend fun _ hz => hz
  | reset h => exact h.linkProtected hs

theorem linkProtected_of_calm (h : CalmChain c s t) (hs : s.LinkProtected) : t.LinkProtected := by
  induction h with
  | refl => exact hs
  | tail _ h ih => exact h.linkProtected ih

end

/-! ## The end of an event -/

/-- After the abort nothing on the link fails the protection test. -/
theorem abortTest_linkProtected (s : State) : s.abortTest.LinkProtected := by
  unfold State.abortTest
  split
  next w hflight =>
    split
    next => exact .of_free fun x hx => by cases hx
    next hfails =>
      intro x hx
      cases hflight.symm.trans hx
      exact Bool.eq_false_iff.mpr hfails
  next hflight => exact .of_free fun w hw => hflight w hw

/-- The end of an event leaves the link lawful, whatever has come before it (R94). -/
theorem finish_linkProtected (s : State) : s.finish.LinkProtected := by
  have settled : CalmChain .scanStart s.abortTest s.finish :=
    ((calm_pump _ _).trans (calm_settleTest _)).trans (calm_takePackets _ _)
  exact linkProtected_of_calm settled (abortTest_linkProtected s)

theorem exec_linkProtected {c : Instr} {s t : State} (h : exec c s = .next t) (hs : s.LinkProtected) :
    t.LinkProtected := by
  rcases exec_settles h with hcalm | ⟨u, -, hcalm⟩
  · exact linkProtected_of_calm hcalm hs
  · exact linkProtected_of_calm hcalm (finish_linkProtected u)

/-- Settles O51: every command is a chain of effects that leave a write on the link as lawful as it was, but for those
after which the link settles. -/
theorem linkStaysProtected : Obligations.LinkStaysProtected :=
  keptByStep_of_exec (fun _ _ hs => hs) fun _ _ _ hs h => exec_linkProtected h hs

end Sys2Proof.Machine

/-! CLAIM. No stream tile write in hand, waiting or on the link is to a tile that the blanking test holds back (R131). -/

namespace Sys2Proof.Machine

/-! ## When the blanking test holds nothing back -/

theorem heldBack_of_steady {s : State} (h : s.blankingOn = false) (x : Nat) : s.heldBack x = false := by
  simp [State.heldBack, h]

theorem targetMap_of_phase {s : State} (h : ∀ b m, s.engine.phase = .ready b m → b.kind ≠ .target) :
    s.targetMap = none := by
  unfold State.targetMap
  split
  next b m hphase => exact if_neg (h b m hphase)
  all_goals rfl

theorem heldBack_of_phase {s : State} (h : ∀ b m, s.engine.phase = .ready b m → b.kind ≠ .target) (x : Nat) :
    s.heldBack x = false := by
  simp [State.heldBack, targetMap_of_phase h]

theorem blankingOn_eq_false (s : State) :
    s.blankingOn = false ↔ s.transition.state ≠ .blanking ∧ s.transition.state ≠ .holding := by
  simp [State.blankingOn]

/-- Taking a claim leaves the phase or starts a build (R52). -/
theorem takeClaim_phase (s : State) :
    s.takeClaim.engine.phase = s.engine.phase ∨ ∃ b, s.takeClaim.engine.phase = .building b := by
  unfold State.takeClaim
  split
  · split
    · exact .inr ⟨_, rfl⟩
    · split
      · exact .inr ⟨_, rfl⟩
      · split
        · unfold State.takeLatch
          dsimp only
          split
          · exact .inr ⟨_, rfl⟩
          · exact .inl (by rw [setFlag_engine]; rfl)
        · exact .inl rfl
  all_goals exact .inl rfl

/-- An engine that enters IDLE stays there or starts a build (R52). -/
theorem enterIdle_phase (s : State) : s.enterIdle.engine.phase = .idle ∨ ∃ b, s.enterIdle.engine.phase = .building b :=
  takeClaim_phase { s with engine := { s.engine with phase := .idle } }

theorem heldBack_enterIdle (s : State) (x : Nat) : s.enterIdle.heldBack x = false := by
  refine heldBack_of_phase (fun b m hphase => ?_) x
  rcases enterIdle_phase s with h | ⟨b', h⟩ <;> rw [h] at hphase <;> cases hphase

/-! ## What the law reads -/

theorem State.StreamsBlanked.mono {s t : State} (hs : s.StreamsBlanked)
    (hflight : ∀ w, t.link.flight = some (.tile w) → s.link.flight = some (.tile w))
    (hwaiting : t.link.streamWaiting = s.link.streamWaiting) (hhanding : t.router.handing = s.router.handing)
    (hfill : t.link.fillWaiting = none ∨ t.link.fillWaiting = s.link.fillWaiting)
    (hheld : ∀ x, s.heldBack x = false → t.heldBack x = false) : t.StreamsBlanked := by
  obtain ⟨flight, waiting, handing, fill⟩ := hs
  refine ⟨fun w hw hkind => hheld _ (flight w (hflight w hw) hkind), fun w hw => hheld _ (waiting w (hwaiting ▸ hw)),
    fun w hw => hheld _ (handing w (hhanding ▸ hw)), fun w hw => fill w ?_⟩
  rcases hfill with h | h
  · cases h.symm.trans hw
  · exact h ▸ hw

/-- An empty link and an empty hand are lawful. -/
theorem State.StreamsBlanked.of_empty {s : State} (hflight : s.link.flight = none) (hwaiting : s.link.streamWaiting = none)
    (hhanding : s.router.handing = []) (hfill : s.link.fillWaiting = none) : s.StreamsBlanked := by
  simp [State.StreamsBlanked, hflight, hwaiting, hhanding, hfill]

/-! ## Effects -/

section
variable {c : Instr} {s t : State}

theorem LinkEffect.streamsBlanked (h : LinkEffect c s t) (hs : s.StreamsBlanked) : t.StreamsBlanked := by
  obtain ⟨flight, waiting, handing, fill⟩ := hs
  cases h with
  | fill | settings | panel => exact ⟨flight, waiting, handing, fill⟩
  | offer x hkind => exact ⟨flight, waiting, handing, hkind⟩
  | hand x rest hhanding =>
    refine ⟨flight, fun w hw => ?_, fun w hw => ?_, fill⟩
    · cases hw
      exact handing x (by simp [hhanding])
    · exact handing w (by simp [hhanding, show w ∈ rest from hw])
  | dropStream => exact ⟨flight, nofun, handing, fill⟩
  | grantStream x hwaits =>
    refine ⟨fun w hw _ => ?_, nofun, handing, fill⟩
    cases hw
    exact waiting x hwaits
  | grantFill x hwaits =>
    refine ⟨fun w hw hkind => ?_, waiting, handing, nofun⟩
    cases hw
    exact absurd hkind (fill x hwaits)
  | grantMessage => exact ⟨nofun, waiting, handing, fill⟩
  | free => exact ⟨nofun, waiting, handing, fill⟩

/-- The writes that the router makes of a tile are to tiles not held back (R80). -/
theorem heldBack_of_mem_tileWrites {n : Fin 8} {f : Frame} {px : Pixels} {w : TileWrite}
    (h : w ∈ s.tileWrites n f px) : s.heldBack w.tile = false := by
  unfold State.tileWrites at h
  split at h
  · cases h
  · simp only [List.mem_filterMap] at h
    obtain ⟨b, -, hb⟩ := h
    split at hb
    next hroutes =>
      cases hb
      simp only [State.routes, Bool.and_eq_true, Bool.not_eq_true'] at hroutes
      exact hroutes.2.2
    next => cases hb

theorem FrameEffect.streamsBlanked (h : FrameEffect s t) (hs : s.StreamsBlanked) : t.StreamsBlanked := by
  cases h with
  | tile n px rest f =>
    obtain ⟨flight, waiting, handing, fill⟩ := hs
    refine ⟨flight, waiting, fun w hw => ?_, fill⟩
    rcases List.mem_append.mp hw with hw | hw
    · exact handing w hw
    · exact heldBack_of_mem_tileWrites hw
  | queue | counts | last | completed | opened | closed | malformed | dropped | routed | discarded | ended => exact hs

/-- What BLANKING holds back is dropped as it begins (R131). -/
theorem dropHeldBack_streamsBlanked (hfill : ∀ w, s.link.fillWaiting = some w → w.kind ≠ .stream) :
    s.dropHeldBack.StreamsBlanked := by
  have unchanged (x : Nat) : s.dropHeldBack.heldBack x = s.heldBack x := rfl
  refine ⟨fun w hw hkind => ?_, fun w hw => ?_, fun w hw => ?_, hfill⟩ <;> rw [unchanged]
  · have hflight := flight_dropHeldBack hw
    simp only [State.dropHeldBack, hflight, hkind, true_and] at hw
    split at hw
    next => cases hw
    next hheld => exact Bool.eq_false_iff.mpr hheld
  · simpa using (Option.filter_eq_some_iff.mp hw).2
  · simpa using (List.mem_filter.mp hw).2

theorem EngineEffect.streamsBlanked (h : EngineEffect s t) (hs : s.StreamsBlanked) : t.StreamsBlanked := by
  cases h with
  | latched | conflict => exact hs
  | commitBuild =>
    exact hs.mono (fun _ hw => hw) rfl rfl (.inr rfl) fun x _ => heldBack_of_phase (fun b m hphase => by cases hphase) x
  | raised =>
    obtain ⟨flags, phase, claims, slots, h⟩ := takeClaim_writes
      ((s.updTransition fun t => { t with state := .building, prepareTimer := none }).updClaims
        fun c => { c with target := s.transition.target })
    rw [State.raiseTarget, h]
    exact hs.mono (fun _ hw => hw) rfl rfl (.inr rfl) fun x _ => heldBack_of_steady rfl x
  | drained m e =>
    have hheld := heldBack_enterIdle s
    obtain ⟨flags, phase, claims, slots, h⟩ := enterIdle_writes s
    rw [h] at hheld ⊢
    exact hs.mono (fun _ hw => hw) rfl rfl (.inr rfl) fun x _ => hheld x
  | failed b =>
    have hheld := heldBack_enterIdle s.settleAbandoned
    obtain ⟨flags, phase, claims, slots, h⟩ := enterIdle_writes s.settleAbandoned
    rw [h] at hheld ⊢
    exact hs.mono (fun _ hw => hw) rfl rfl (.inr rfl) fun x _ => hheld x
  | ready b _ hkind =>
    refine hs.mono (fun _ hw => hw) rfl rfl (.inr rfl) fun x _ => heldBack_of_phase (fun b' m hphase => ?_) x
    cases hphase
    exact hkind
  | blanked => exact dropHeldBack_streamsBlanked hs.2.2.2
  | swapped b m =>
    obtain ⟨flags, slots, counts, waiting, messages, queue, job, h, -, hwaiting⟩ := swapped_writes s b m
    rw [h]
    exact hs.mono (fun _ hw => hw) rfl rfl hwaiting fun x _ => heldBack_of_phase (fun b m hphase => by cases hphase) x
  | cancelled =>
    obtain ⟨flags, phase, claims, slots, h⟩ := abandonTarget_writes s
    rw [h]
    exact hs.mono (fun _ hw => hw) rfl rfl (.inr rfl) fun x _ => heldBack_of_steady rfl x

theorem TransitionEffect.streamsBlanked (h : TransitionEffect s t) (hs : s.StreamsBlanked) : t.StreamsBlanked := by
  cases h with
  | settings | windows | joined | waiting | held => exact hs
  | started | settled => exact hs.mono (fun _ hw => hw) rfl rfl (.inr rfl) fun x _ => heldBack_of_steady rfl x
  | holding hstate =>
    refine hs.mono (fun _ hw => hw) rfl rfl (.inr rfl) fun x hx => ?_
    have hon : s.blankingOn = true := by simp [State.blankingOn, hstate]
    rw [State.heldBack, hon] at hx
    exact hx

theorem ResetEffect.streamsBlanked (h : ResetEffect c s t) (hs : s.StreamsBlanked) : t.StreamsBlanked := by
  cases h with
  | held => exact .of_empty rfl rfl rfl rfl
  | restarted =>
    obtain ⟨flags, phase, claims, slots, h⟩ := claimRestore_writes s.restartBlocks
    rw [h]
    exact .of_empty rfl rfl rfl rfl
  | level | awake => exact hs

theorem Does.streamsBlanked (h : Does c s t) (hs : s.StreamsBlanked) : t.StreamsBlanked := by
  rcases h with h | h
  · cases h with
    | port h =>
      obtain ⟨p, u, n, rfl⟩ := h.writes
      exact hs
    | link h => exact h.streamsBlanked hs
    | zone h =>
      obtain ⟨q, line, rfl⟩ := h.writes
      exact hs
    | frame h => exact h.streamsBlanked hs
    | record h =>
      obtain ⟨b, rfl⟩ := h.writes
      exact hs
    | engine h => exact h.streamsBlanked hs
    | transition h => exact h.streamsBlanked hs
    | sampler h =>
      obtain ⟨q, rfl, -⟩ := h.writes
      exact hs
    | reset h => exact h.streamsBlanked hs
  · cases h <;> exact hs

end

/-- Settles O52: what BLANKING holds back is dropped as it begins, and nothing is handed on that it holds back. -/
theorem streamsStayBlanked : Obligations.StreamsStayBlanked :=
  keptByStep_of_does (fun _ _ hs => hs) fun _ _ _ h hs => h.streamsBlanked hs

end Sys2Proof.Machine

/-! CLAIM. The maps and the panel's memory in canonical form, the geometry record in its ranges, the Fill Wait Count at
most 8, the waiting fill jobs of distinct keys, and the port with a request or a response but not both. -/

namespace Sys2Proof.Machine

/-! ## The map of a build is in canonical form -/

theorem risingKeys_of_pairwise {α : Type} (l : List (Nat × α)) (h : l.Pairwise fun a b => a.1 < b.1) :
    risingKeys l = true := by
  induction l with
  | nil => rfl
  | cons a rest ih =>
    rw [risingKeys_cons_iff]
    obtain ⟨hhead, hrest⟩ := List.pairwise_cons.mp h
    exact ⟨fun b hb => hhead b (List.mem_of_mem_head? hb), ih hrest⟩

theorem Build.map_tiles (b : Build) : b.map.tiles = (List.range Config.tileCount).filterMap fun t =>
    if b.entryAt t = TileEntry.empty then none else some (t, b.entryAt t) := by
  simp only [Build.map]

/-- What a build makes is in canonical form (R45, R60). -/
theorem Build.map_wf (b : Build) : b.map.wf = true := by
  have listed {t : Nat} {e : Nat × TileEntry}
      (h : (if b.entryAt t = TileEntry.empty then none else some (t, b.entryAt t)) = some e) :
      e = (t, b.entryAt t) ∧ b.entryAt t ≠ TileEntry.empty := by
    split at h
    · cases h
    next hne =>
      cases h
      exact ⟨rfl, hne⟩
  rw [Map.wf, Bool.and_eq_true, b.map_tiles]
  constructor
  · refine risingKeys_of_pairwise _ (List.Pairwise.filterMap _ ?_ List.pairwise_lt_range)
    intro t u htu x hx y hy
    rw [(listed hx).1, (listed hy).1]
    exact htu
  · rw [List.all_eq_true]
    intro e he
    obtain ⟨t, ht, hte⟩ := List.mem_filterMap.mp he
    obtain ⟨rfl, hne⟩ := listed hte
    exact decide_eq_true ⟨List.mem_range.mp ht, hne⟩

/-! ## Canonical form -/

section
variable {c : Instr} {s t : State}

/-- The canonical form where the engine holds no map but the ACTIVE one. -/
theorem State.Canonical.of_bank {s : State} (hactive : s.engine.active.wf = true) (hpanel : s.panel.wf = true)
    (hphase : s.engine.phase = .idle ∨ ∃ b, s.engine.phase = .building b) : s.Canonical := by
  refine ⟨hactive, hpanel, ?_⟩
  rcases hphase with h | ⟨b, h⟩ <;> rw [h] <;> trivial

theorem State.Canonical.enterIdle {s : State} (hs : s.Canonical) : s.enterIdle.Canonical := by
  have hphase := enterIdle_phase s
  obtain ⟨flags, phase, claims, slots, h⟩ := enterIdle_writes s
  rw [h] at hphase ⊢
  exact .of_bank hs.1 hs.2.1 hphase

theorem State.Canonical.takeClaim {s : State} (hs : s.Canonical) : s.takeClaim.Canonical := by
  by_cases hidle : s.engine.phase = .idle
  · have hphase := takeClaim_phase s
    obtain ⟨flags, phase, claims, slots, h⟩ := takeClaim_writes s
    rw [h] at hphase ⊢
    rw [hidle] at hphase
    exact .of_bank hs.1 hs.2.1 hphase
  · rwa [takeClaim_busy s hidle]

theorem State.Canonical.abandonTarget {s : State} (hs : s.Canonical) : s.abandonTarget.Canonical := by
  have given : (s.updClaims fun q => { q with target := none }).Canonical := hs
  unfold State.abandonTarget
  dsimp only
  split
  · split
    · exact State.Canonical.enterIdle (s := (s.updClaims _).settleAbandoned) hs
    · exact given
  · split
    · exact State.Canonical.enterIdle (s := (s.updClaims _).settleAbandoned) hs
    · exact given
  all_goals exact given

theorem EngineEffect.canonical (h : EngineEffect s t) (hs : s.Canonical) : t.Canonical := by
  cases h with
  | latched | conflict => exact hs
  | commitBuild => exact .of_bank hs.1 hs.2.1 (.inr ⟨_, rfl⟩)
  | raised => exact State.Canonical.takeClaim (s := (s.updTransition _).updClaims _) hs
  | drained => exact hs.enterIdle
  | failed => exact State.Canonical.enterIdle (s := s.settleAbandoned) hs
  | ready b => exact ⟨hs.1, hs.2.1, b.map_wf⟩
  | blanked b => exact ⟨hs.1, hs.2.1, b.map_wf⟩
  | cancelled => exact hs.abandonTarget
  | swapped b m hdue =>
    obtain ⟨flags, slots, counts, waiting, messages, queue, job, h, -⟩ := swapped_writes s b m
    have hm : m.wf = true := by
      have hphase := hs.2.2
      unfold State.dueSwap at hdue
      split at hdue
      next b' m' hready =>
        rw [hready] at hphase
        split at hdue
        · cases hdue
          exact hphase
        · cases hdue
          exact hphase
        · split at hdue
          · cases hdue
            exact hphase
          · cases hdue
      all_goals cases hdue
    rw [h]
    exact ⟨hm, hs.2.1, hs.1⟩

theorem ResetEffect.canonical (h : ResetEffect c s t) (hs : s.Canonical) : t.Canonical := by
  cases h with
  | held => exact ⟨rfl, hs.2.1, trivial⟩
  | restarted =>
    have restarted : s.restartBlocks.Canonical := ⟨rfl, hs.2.1, trivial⟩
    unfold State.claimRestore
    split
    · exact State.Canonical.takeClaim (s := s.restartBlocks.updClaims _) restarted
    · exact restarted
  | level | awake => exact hs

theorem Does.canonical (h : Does c s t) (hs : s.Canonical) : t.Canonical := by
  rcases h with h | h
  · cases h with
    | port h =>
      obtain ⟨p, u, n, rfl⟩ := h.writes
      exact hs
    | link h =>
      cases h with
      | panel p _ hp => exact ⟨hs.1, hp hs.2.1, hs.2.2⟩
      | fill | offer | hand | dropStream | grantStream | grantFill | grantMessage | free | settings => exact hs
    | zone h =>
      obtain ⟨q, line, rfl⟩ := h.writes
      exact hs
    | frame h =>
      obtain ⟨r, rfl⟩ := h.writes
      exact hs
    | record h =>
      obtain ⟨b, rfl⟩ := h.writes
      exact hs
    | engine h => exact h.canonical hs
    | transition h =>
      obtain ⟨q, rfl⟩ := h.writes
      exact hs
    | sampler h =>
      obtain ⟨q, rfl, -⟩ := h.writes
      exact hs
    | reset h => exact h.canonical hs
  · cases h <;> exact hs

/-! ## The Fill Wait Count, the queue and the port -/

/-- The engine's work leaves the Fill Wait Count and the port's buffers, keeps the waiting keys distinct, and leaves
what is beyond the link's work (R96, R101, R180). -/
theorem EngineEffect.leaves (h : EngineEffect s t) : t.link.fillWaitCount = s.link.fillWaitCount
    ∧ (s.fill.queue.Nodup → t.fill.queue.Nodup) ∧ t.port.request = s.port.request ∧ t.port.response = s.port.response
    ∧ t.geometry = s.geometry := by
  cases h with
  | latched | conflict | commitBuild | ready | blanked => exact ⟨rfl, id, rfl, rfl, rfl⟩
  | raised =>
    obtain ⟨flags, phase, claims, slots, h⟩ := takeClaim_writes
      ((s.updTransition fun t => { t with state := .building, prepareTimer := none }).updClaims
        fun c => { c with target := s.transition.target })
    rw [State.raiseTarget, h]
    exact ⟨rfl, id, rfl, rfl, rfl⟩
  | drained =>
    obtain ⟨flags, phase, claims, slots, h⟩ := enterIdle_writes s
    rw [h]
    exact ⟨rfl, id, rfl, rfl, rfl⟩
  | failed =>
    obtain ⟨flags, phase, claims, slots, h⟩ := enterIdle_writes s.settleAbandoned
    rw [h]
    exact ⟨rfl, id, rfl, rfl, rfl⟩
  | cancelled =>
    obtain ⟨flags, phase, claims, slots, h⟩ := abandonTarget_writes s
    rw [h]
    exact ⟨rfl, id, rfl, rfl, rfl⟩
  | swapped b m =>
    obtain ⟨flags, slots, counts, waiting, messages, queue, job, h, hqueue, -⟩ := swapped_writes s b m
    rw [h]
    exact ⟨rfl, hqueue, rfl, rfl, rfl⟩

/-- After the assertion of DRSTN nothing waits, and the geometry stands (R3, R101, R109, R185). -/
theorem restarted_leaves (s : State) :
    s.restartBlocks.claimRestore.link.fillWaitCount = 0 ∧ s.restartBlocks.claimRestore.fill.queue = []
      ∧ s.restartBlocks.claimRestore.port.request = none ∧ s.restartBlocks.claimRestore.geometry = s.geometry := by
  obtain ⟨flags, phase, claims, slots, h⟩ := claimRestore_writes s.restartBlocks
  rw [h]
  refine ⟨rfl, ?_, rfl, rfl⟩
  change (s.fill.restart s.table.retain).queue = []
  unfold Fill.restart
  split <;> rfl

theorem LinkEffect.forms (h : LinkEffect c s t) (hcount : s.FillServed) (hqueue : s.QueueDistinct) :
    t.FillServed ∧ t.QueueDistinct := by
  cases h with
  | fill f hf => exact ⟨hcount, hf hqueue⟩
  | grantStream w _ _ hguard =>
    refine ⟨?_, hqueue⟩
    unfold State.FillServed at hcount ⊢
    dsimp only
    rcases hguard with hnone | hless
    · rw [hnone]
      exact hcount
    · split
      · exact hless
      · exact hcount
  | grantFill => exact ⟨Nat.zero_le 8, hqueue⟩
  | offer | hand | dropStream | grantMessage | free | settings | panel => exact ⟨hcount, hqueue⟩

theorem PortEffect.exclusive (h : PortEffect c s t) (hs : s.PortExclusive) : t.PortExclusive := by
  cases h with
  | write p n _ hport =>
    rcases hport with h | h | ⟨hrequest, hresponse⟩
    · exact .inl h
    · exact .inr h
    · exact hs.imp hrequest.trans hresponse.trans
  | flag f => simpa [State.PortExclusive] using hs
  | answer => exact hs

/-- What the law says of the counters, the queue, the port and the geometry. -/
def State.Forms (s : State) : Prop := s.FillServed ∧ s.QueueDistinct ∧ s.PortExclusive ∧ s.geometry.inRange = true

theorem Does.forms (h : Does c s t) (hs : s.Forms) : t.Forms := by
  obtain ⟨hcount, hqueue, hport, hrange⟩ := hs
  rcases h with h | h
  · cases h with
    | port h =>
      obtain ⟨p, u, n, ht⟩ := h.writes
      have hport := h.exclusive hport
      subst ht
      exact ⟨hcount, hqueue, hport, hrange⟩
    | link h =>
      obtain ⟨l, f, hd, p, ht⟩ := h.writes
      have hforms := h.forms hcount hqueue
      subst ht
      exact ⟨hforms.1, hforms.2, hport, hrange⟩
    | zone h =>
      obtain ⟨q, line, rfl⟩ := h.writes
      exact ⟨hcount, hqueue, hport, hrange⟩
    | frame h =>
      obtain ⟨r, rfl⟩ := h.writes
      exact ⟨hcount, hqueue, hport, hrange⟩
    | record h =>
      obtain ⟨b, rfl⟩ := h.writes
      exact ⟨hcount, hqueue, hport, hrange⟩
    | engine h =>
      obtain ⟨hcount', hqueue', hrequest, hresponse, hgeometry⟩ := h.leaves
      exact ⟨hcount'.trans_le hcount, hqueue' hqueue, hport.imp hrequest.trans hresponse.trans, hgeometry ▸ hrange⟩
    | transition h =>
      obtain ⟨q, rfl⟩ := h.writes
      exact ⟨hcount, hqueue, hport, hrange⟩
    | sampler h =>
      obtain ⟨q, rfl, -⟩ := h.writes
      exact ⟨hcount, hqueue, hport, hrange⟩
    | reset h =>
      cases h with
      | held => exact ⟨Nat.zero_le 8, List.nodup_nil, .inl rfl, rfl⟩
      | restarted =>
        obtain ⟨hcount', hqueue', hport', hgeometry⟩ := restarted_leaves s
        exact ⟨hcount'.trans_le (Nat.zero_le 8), show List.Nodup _ from hqueue' ▸ List.nodup_nil, .inl hport', hgeometry ▸ hrange⟩
      | level | awake => exact ⟨hcount, hqueue, hport, hrange⟩
  · cases h with
    | geometry g hg => exact ⟨hcount, hqueue, hport, hg⟩
    | keepOuts | sample | tripped | released => exact ⟨hcount, hqueue, hport, hrange⟩

end

/-- Settles O53: the map of a build is canonical, and what writes a counter, the queue, the port or the geometry has
tested before it does. -/
theorem formsKept : Obligations.FormsKept :=
  keptByStep_of_does (fun _ _ hs => hs) fun _ _ _ h hs => ⟨h.canonical hs.1, h.forms hs.2⟩

end Sys2Proof.Machine

/-! SUPPORT. What the engine's work does to each record: a claim taken marks the records that its build includes, a swap
settles them (R32 to R36, R66). -/

namespace Sys2Proof.Machine

/-! ## Claims -/

/-- The record as the start of a build leaves it (R33). -/
def Record.marked (k : BuildKind) (joined : Bool) (r : Record) : Record :=
  { r with inBuild := r.inBuild || (r.contribution k joined).included }

theorem startBuild_record (s : State) (k : BuildKind) (l : Layout) (i : Slot) :
    (s.startBuild k l).record i = (s.record i).marked k s.transition.commitJoined := record_startBuild s k l i

/-- What taking a claim does: nothing, a build of the records as they stand, or the flag of a COMMIT with nothing to
commit (R52, R53). -/
theorem takeClaim_cases (s : State) :
    (s.takeClaim = s ∧ (s.engine.phase ≠ .idle ∨ s.engine.claims.waits = false))
      ∨ (s.engine.phase = .idle ∧ s.engine.claims.restore = true
        ∧ s.takeClaim = (s.updClaims fun c => { c with restore := false }).startBuild .restore s.activeLayout)
      ∨ (∃ l, s.engine.phase = .idle ∧ s.engine.claims.restore = false ∧ s.engine.claims.target = some l
        ∧ s.takeClaim = s.takeTarget l)
      ∨ (s.engine.phase = .idle ∧ s.engine.claims.restore = false ∧ s.engine.claims.target = none
        ∧ s.takeClaim = (s.updClaims fun c => { c with commitLatch := false }).startBuild .commit s.activeLayout)
      ∨ (s.engine.phase = .idle ∧ s.engine.claims.restore = false ∧ s.engine.claims.target = none
        ∧ s.takeClaim = (s.updClaims fun c => { c with commitLatch := false }).setFlag .commitDone) := by
  unfold State.takeClaim
  split
  next hidle =>
    split
    next hrestore => exact .inr (.inl ⟨hidle, hrestore, rfl⟩)
    next hrestore =>
      have hrestore : s.engine.claims.restore = false := Bool.eq_false_iff.mpr hrestore
      split
      next l htarget => exact .inr (.inr (.inl ⟨l, hidle, hrestore, htarget, rfl⟩))
      next htarget =>
        split
        next =>
          unfold State.takeLatch
          dsimp only
          split
          · exact .inr (.inr (.inr (.inl ⟨hidle, hrestore, htarget, rfl⟩)))
          · exact .inr (.inr (.inr (.inr ⟨hidle, hrestore, htarget, rfl⟩)))
        next hlatch =>
          have hlatch : s.engine.claims.commitLatch = false := Bool.eq_false_iff.mpr hlatch
          exact .inl ⟨rfl, .inr (by simp [Claims.waits, hrestore, htarget, hlatch])⟩
  all_goals exact .inl ⟨rfl, .inl (by simp [*])⟩

/-- Taking a claim leaves a record or marks it (R33). -/
theorem takeClaim_record (s : State) (i : Slot) :
    s.takeClaim.record i = s.record i
      ∨ ∃ k, s.takeClaim.record i = (s.record i).marked k s.transition.commitJoined := by
  rcases takeClaim_cases s with ⟨h, -⟩ | ⟨-, -, h⟩ | ⟨l, -, -, -, h⟩ | ⟨-, -, -, h⟩ | ⟨-, -, -, h⟩ <;> rw [h]
  · exact .inl rfl
  · exact .inr ⟨.restore, startBuild_record _ _ _ i⟩
  · exact .inr ⟨.target, startBuild_record _ _ _ i⟩
  · exact .inr ⟨.commit, startBuild_record _ _ _ i⟩
  · exact .inl (by simp [State.record])

theorem enterIdle_record (s : State) (i : Slot) :
    s.enterIdle.record i = s.record i
      ∨ ∃ k, s.enterIdle.record i = (s.record i).marked k s.transition.commitJoined :=
  takeClaim_record { s with engine := { s.engine with phase := .idle } } i

theorem settleAbandoned_record (s : State) (i : Slot) :
    s.settleAbandoned.record i = { s.record i with inBuild := false } := record_mapRecords s _ i

/-! ## The records at a swap -/

/-- The record as the settling of a swap leaves it; excluded says whether the build excluded it (R34, R135). -/
def Record.settled (length : Nat) (excluded : Bool) (r : Record) : Record :=
  if (r.inBuild && r.retirePending) || excluded then r.quarantined length
  else if r.inBuild then r.committed
  else r

/-- The record with what an IN_SERVICE one receives from the new map (R66). -/
def Record.given (showing : Showing) (owned : Nat) (r : Record) : Record :=
  if r.lifecycle = .inService then { r with showing, ownedTiles := owned } else r

theorem enterQuarantine_record (s : State) (i j : Slot) : (s.enterQuarantine i).record j =
    if i = j then (s.record j).quarantined s.table.quarantineLength else s.record j := by
  unfold State.enterQuarantine
  rw [removeJob_eq]
  change (s.updRecord i _).record j = _
  split
  next h => rw [h, record_updRecord_self]
  next h => rw [record_updRecord_ne _ _ _ _ h]

theorem enterQuarantine_quarantineLength (s : State) (i : Slot) :
    (s.enterQuarantine i).table.quarantineLength = s.table.quarantineLength := by
  unfold State.enterQuarantine
  rw [removeJob_eq]
  rfl

theorem foldl_enterQuarantine_record (l : List Slot) (s : State) (j : Slot) :
    (l.foldl (fun u i => u.enterQuarantine i) s).record j =
      if j ∈ l then (s.record j).quarantined s.table.quarantineLength else s.record j := by
  induction l generalizing s with
  | nil => rfl
  | cons i rest ih =>
    rw [List.foldl_cons, ih, enterQuarantine_quarantineLength, enterQuarantine_record]
    by_cases hij : i = j
    · subst hij
      simp only [if_true, List.mem_cons, true_or]
      split <;> rfl
    · simp [hij, Ne.symm hij]

theorem mem_slotList (i : Slot) : i ∈ slotList := List.mem_finRange i

theorem mem_leavers (s : State) (b : Build) (i : Slot) : i ∈ s.leavers b ↔
    (((s.record i).inBuild && (s.record i).retirePending) || decide (b.snapshot[i] = .excluded)) = true := by
  simp [State.leavers, mem_slotList]

theorem settleRecords_record (s : State) (b : Build) (i : Slot) : (s.settleRecords b).record i =
    (s.record i).settled s.table.quarantineLength (decide (b.snapshot[i] = .excluded)) := by
  unfold State.settleRecords
  change (State.mapRecords (fun _ r => if r.inBuild then r.committed else r) _).record i = _
  rw [record_mapRecords, foldl_enterQuarantine_record]
  simp only [mem_leavers]
  unfold Record.settled
  split
  · rfl
  · rfl

theorem giveShowing_record (s : State) (b : Build) (m : Map) (i : Slot) : (s.giveShowing b m).record i =
    (s.record i).given (b.showing i) (m.ownedCount i) := by
  unfold State.giveShowing
  change (State.mapRecords _ _).record i = _
  rw [record_mapRecords]
  rfl

/-- What a swap makes of a record (R34, R36, R66). -/
theorem swapped_record (s : State) (b : Build) (m : Map) (i : Slot) : (s.swapped b m).record i =
    ((s.record i).settled s.table.quarantineLength (decide (b.snapshot[i] = .excluded))).given (b.showing i)
      (m.ownedCount i) := by
  have hrequeue : s.requeueJob.table = s.table := by
    obtain ⟨queue, job, waiting, h, -⟩ := requeueJob_writes s
    rw [h]
  have htable : (s.swapped b m).table = (((s.requeueJob.settleRecords b).exchange m).giveShowing b m).table := by
    obtain ⟨queue, hjobs, -⟩ := queueSwapJobs_writes (((s.requeueJob.settleRecords b).exchange m).giveShowing b m)
      (fun i => (s.record i).inBuild) m
    obtain ⟨flags, hflag⟩ := swapFlag_writes ((((s.requeueJob.settleRecords b).exchange m).giveShowing b m).queueSwapJobs
      (fun i => (s.record i).inBuild) m) b
    unfold State.swapped
    dsimp only
    split
    · obtain ⟨flags', messages, h⟩ := enterSettling_writes
        (((((s.requeueJob.settleRecords b).exchange m).giveShowing b m).queueSwapJobs
          (fun i => (s.record i).inBuild) m).swapFlag b)
      rw [h, hflag, hjobs]
    · rw [hflag, hjobs]
  have hrecord : s.requeueJob.record i = s.record i := by rw [State.record, hrequeue]; rfl
  rw [State.record, htable]
  change (State.giveShowing b m _).record i = _
  rw [giveShowing_record]
  change ((s.requeueJob.settleRecords b).record i).given _ _ = _
  rw [settleRecords_record, hrecord, hrequeue]

end Sys2Proof.Machine

/-! CLAIM. The records are as their lifecycle state allows, their placements lie within their faces, and Owned Tiles
count their tiles in the ACTIVE map (R20, R21, R22, R23). -/

namespace Sys2Proof.Machine

/-! ## The parts of a record by its lifecycle state -/

section
variable {r : Record}

theorem lawful_free (h : r.lifecycle = .free) : r.Lawful ↔ r = Record.free r.generation := by
  simp only [Record.Lawful, h]

theorem lawful_staged (h : r.lifecycle = .staged) : r.Lawful ↔
    r.live = none ∧ r.pending.isSome ∧ r.commitPending = true ∧ r.retirePending = false ∧ r.stale = false
      ∧ r.showing = .parked ∧ r.ownedTiles = 0 ∧ r.generation ≠ 0 := by
  simp only [Record.Lawful, h]

theorem lawful_inService (h : r.lifecycle = .inService) : r.Lawful ↔
    r.live.isSome ∧ (r.commitPending = true ↔ r.pending.isSome ∨ r.retirePending = true)
      ∧ (r.inBuild = true → r.commitPending = true) ∧ (r.retirePending = true → r.pending = none)
      ∧ r.generation ≠ 0 := by
  simp only [Record.Lawful, h]

theorem lawful_quarantine (h : r.lifecycle = .quarantine) : r.Lawful ↔
    r.pending = none ∧ r.commitPending = false ∧ r.retirePending = false ∧ r.inBuild = false ∧ r.stale = false
      ∧ r.showing = .parked ∧ r.ownedTiles = 0 := by
  simp only [Record.Lawful, h]

theorem lawful_of_staged (h : r.lifecycle = .staged) (hparts : r.live = none ∧ r.pending.isSome ∧ r.commitPending = true
    ∧ r.retirePending = false ∧ r.stale = false ∧ r.showing = .parked ∧ r.ownedTiles = 0 ∧ r.generation ≠ 0) :
    r.Lawful := (lawful_staged h).mpr hparts

theorem lawful_of_inService (h : r.lifecycle = .inService) (hparts : r.live.isSome
    ∧ (r.commitPending = true ↔ r.pending.isSome ∨ r.retirePending = true) ∧ (r.inBuild = true → r.commitPending = true)
    ∧ (r.retirePending = true → r.pending = none) ∧ r.generation ≠ 0) : r.Lawful := (lawful_inService h).mpr hparts

theorem lawful_of_quarantine (h : r.lifecycle = .quarantine) (hparts : r.pending = none ∧ r.commitPending = false
    ∧ r.retirePending = false ∧ r.inBuild = false ∧ r.stale = false ∧ r.showing = .parked ∧ r.ownedTiles = 0) :
    r.Lawful := (lawful_quarantine h).mpr hparts

theorem free_lawful (g : BitVec 8) : (Record.free g).Lawful := (lawful_free rfl).mpr rfl

/-- A record in a build is STAGED, or IN_SERVICE with its changes pending (R33). -/
theorem Record.Lawful.inBuild (h : r.Lawful) (hbuild : r.inBuild = true) :
    r.lifecycle = .staged ∨ (r.lifecycle = .inService ∧ r.commitPending = true) := by
  cases hlife : r.lifecycle with
  | free =>
    rw [(lawful_free hlife).mp h] at hbuild
    cases hbuild
  | staged => exact .inl rfl
  | inService =>
    obtain ⟨-, -, hcommit, -⟩ := (lawful_inService hlife).mp h
    exact .inr ⟨rfl, hcommit hbuild⟩
  | quarantine =>
    obtain ⟨-, -, -, hclear, -⟩ := (lawful_quarantine hlife).mp h
    rw [hclear] at hbuild
    cases hbuild

/-- A record in a build that does not leave has a pending copy (R32). -/
theorem Record.Lawful.pending (h : r.Lawful) (hbuild : r.inBuild = true) (hretire : r.retirePending = false) :
    r.pending.isSome := by
  rcases h.inBuild hbuild with hlife | ⟨hlife, hcommit⟩
  · exact ((lawful_staged hlife).mp h).2.1
  · obtain ⟨-, hiff, -⟩ := (lawful_inService hlife).mp h
    simpa [hretire] using hiff.mp hcommit

theorem Record.Lawful.generation (h : r.Lawful) (hlife : r.lifecycle = .staged ∨ r.lifecycle = .inService) :
    r.generation ≠ 0 := by
  rcases hlife with hlife | hlife
  · obtain ⟨-, -, -, -, -, -, -, hg⟩ := (lawful_staged hlife).mp h
    exact hg
  · obtain ⟨-, -, -, -, hg⟩ := (lawful_inService hlife).mp h
    exact hg

/-! ## The builds -/

/-- What a build includes is STAGED, or IN_SERVICE with its changes pending (R32, R54, R55). -/
theorem contribution_included {k : BuildKind} {joined : Bool} (h : (r.contribution k joined).included = true) :
    r.lifecycle = .staged ∨ (r.lifecycle = .inService ∧ r.commitPending = true) := by
  have live (h : r.liveContribution.included = true) : False := by
    unfold Record.liveContribution at h
    split at h <;> cases h
  cases k with
  | commit =>
    unfold Record.contribution Record.commitContribution at h
    dsimp only at h
    split at h
    next hlife => exact .inl hlife
    next hlife =>
      split at h
      next hcommit => exact .inr ⟨hlife, hcommit⟩
      next =>
        split at h
        · cases h
        · exact (live h).elim
    all_goals cases h
  | target =>
    unfold Record.contribution Record.targetContribution at h
    dsimp only at h
    split at h
    · cases h
    · split at h
      next hlife => exact .inl hlife
      next hlife =>
        split at h
        next hcommit =>
          simp only [Record.committable, Bool.and_eq_true] at hcommit
          exact .inr ⟨hlife, hcommit.2.1⟩
        next => exact (live h).elim
      all_goals cases h
  | restore =>
    unfold Record.contribution Record.restoreContribution at h
    dsimp only at h
    split at h
    · exact (live h).elim
    all_goals cases h

theorem marked_lawful (k : BuildKind) (joined : Bool) (h : r.Lawful) : (r.marked k joined).Lawful := by
  cases hincluded : (r.contribution k joined).included with
  | false =>
    have hsame : r.marked k joined = r := by simp [Record.marked, hincluded]
    rwa [hsame]
  | true =>
    rcases contribution_included hincluded with hlife | ⟨hlife, hcommit⟩
    · exact lawful_of_staged hlife ((lawful_staged hlife).mp h)
    · obtain ⟨hlive, hiff, -, hretire, hg⟩ := (lawful_inService hlife).mp h
      exact lawful_of_inService hlife ⟨hlive, hiff, fun _ => hcommit, hretire, hg⟩

theorem abandoned_lawful (h : r.Lawful) : ({ r with inBuild := false } : Record).Lawful := by
  cases hlife : r.lifecycle with
  | free =>
    rw [(lawful_free hlife).mp h]
    exact free_lawful _
  | staged => exact lawful_of_staged rfl ((lawful_staged hlife).mp h)
  | inService =>
    obtain ⟨hlive, hiff, -, hretire, hg⟩ := (lawful_inService hlife).mp h
    exact lawful_of_inService rfl ⟨hlive, hiff, nofun, hretire, hg⟩
  | quarantine =>
    obtain ⟨hpending, hcommit, hretire, -, hrest⟩ := (lawful_quarantine hlife).mp h
    exact lawful_of_quarantine rfl ⟨hpending, hcommit, hretire, rfl, hrest⟩

/-! ## Edits, retirement, QUARANTINE and the swap -/

theorem nextGeneration_ne_zero (g : BitVec 8) : nextGeneration g ≠ 0 := by
  unfold nextGeneration
  split
  · decide
  · bv_omega

theorem claimed_lawful (x : Content) : (r.claimed x).Lawful :=
  lawful_of_staged rfl ⟨rfl, rfl, rfl, rfl, rfl, rfl, rfl, nextGeneration_ne_zero _⟩

theorem edited_lawful (x : Content) (hlife : r.lifecycle = .staged ∨ r.lifecycle = .inService)
    (hretire : r.retirePending = false) (h : r.Lawful) : (r.edited x).Lawful := by
  rcases hlife with hlife | hlife
  · obtain ⟨hlive, -, -, hrest⟩ := (lawful_staged hlife).mp h
    exact lawful_of_staged hlife ⟨hlive, rfl, rfl, hrest⟩
  · obtain ⟨hlive, -, -, -, hg⟩ := (lawful_inService hlife).mp h
    exact lawful_of_inService hlife ⟨hlive, iff_of_true rfl (.inl rfl), fun _ => rfl,
      fun hr => absurd (hretire.symm.trans hr) nofun, hg⟩

theorem retiring_lawful (hlife : r.lifecycle = .inService) (h : r.Lawful) : r.retiring.Lawful := by
  unfold Record.retiring
  split
  · exact h
  · obtain ⟨hlive, -, -, -, hg⟩ := (lawful_inService hlife).mp h
    exact lawful_of_inService hlife ⟨hlive, iff_of_true rfl (.inr rfl), fun _ => rfl, fun _ => rfl, hg⟩

theorem discarded_lawful (hlife : r.lifecycle = .inService) (hbuild : r.inBuild = false) (h : r.Lawful) :
    r.discarded.Lawful := by
  obtain ⟨hlive, -, -, -, hg⟩ := (lawful_inService hlife).mp h
  exact lawful_of_inService hlife ⟨hlive, ⟨nofun, fun hr => by rcases hr with hr | hr <;> cases hr⟩,
    fun hb => absurd (hbuild.symm.trans hb) nofun, fun _ => rfl, hg⟩

theorem quarantined_lawful (length : Nat) : (r.quarantined length).Lawful :=
  lawful_of_quarantine rfl ⟨rfl, rfl, rfl, rfl, rfl, rfl, rfl⟩

theorem stale_lawful (stale : Bool) (hlife : r.lifecycle = .inService) (h : r.Lawful) :
    ({ r with stale } : Record).Lawful :=
  lawful_of_inService hlife ((lawful_inService hlife).mp h)

theorem quarantineTick_lawful (h : r.Lawful) : r.quarantineTick.Lawful := by
  unfold Record.quarantineTick
  split
  next hlife =>
    split
    · exact free_lawful _
    · exact lawful_of_quarantine hlife ((lawful_quarantine hlife).mp h)
  next => exact h

theorem committed_lawful (hbuild : r.inBuild = true) (hretire : r.retirePending = false) (h : r.Lawful) :
    r.committed.Lawful := by
  have hg := h.generation ((h.inBuild hbuild).imp_right And.left)
  refine lawful_of_inService rfl ⟨h.pending hbuild hretire, ⟨nofun, fun hr => ?_⟩, nofun, fun _ => rfl, hg⟩
  rcases hr with hr | hr
  · cases hr
  · exact absurd (hretire.symm.trans hr) nofun

theorem settled_lawful (length : Nat) (excluded : Bool) (h : r.Lawful) : (r.settled length excluded).Lawful := by
  unfold Record.settled
  split
  · exact quarantined_lawful length
  next hstays =>
    split
    next hbuild =>
      simp only [hbuild, Bool.true_and, Bool.or_eq_true, not_or, Bool.not_eq_true] at hstays
      exact committed_lawful hbuild hstays.1 h
    next => exact h

theorem given_lawful (showing : Showing) (owned : Nat) (h : r.Lawful) : (r.given showing owned).Lawful := by
  unfold Record.given
  split
  next hlife => exact lawful_of_inService hlife ((lawful_inService hlife).mp h)
  next => exact h

theorem restart_lawful (retain : Bool) (h : r.Lawful) : (r.restart retain).Lawful := by
  unfold Record.restart
  split
  next hkeeps =>
    simp only [Record.keeps, Bool.and_eq_true, decide_eq_true_eq] at hkeeps
    obtain ⟨hlive, -, -, -, hg⟩ := (lawful_inService hkeeps.2.1).mp h
    exact lawful_of_inService hkeeps.2.1 ⟨hlive, ⟨nofun, fun hr => by rcases hr with hr | hr <;> cases hr⟩,
      nofun, fun _ => rfl, hg⟩
  next => exact free_lawful _

/-! ## Placements and counts -/

/-- What the copies of a record in use have to pass under a geometry record (R20). -/
def Record.Fitting (g : Geometry) (r : Record) : Prop :=
  (r.lifecycle = .staged ∨ r.lifecycle = .inService) →
    (∀ c, r.live = some c → c.Fits g) ∧ (∀ c, r.pending = some c → c.Fits g)

theorem fitting_of_unused {g : Geometry} (h : r.lifecycle = .free ∨ r.lifecycle = .quarantine) : r.Fitting g := by
  intro hlife
  rcases h with h | h <;> simp [h] at hlife

/-- The record is lawful, fits, and counts a number of tiles where it is IN_SERVICE. -/
def Record.Sound (g : Geometry) (owned : Nat) (r : Record) : Prop :=
  r.Lawful ∧ r.Fitting g ∧ (r.lifecycle = .inService → r.ownedTiles = owned)

variable {g : Geometry} {n : Nat}

theorem marked_sound (k : BuildKind) (joined : Bool) (h : r.Sound g n) : (r.marked k joined).Sound g n :=
  ⟨marked_lawful k joined h.1, h.2⟩

theorem abandoned_sound (h : r.Sound g n) : ({ r with inBuild := false } : Record).Sound g n :=
  ⟨abandoned_lawful h.1, h.2⟩

theorem free_sound (generation : BitVec 8) : (Record.free generation).Sound g n :=
  ⟨free_lawful _, fitting_of_unused (.inl rfl), nofun⟩

theorem quarantined_sound (length : Nat) : (r.quarantined length).Sound g n :=
  ⟨quarantined_lawful _, fitting_of_unused (.inr rfl), nofun⟩

theorem claimed_sound {x : Content} (hx : x.Fits g) : (r.claimed x).Sound g n := by
  refine ⟨claimed_lawful x, fun _ => ⟨nofun, fun c hc => ?_⟩, nofun⟩
  cases hc
  exact hx

theorem edited_sound {x : Content} (hx : x.Fits g) (hlife : r.lifecycle = .staged ∨ r.lifecycle = .inService)
    (hretire : r.retirePending = false) (h : r.Sound g n) : (r.edited x).Sound g n := by
  refine ⟨edited_lawful x hlife hretire h.1, fun hl => ⟨(h.2.1 hl).1, fun c hc => ?_⟩, h.2.2⟩
  cases hc
  exact hx

theorem retiring_sound (hlife : r.lifecycle = .inService) (h : r.Sound g n) : r.retiring.Sound g n := by
  refine ⟨retiring_lawful hlife h.1, ?_⟩
  unfold Record.retiring
  split
  · exact h.2
  · exact ⟨fun hl => ⟨(h.2.1 hl).1, nofun⟩, h.2.2⟩

theorem discarded_sound (hlife : r.lifecycle = .inService) (hbuild : r.inBuild = false) (h : r.Sound g n) :
    r.discarded.Sound g n :=
  ⟨discarded_lawful hlife hbuild h.1, fun hl => ⟨(h.2.1 hl).1, nofun⟩, h.2.2⟩

theorem quarantineTick_sound (h : r.Sound g n) : r.quarantineTick.Sound g n := by
  refine ⟨quarantineTick_lawful h.1, ?_⟩
  unfold Record.quarantineTick
  split
  next hlife =>
    split
    · exact (free_sound r.generation).2
    · exact h.2
  next => exact h.2

theorem settled_fitting (length : Nat) (excluded : Bool) (h : r.Lawful) (hfits : r.Fitting g) :
    (r.settled length excluded).Fitting g := by
  unfold Record.settled
  split
  · exact fitting_of_unused (.inr rfl)
  · split
    next hbuild => exact fun _ => ⟨(hfits ((h.inBuild hbuild).imp_right And.left)).2, nofun⟩
    next => exact hfits

/-- After a swap every IN_SERVICE record counts its tiles in the new map (R66). -/
theorem given_sound (showing : Showing) (owned : Nat) (h : r.Lawful) (hfits : r.Fitting g) :
    (r.given showing owned).Sound g owned := by
  refine ⟨given_lawful showing owned h, ?_⟩
  unfold Record.given
  split
  next => exact ⟨hfits, fun _ => rfl⟩
  next hlife => exact ⟨hfits, fun hl => absurd hl hlife⟩

theorem restart_sound (retain : Bool) (h : r.Sound g n) : (r.restart retain).Sound g 0 := by
  refine ⟨restart_lawful retain h.1, ?_⟩
  unfold Record.restart
  split
  · exact ⟨fun hl => ⟨(h.2.1 hl).1, nofun⟩, fun _ => rfl⟩
  · exact (free_sound (n := 0) r.generation).2

end

/-! ## Effects -/

/-- Every record is sound under the geometry and the ACTIVE map. -/
def State.Sound (s : State) : Prop := ∀ i : Slot, (s.record i).Sound s.geometry (s.engine.active.ownedCount i)

theorem sound_iff (s : State) : s.Sound ↔ s.RecordsLawful ∧ s.PlacementsFit ∧ s.OwnedCounted :=
  ⟨fun h => ⟨fun i => (h i).1, fun i => (h i).2.1, fun i => (h i).2.2⟩, fun h i => ⟨h.1 i, h.2.1 i, h.2.2 i⟩⟩

section
variable {c : Instr} {s t : State}

/-- A changed record is sound, the others stand. -/
theorem State.Sound.updRecord (hs : s.Sound) (i : Slot) {f : Record → Record}
    (hf : (f (s.record i)).Sound s.geometry (s.engine.active.ownedCount i)) : (s.updRecord i f).Sound := by
  intro j
  by_cases hij : i = j
  · subst hij
    rw [record_updRecord_self]
    exact hf
  · rw [record_updRecord_ne _ _ _ _ hij]
    exact hs j

theorem State.Sound.takeClaim (hs : s.Sound) : s.takeClaim.Sound := by
  have marked (i : Slot) : (s.takeClaim.record i).Sound s.geometry (s.engine.active.ownedCount i) := by
    rcases takeClaim_record s i with h | ⟨k, h⟩ <;> rw [h]
    · exact hs i
    · exact marked_sound k _ (hs i)
  obtain ⟨flags, phase, claims, slots, h⟩ := takeClaim_writes s
  rw [h] at marked ⊢
  exact marked

theorem State.Sound.enterIdle (hs : s.Sound) : s.enterIdle.Sound :=
  State.Sound.takeClaim (s := { s with engine := { s.engine with phase := .idle } }) hs

theorem State.Sound.settleAbandoned (hs : s.Sound) : s.settleAbandoned.Sound := by
  intro i
  rw [settleAbandoned_record]
  exact abandoned_sound (hs i)

theorem State.Sound.abandonTarget (hs : s.Sound) : s.abandonTarget.Sound := by
  have given : (s.updClaims fun q => { q with target := none }).Sound := hs
  unfold State.abandonTarget
  dsimp only
  split
  · split
    · exact given.settleAbandoned.enterIdle
    · exact given
  · split
    · exact given.settleAbandoned.enterIdle
    · exact given
  all_goals exact given

theorem State.Sound.startBuild (k : BuildKind) (l : Layout) (hs : s.Sound) : (s.startBuild k l).Sound := by
  intro i
  rw [startBuild_record]
  exact marked_sound k _ (hs i)

theorem State.Sound.swapped (b : Build) (m : Map) (hs : s.Sound) : (s.swapped b m).Sound := by
  have given (i : Slot) : ((s.swapped b m).record i).Sound s.geometry (m.ownedCount i) := by
    rw [swapped_record]
    exact given_sound _ _ (settled_lawful _ _ (hs i).1) (settled_fitting _ _ (hs i).1 (hs i).2.1)
  obtain ⟨flags, slots, counts, waiting, messages, queue, job, h, -⟩ := swapped_writes s b m
  rw [h] at given ⊢
  exact given

theorem EngineEffect.sound (h : EngineEffect s t) (hs : s.Sound) : t.Sound := by
  cases h with
  | latched | conflict | ready | blanked => exact hs
  | commitBuild => exact hs.startBuild _ _
  | raised => exact State.Sound.takeClaim (s := (s.updTransition _).updClaims _) hs
  | drained => exact hs.enterIdle
  | failed => exact hs.settleAbandoned.enterIdle
  | swapped b m => exact hs.swapped b m
  | cancelled => exact hs.abandonTarget

theorem isShown_inService {i : Slot} (h : s.isShown i = true) : (s.record i).lifecycle = .inService := by
  simp only [State.isShown, Bool.and_eq_true, decide_eq_true_eq] at h
  exact h.1

theorem RecordEffect.sound (h : RecordEffect c s t) (hs : s.Sound) : t.Sound := by
  cases h with
  | claimed i x _ _ hfits => exact hs.updRecord i (claimed_sound hfits)
  | edited i x hlife _ hretire hfits =>
    exact hs.updRecord i (edited_sound (hfits ((sound_iff s).mp hs).2.1) hlife hretire (hs i))
  | retiring i hlife => exact hs.updRecord i (retiring_sound hlife (hs i))
  | discarded i hlife hbuild => exact hs.updRecord i (discarded_sound hlife hbuild (hs i))
  | quarantined i => exact hs.updRecord i (quarantined_sound _)
  | stale i stale hshown => exact hs.updRecord i ⟨stale_lawful stale (isShown_inService hshown) (hs i).1, (hs i).2⟩
  | tick =>
    intro i
    rw [State.quarantineTick, record_mapRecords]
    exact quarantineTick_sound (hs i)
  | settings => exact hs

theorem restartBlocks_record (s : State) (i : Slot) :
    s.restartBlocks.record i = (s.record i).restart s.table.retain :=
  Vec.tabulate_get _ i

theorem resetHeld_record (s : State) (i : Slot) : s.resetHeld.record i = Record.free 0 := Vec.tabulate_get _ i

theorem ResetEffect.sound (h : ResetEffect c s t) (hs : s.Sound) : t.Sound := by
  cases h with
  | held =>
    intro i
    rw [resetHeld_record]
    exact free_sound 0
  | restarted =>
    have restarted : s.restartBlocks.Sound := fun i => by
      rw [restartBlocks_record]
      exact restart_sound _ (hs i)
    unfold State.claimRestore
    split
    · exact State.Sound.takeClaim (s := s.restartBlocks.updClaims _) restarted
    · exact restarted
  | level | awake => exact hs

/-- With the Geometry Lock off no record is in use (R4). -/
theorem unused_of_unlocked (h : s.geometryLock = false) (i : Slot) :
    (s.record i).lifecycle ≠ .staged ∧ (s.record i).lifecycle ≠ .inService := by
  simp only [State.geometryLock, Bool.or_eq_false_iff, List.any_eq_false] at h
  have hi := h.1.1 i (mem_slotList i)
  simp only [Bool.or_eq_true, decide_eq_true_eq, not_or] at hi
  exact hi

theorem Does.sound (h : Does c s t) (hs : s.Sound) : t.Sound := by
  rcases h with h | h
  · cases h with
    | port h =>
      obtain ⟨p, u, n, rfl⟩ := h.writes
      exact hs
    | link h =>
      obtain ⟨l, f, hd, p, rfl⟩ := h.writes
      exact hs
    | zone h =>
      obtain ⟨q, line, rfl⟩ := h.writes
      exact hs
    | frame h =>
      obtain ⟨r, rfl⟩ := h.writes
      exact hs
    | record h => exact h.sound hs
    | engine h => exact h.sound hs
    | transition h =>
      obtain ⟨q, rfl⟩ := h.writes
      exact hs
    | sampler h =>
      obtain ⟨q, rfl, -⟩ := h.writes
      exact hs
    | reset h => exact h.sound hs
  · cases h with
    | geometry g _ hlock =>
      intro i
      obtain ⟨hstaged, hservice⟩ := unused_of_unlocked hlock i
      exact ⟨(hs i).1, fun hl => (hl.elim hstaged hservice).elim, (hs i).2.2⟩
    | keepOuts | sample | tripped | released => exact hs

end

/-- Settles O54: each change of a record keeps it lawful, a swap gives every IN_SERVICE record its count, and the
geometry changes only while no record is in use. -/
theorem recordsKept : Obligations.RecordsKept := by
  refine keptByStep_of_does (fun _ _ hs => hs) fun c s t h hs => ?_
  rw [← sound_iff] at hs ⊢
  exact h.sound hs

end Sys2Proof.Machine

/-! CLAIM. The Transition Controller's fields and the engine's TARGET work agree (R51, R124, R130, R133). -/

namespace Sys2Proof.Machine

/-! ## The two laws, of the fields that they read -/

/-- The blanking test is on (R131). -/
def Transition.blanks (q : Transition) : Bool := q.state = .blanking || q.state = .holding

/-- The fields of the Transition Controller agree under an active layout. -/
def Transition.Fields (q : Transition) (active : Layout) : Prop :=
  (q.state = .steady → q.target = none)
    ∧ (q.state = .settling → q.target = some active)
    ∧ (q.state ≠ .steady → q.state ≠ .settling → q.target = some active.other)
    ∧ (q.waitingTarget = none ∨ (q.state = .settling ∧ q.waitingTarget = some active.other))
    ∧ (q.prepareTimer.isSome ↔ q.state = .prepare)
    ∧ (q.commitJoined = true → q.state ≠ .steady ∧ q.state ≠ .settling)
    ∧ (q.holdCount ≠ 0 → q.state = .holding) ∧ q.holdCount ≤ q.blankHold ∧ q.blankHold ≤ 7

theorem transitionFields_iff (s : State) : s.TransitionFields ↔ s.transition.Fields s.activeLayout := Iff.rfl

/-- What an engine phase says of the transition and the TARGET claim. -/
def EnginePhase.Agrees (q : Transition) (active : Layout) (claims : Claims) : EnginePhase → Prop
  | .idle => claims.waits = false ∧ q.state ≠ .building ∧ q.blanks = false
  | .building b =>
    (if b.kind = .target then q.state = .building ∧ q.target = some b.layout ∧ claims.target = none
      else b.layout = active ∧ (q.state = .building → claims.target.isSome)) ∧ q.blanks = false
  | .ready b m =>
    m.layout = b.layout ∧
      if b.kind = .target then q.blanks = true ∧ q.target = some b.layout ∧ claims.target = none
      else b.layout = active ∧ (q.state = .building → claims.target.isSome) ∧ q.blanks = false
  | .draining _ _ => (q.state = .building → claims.target.isSome) ∧ q.blanks = false

/-- An engine agrees with a transition. -/
def Engine.Agrees (q : Transition) (e : Engine) : Prop :=
  (∀ l, e.claims.target = some l → q.state = .building ∧ q.target = some l)
    ∧ e.phase.Agrees q e.active.layout e.claims

theorem engineAgrees_iff (s : State) : s.EngineAgrees ↔ s.engine.Agrees s.transition := by
  unfold State.EngineAgrees Engine.Agrees EnginePhase.Agrees
  cases s.engine.phase <;> exact Iff.rfl

/-! ## An engine that takes a claim -/

/-- A TARGET claim waits just where the transition is in BUILDING without TARGET work in the engine, and the blanking
test is off (R51, R130). -/
def Claims.Agree (q : Transition) (cl : Claims) : Prop :=
  (∀ l, cl.target = some l → q.state = .building ∧ q.target = some l)
    ∧ (q.state = .building → cl.target.isSome) ∧ q.blanks = false

section
variable {q : Transition} {s t : State}

/-- An IDLE engine whose claims agree takes one in agreement (R52). -/
theorem Claims.Agree.takeClaim (h : s.engine.claims.Agree q) (hidle : s.engine.phase = .idle) :
    s.takeClaim.engine.Agrees q := by
  obtain ⟨hclaim, hbuilding, hblanks⟩ := h
  rcases takeClaim_cases s with ⟨h, hwaits⟩ | ⟨-, -, h⟩ | ⟨l, -, -, htarget, h⟩ | ⟨-, hrestore, htarget, h⟩ |
    ⟨-, hrestore, htarget, h⟩ <;> rw [h]
  · refine ⟨hclaim, ?_⟩
    rw [hidle]
    have hwaits := hwaits.resolve_left (not_not_intro hidle)
    refine ⟨hwaits, fun hb => ?_, hblanks⟩
    simp [Claims.waits, hbuilding hb] at hwaits
  · exact ⟨hclaim, ⟨rfl, hbuilding⟩, hblanks⟩
  · exact ⟨nofun, ⟨(hclaim l htarget).1, (hclaim l htarget).2, rfl⟩, hblanks⟩
  · exact ⟨hclaim, ⟨rfl, hbuilding⟩, hblanks⟩
  · have hnone (l : Layout) : s.engine.claims.target ≠ some l := by simp [htarget]
    rw [setFlag_engine]
    refine ⟨fun l hl => absurd hl (hnone l), ?_⟩
    have hphase : (s.updClaims fun c => { c with commitLatch := false }).engine.phase = .idle := hidle
    rw [hphase]
    refine ⟨by simp [Claims.waits, hrestore, htarget], fun hb => ?_, hblanks⟩
    simpa [htarget] using hbuilding hb

theorem Claims.Agree.enterIdle (h : s.engine.claims.Agree q) : s.enterIdle.engine.Agrees q :=
  Claims.Agree.takeClaim (s := { s with engine := { s.engine with phase := .idle } }) h rfl

/-- Where the engine has no TARGET work its claims agree. -/
theorem Engine.Agrees.claims {e : Engine} (h : e.Agrees q)
    (hphase : (∃ b, e.phase = .building b ∧ b.kind ≠ .target) ∨ ∃ m x, e.phase = .draining m x) : e.claims.Agree q := by
  obtain ⟨hclaim, hagrees⟩ := h
  rcases hphase with ⟨b, hb, hkind⟩ | ⟨m, x, hd⟩
  · rw [hb] at hagrees
    simp only [EnginePhase.Agrees, hkind, if_false] at hagrees
    exact ⟨hclaim, hagrees.1.2, hagrees.2⟩
  · rw [hd] at hagrees
    exact ⟨hclaim, hagrees.1, hagrees.2⟩

/-- Outside BUILDING, BLANKING and HOLDING the engine has no TARGET work, so it agrees with any such transition. -/
theorem Engine.Agrees.quiet {e : Engine} {q' : Transition} (h : e.Agrees q)
    (hq : q.state ≠ .building ∧ q.state ≠ .blanking ∧ q.state ≠ .holding)
    (hq' : q'.state ≠ .building ∧ q'.state ≠ .blanking ∧ q'.state ≠ .holding) : e.Agrees q' := by
  obtain ⟨hclaim, hagrees⟩ := h
  have hblanks : q.blanks = false := by simp [Transition.blanks, hq]
  have hblanks' : q'.blanks = false := by simp [Transition.blanks, hq']
  refine ⟨fun l hl => absurd (hclaim l hl).1 hq.1, ?_⟩
  cases hphase : e.phase with
  | idle =>
    rw [hphase] at hagrees
    exact ⟨hagrees.1, hq'.1, hblanks'⟩
  | building b =>
    rw [hphase] at hagrees
    by_cases hkind : b.kind = .target
    · simp only [EnginePhase.Agrees, hkind, if_true] at hagrees
      exact absurd hagrees.1.1 hq.1
    · simp only [EnginePhase.Agrees, hkind, if_false] at hagrees ⊢
      exact ⟨⟨hagrees.1.1, fun hb => absurd hb hq'.1⟩, hblanks'⟩
  | ready b m =>
    rw [hphase] at hagrees
    by_cases hkind : b.kind = .target
    · simp [EnginePhase.Agrees, hkind, hblanks] at hagrees
    · simp only [EnginePhase.Agrees, hkind, if_false] at hagrees ⊢
      exact ⟨hagrees.1, hagrees.2.1, fun hb => absurd hb hq'.1, hblanks'⟩
  | draining m x => exact ⟨fun hb => absurd hb hq'.1, hblanks'⟩

/-! ## The engine's effects -/

/-- The law of O55, of the fields that it reads. -/
def State.Agree (s : State) : Prop := s.transition.Fields s.engine.active.layout ∧ s.engine.Agrees s.transition

theorem agree_iff (s : State) : s.Agree ↔ s.TransitionFields ∧ s.EngineAgrees := by
  rw [engineAgrees_iff]
  exact Iff.rfl

/-- What BUILDING takes over from PREPARE (R127). -/
theorem Transition.Fields.raised {active : Layout} (h : q.Fields active) (hstate : q.state = .prepare) :
    ({ q with state := .building, prepareTimer := none } : Transition).Fields active := by
  obtain ⟨-, -, htarget, hwaiting, -, -, hhold, hle, hseven⟩ := h
  refine ⟨nofun, nofun, fun _ _ => htarget (by simp [hstate]) (by simp [hstate]), .inl ?_, by simp, fun _ => ⟨nofun, nofun⟩,
    fun hne => ?_, hle, hseven⟩
  · simpa [hstate] using hwaiting
  · simpa [hstate] using hhold hne

/-- PREPARE has ended and the engine has not taken a claim yet (R127). -/
def State.raised (s : State) : State :=
  (s.updTransition fun t => { t with state := .building, prepareTimer := none }).updClaims
    fun c => { c with target := s.transition.target }

theorem raiseTarget_eq (s : State) : s.raiseTarget = s.raised.takeClaim := rfl

theorem State.Agree.raiseTarget (hs : s.Agree) (hstate : s.transition.state = .prepare) : s.raiseTarget.Agree := by
  obtain ⟨hfields, hclaim, hphase⟩ := hs
  have htarget : s.transition.target = some s.engine.active.layout.other :=
    hfields.2.2.1 (by simp [hstate]) (by simp [hstate])
  have hsome : s.transition.target.isSome := by simp [htarget]
  have raised := hfields.raised hstate
  have hagree : s.raised.takeClaim.engine.Agrees { s.transition with state := .building, prepareTimer := none } := by
    by_cases hidle : s.engine.phase = .idle
    · exact Claims.Agree.takeClaim (s := s.raised) ⟨fun l hl => ⟨rfl, hl⟩, fun _ => hsome, rfl⟩ hidle
    · rw [takeClaim_busy s.raised hidle]
      refine ⟨fun l hl => ⟨rfl, hl⟩, ?_⟩
      have hkept : s.raised.engine.phase = s.engine.phase := rfl
      rw [hkept]
      cases hp : s.engine.phase with
      | idle => exact absurd hp hidle
      | building b =>
        rw [hp] at hphase
        by_cases hkind : b.kind = .target
        · simp [EnginePhase.Agrees, hkind, hstate] at hphase
        · simp only [EnginePhase.Agrees, hkind, if_false] at hphase
          simp only [EnginePhase.Agrees, hkind, if_false]
          exact ⟨⟨hphase.1.1, fun _ => hsome⟩, rfl⟩
      | ready b m =>
        rw [hp] at hphase
        by_cases hkind : b.kind = .target
        · simp [EnginePhase.Agrees, hkind, hstate, Transition.blanks] at hphase
        · simp only [EnginePhase.Agrees, hkind, if_false] at hphase
          simp only [EnginePhase.Agrees, hkind, if_false]
          exact ⟨hphase.1, hphase.2.1, fun _ => hsome, rfl⟩
      | draining m x =>
        exact ⟨fun _ => hsome, rfl⟩
  obtain ⟨flags, phase, claims, slots, h⟩ := takeClaim_writes s.raised
  rw [h] at hagree
  rw [raiseTarget_eq, h]
  exact ⟨raised, hagree⟩

theorem State.Agree.enterIdle (hs : s.Agree) (hclaims : s.engine.claims.Agree s.transition) : s.enterIdle.Agree := by
  have hagree := hclaims.enterIdle
  obtain ⟨flags, phase, claims, slots, h⟩ := enterIdle_writes s
  rw [h] at hagree ⊢
  exact ⟨hs.1, hagree⟩

/-- What STEADY takes over at a cancel (R140). -/
theorem Transition.Fields.cancelled {active : Layout} (h : q.Fields active) (hsettling : q.state ≠ .settling) :
    q.cancelled.Fields active := by
  obtain ⟨-, -, -, hwaiting, -, -, -, -, hseven⟩ := h
  refine ⟨fun _ => rfl, nofun, fun hne => absurd rfl hne, .inl ?_, by simp [Transition.cancelled], nofun,
    fun hne => absurd rfl hne, Nat.zero_le _, hseven⟩
  exact hwaiting.resolve_right fun hw => hsettling hw.1

/-- After a cancel the engine agrees with STEADY (R70, R140). -/
theorem abandonTarget_agrees (h : s.engine.Agrees s.transition) :
    s.abandonTarget.engine.Agrees s.transition.cancelled := by
  have given : (({ s.engine.claims with target := none } : Claims)).Agree s.transition.cancelled :=
    ⟨nofun, nofun, rfl⟩
  obtain ⟨-, hphase⟩ := h
  unfold State.abandonTarget
  dsimp only
  split
  next b hp =>
    rw [show s.engine.phase = .building b from hp] at hphase
    split
    next => exact Claims.Agree.enterIdle (s := (s.updClaims _).settleAbandoned) given
    next hkind =>
      simp only [EnginePhase.Agrees, hkind, if_false] at hphase
      refine ⟨nofun, ?_⟩
      simp only [updClaims_engine, hp, EnginePhase.Agrees, hkind, if_false]
      exact ⟨⟨hphase.1.1, nofun⟩, rfl⟩
  next b m hp =>
    rw [show s.engine.phase = .ready b m from hp] at hphase
    split
    next => exact Claims.Agree.enterIdle (s := (s.updClaims _).settleAbandoned) given
    next hkind =>
      simp only [EnginePhase.Agrees, hkind, if_false] at hphase
      refine ⟨nofun, ?_⟩
      simp only [updClaims_engine, hp, EnginePhase.Agrees, hkind, if_false]
      exact ⟨hphase.1, hphase.2.1, nofun, rfl⟩
  next hp =>
    rw [show s.engine.phase = .idle from hp] at hphase
    refine ⟨nofun, ?_⟩
    rw [updClaims_engine, show s.engine.phase = .idle from hp]
    have hwaits := hphase.1
    simp only [Claims.waits, Bool.or_eq_false_iff] at hwaits
    exact ⟨by simp [Claims.waits, hwaits], nofun, rfl⟩
  next m x hp =>
    refine ⟨nofun, ?_⟩
    rw [updClaims_engine, show s.engine.phase = .draining m x from hp]
    exact ⟨nofun, rfl⟩

theorem State.Agree.cancelled (hs : s.Agree) (hsettling : s.transition.state ≠ .settling) :
    (s.abandonTarget.updTransition Transition.cancelled).Agree := by
  have hagree := abandonTarget_agrees hs.2
  obtain ⟨flags, phase, claims, slots, h⟩ := abandonTarget_writes s
  rw [h] at hagree ⊢
  exact ⟨hs.1.cancelled hsettling, hagree⟩

/-- A map due to swap is READY; a TARGET map is ordered (R64, R133). -/
theorem dueSwap_ready {b : Build} {m : Map} (h : s.dueSwap = some (b, m)) :
    s.engine.phase = .ready b m ∧ (b.kind = .target → s.swapOrdered = true) := by
  unfold State.dueSwap at h
  split at h
  next b' m' hready =>
    split at h
    next hkind =>
      cases h
      exact ⟨hready, fun hk => absurd (hkind.symm.trans hk) nofun⟩
    next hkind =>
      cases h
      exact ⟨hready, fun hk => absurd (hkind.symm.trans hk) nofun⟩
    next =>
      split at h
      next hordered =>
        cases h
        exact ⟨hready, fun _ => hordered⟩
      next => cases h
  all_goals cases h

theorem State.Agree.swapped {b : Build} {m : Map} (hs : s.Agree) (hdue : s.dueSwap = some (b, m)) :
    (s.swapped b m).Agree := by
  obtain ⟨⟨hsteady, hsettling, hother, hwaiting, htimer, hjoined, hhold, hle, hseven⟩, hclaim, hphase⟩ := hs
  obtain ⟨hready, hordered⟩ := dueSwap_ready hdue
  rw [hready] at hphase
  obtain ⟨flags, slots, counts, waiting, messages, queue, job, h, -⟩ := swapped_writes s b m
  rw [h]
  by_cases hkind : b.kind = .target
  · simp only [EnginePhase.Agrees, hkind, if_true] at hphase
    obtain ⟨hlayout, -, htarget, hnone⟩ := hphase
    obtain ⟨hholding, -⟩ := (swapOrdered_iff s).mp (hordered hkind)
    simp only [hkind, if_true]
    refine ⟨⟨nofun, fun _ => ?_, fun _ hne => absurd rfl hne, .inl rfl, ?_, nofun, fun hne => absurd rfl hne,
      Nat.zero_le _, hseven⟩, fun l hl => absurd (hnone.symm.trans hl) nofun, nofun, rfl⟩
    · exact htarget.trans (congrArg some hlayout.symm)
    · simpa [hholding, Transition.settling] using htimer
  · simp only [EnginePhase.Agrees, hkind, if_false] at hphase
    obtain ⟨hlayout, hactive, hbuilding, hblanks⟩ := hphase
    have hsame : m.layout = s.engine.active.layout := hlayout.trans hactive
    simp only [hkind, if_false]
    refine ⟨?_, hclaim, hbuilding, hblanks⟩
    dsimp only
    rw [hsame]
    exact ⟨hsteady, hsettling, hother, hwaiting, htimer, hjoined, hhold, hle, hseven⟩

theorem EngineEffect.agree (h : EngineEffect s t) (hs : s.Agree) : t.Agree := by
  cases h with
  | conflict => exact hs
  | latched hphase =>
    obtain ⟨hfields, hclaim, hagrees⟩ := hs
    refine ⟨hfields, hclaim, ?_⟩
    cases hp : s.engine.phase with
    | idle => exact absurd hp hphase
    | building | ready | draining =>
      rw [hp] at hagrees
      simp only [updClaims_engine, hp]
      exact hagrees
  | commitBuild hphase =>
    obtain ⟨hfields, hclaim, hagrees⟩ := hs
    rw [hphase] at hagrees
    exact ⟨hfields, hclaim, ⟨rfl, fun hb => absurd hb hagrees.2.1⟩, hagrees.2.2⟩
  | raised hstate =>
    obtain ⟨-, -, -, -, htimer, -⟩ := hs.1
    exact hs.raiseTarget (hstate.elim id htimer.mp)
  | drained m e hphase => exact hs.enterIdle (hs.2.claims (.inr ⟨m, e, hphase⟩))
  | failed b hphase hkind =>
    have hclaims := hs.2.claims (.inl ⟨b, hphase, by simp [hkind]⟩)
    exact State.Agree.enterIdle (s := s.settleAbandoned) hs hclaims
  | ready b hphase hkind =>
    obtain ⟨hfields, hclaim, hagrees⟩ := hs
    rw [hphase] at hagrees
    simp only [EnginePhase.Agrees, hkind, if_false] at hagrees
    refine ⟨hfields, hclaim, ?_⟩
    simp only [becomeReady_engine, EnginePhase.Agrees, hkind, if_false]
    exact ⟨b.map_layout, hagrees.1.1, hagrees.1.2, hagrees.2⟩
  | blanked b hphase hkind =>
    obtain ⟨⟨-, -, hother, hwaiting, htimer, -, hhold, hle, hseven⟩, hclaim, hagrees⟩ := hs
    rw [hphase] at hagrees
    simp only [EnginePhase.Agrees, hkind, if_true] at hagrees
    obtain ⟨⟨hstate, htarget, hnone⟩, -⟩ := hagrees
    refine ⟨⟨nofun, nofun, fun _ _ => hother (by simp [hstate]) (by simp [hstate]), .inl ?_, ?_, fun _ => ⟨nofun, nofun⟩,
      fun hne => ?_, hle, hseven⟩, fun l hl => absurd (hnone.symm.trans hl) nofun, ?_⟩
    · exact hwaiting.resolve_right fun hw => by simp [hstate] at hw
    · exact ⟨fun ht => absurd (hstate.symm.trans (htimer.mp ht)) nofun, nofun⟩
    · simpa [hstate] using hhold hne
    · have hphase' : ((s.becomeReady b).updTransition fun t =>
          { t with state := .blanking }).dropHeldBack.engine.phase = .ready b b.map := rfl
      rw [hphase']
      simp only [EnginePhase.Agrees, hkind, if_true]
      exact ⟨b.map_layout, rfl, htarget, hnone⟩
  | swapped b m hdue => exact hs.swapped hdue
  | cancelled _ hsettling => exact hs.cancelled hsettling

/-! ## The controller's own effects -/

theorem TransitionEffect.agree (h : TransitionEffect s t) (hs : s.Agree) : t.Agree := by
  obtain ⟨hfields, hengine⟩ := hs
  have ⟨hsteady, hsettling, hother, hwaiting, htimer, hjoined, hhold, hle, hseven⟩ := hfields
  cases h with
  | settings => exact ⟨hfields, hengine⟩
  | windows window hold hstate hseven' =>
    have hzero : s.transition.holdCount = 0 := by
      by_contra hne
      simpa [hstate] using hhold hne
    exact ⟨⟨hsteady, hsettling, hother, hwaiting, htimer, hjoined, hhold, hzero.trans_le (Nat.zero_le _),
      hseven'.elim id fun e => e.trans_le hseven⟩, hengine⟩
  | joined hstate =>
    exact ⟨⟨hsteady, hsettling, hother, hwaiting, htimer, fun _ => by simp [hstate], hhold, hle, hseven⟩, hengine⟩
  | waiting w hstate hw =>
    exact ⟨⟨hsteady, hsettling, hother, hw.imp_right fun e => ⟨hstate, e⟩, htimer, hjoined, hhold, hle, hseven⟩, hengine⟩
  | started layout hstate hlayout =>
    refine ⟨⟨nofun, nofun, fun _ _ => congrArg some (layout_eq_other hlayout), .inl rfl, by simp, nofun,
      fun hne => absurd rfl hne, Nat.zero_le _, hseven⟩, hengine.quiet (by simp [hstate]) (by simp)⟩
  | holding hstate =>
    have htimer' : s.transition.prepareTimer.isSome ↔ TransitionState.holding = .prepare := by
      simpa [hstate] using htimer
    refine ⟨⟨nofun, nofun, fun _ _ => hother (by simp [hstate]) (by simp [hstate]), .inl ?_, htimer', fun _ => ⟨nofun, nofun⟩,
      fun _ => rfl, Nat.zero_le _, hseven⟩, ?_⟩
    · exact hwaiting.resolve_right fun hw => by simp [hstate] at hw
    · obtain ⟨hclaim, hagrees⟩ := hengine
      have hon : s.transition.blanks = true := by simp [Transition.blanks, hstate]
      refine ⟨fun l hl => by simpa [hstate] using (hclaim l hl).1, ?_⟩
      simp only [updTransition_engine]
      cases hp : s.engine.phase with
      | idle => simp [hp, EnginePhase.Agrees, hon] at hagrees
      | building b => simp [hp, EnginePhase.Agrees, hon] at hagrees
      | draining m x => simp [hp, EnginePhase.Agrees, hon] at hagrees
      | ready b m =>
        by_cases hkind : b.kind = .target
        · simp only [hp, EnginePhase.Agrees, hkind, if_true] at hagrees ⊢
          exact ⟨hagrees.1, rfl, hagrees.2.2⟩
        · simp [hp, EnginePhase.Agrees, hkind, hon] at hagrees
  | held hstate hcount =>
    exact ⟨⟨hsteady, hsettling, hother, hwaiting, htimer, hjoined, fun _ => hstate, by
      show s.transition.holdCount + 1 ≤ s.transition.blankHold
      omega, hseven⟩, hengine⟩
  | settled hstate =>
    have hzero : s.transition.holdCount = 0 := by
      by_contra hne
      simpa [hstate] using hhold hne
    refine ⟨⟨fun _ => rfl, nofun, fun hne => absurd rfl hne, .inl rfl, by simpa [hstate] using htimer, fun hj => ?_,
      fun hne => absurd hzero hne, hle, hseven⟩, hengine.quiet (by simp [hstate]) (by simp)⟩
    exact absurd hstate (hjoined hj).2

/-- The fields after a reset (R150, R151). -/
theorem Transition.Fields.restart {active active' : Layout} (retain : Bool) (h : q.Fields active) :
    (q.restart retain).Fields active' := by
  obtain ⟨-, -, -, -, -, -, -, -, hseven⟩ := h
  unfold Transition.restart
  split
  · exact ⟨fun _ => rfl, nofun, fun hne => absurd rfl hne, .inl rfl, by simp [Transition.reset], nofun,
      fun hne => absurd rfl hne, Nat.zero_le _, hseven⟩
  · exact ⟨fun _ => rfl, nofun, fun hne => absurd rfl hne, .inl rfl, by simp [Transition.reset], nofun,
      fun hne => absurd rfl hne, Nat.zero_le _, by decide⟩

theorem restart_state (retain : Bool) : (q.restart retain).state = .steady := by
  unfold Transition.restart
  split <;> rfl

theorem ResetEffect.agree {c : Instr} (h : ResetEffect c s t) (hs : s.Agree) : t.Agree := by
  cases h with
  | held =>
    exact ⟨Transition.Fields.restart false hs.1, nofun, rfl, nofun, rfl⟩
  | restarted =>
    have hstate : s.restartBlocks.transition.state = .steady := restart_state _
    have hfields : s.restartBlocks.transition.Fields s.restartBlocks.engine.active.layout :=
      Transition.Fields.restart _ hs.1
    have hblanks : s.restartBlocks.transition.blanks = false := by simp [Transition.blanks, hstate]
    unfold State.claimRestore
    split
    · have hagree := Claims.Agree.takeClaim (q := s.restartBlocks.transition)
        (s := s.restartBlocks.updClaims fun c => { c with restore := true }) ⟨nofun, by simp [hstate], hblanks⟩ rfl
      obtain ⟨flags, phase, claims, slots, h⟩ := takeClaim_writes
        (s.restartBlocks.updClaims fun c => { c with restore := true })
      rw [h] at hagree ⊢
      exact ⟨hfields, hagree⟩
    · exact ⟨hfields, nofun, rfl, by simp [hstate], hblanks⟩
  | level | awake => exact hs

theorem Does.agree {c : Instr} (h : Does c s t) (hs : s.Agree) : t.Agree := by
  rcases h with h | h
  · cases h with
    | port h =>
      obtain ⟨p, u, n, rfl⟩ := h.writes
      exact hs
    | link h =>
      obtain ⟨l, f, hd, p, rfl⟩ := h.writes
      exact hs
    | zone h =>
      obtain ⟨q, line, rfl⟩ := h.writes
      exact hs
    | frame h =>
      obtain ⟨r, rfl⟩ := h.writes
      exact hs
    | record h =>
      obtain ⟨b, rfl⟩ := h.writes
      exact hs
    | engine h => exact h.agree hs
    | transition h => exact h.agree hs
    | sampler h =>
      obtain ⟨q, rfl, -⟩ := h.writes
      exact hs
    | reset h => exact h.agree hs
  · cases h <;> exact hs

end

/-- Settles O55: the engine takes, completes and gives up TARGET work just as the controller changes its state. -/
theorem transitionAgrees : Obligations.TransitionAgrees := by
  refine keptByStep_of_does (fun _ _ hs => hs) fun c s t h hs => ?_
  rw [← agree_iff] at hs ⊢
  exact h.agree hs

end Sys2Proof.Machine

/-! SUPPORT. What one effect can do to one record, so that a law of each record for itself is kept where each of these
keeps it. -/

namespace Sys2Proof.Machine

/-- What can happen to a record (R24 to R44, R66). -/
inductive RecordMove (c : Instr) (r : Record) : Record → Prop where
  | marked (k : BuildKind) (joined : Bool) : RecordMove c r (r.marked k joined)
  | abandoned : RecordMove c r { r with inBuild := false }
  | claimed (x : Content) (hc : c = .regionCreate) (hfree : r.lifecycle = .free) : RecordMove c r (r.claimed x)
  | edited (x : Content) (hlife : r.lifecycle = .staged ∨ r.lifecycle = .inService)
      (hretire : r.retirePending = false) : RecordMove c r (r.edited x)
  | retiring (hlife : r.lifecycle = .inService) : RecordMove c r r.retiring
  | discarded (hlife : r.lifecycle = .inService) (hbuild : r.inBuild = false) : RecordMove c r r.discarded
  | quarantined (length : Nat) : RecordMove c r (r.quarantined length)
  | stale (stale : Bool) (hlife : r.lifecycle = .inService) : RecordMove c r { r with stale }
  | tick : RecordMove c r r.quarantineTick
  | settled (length : Nat) (excluded : Bool) : RecordMove c r (r.settled length excluded)
  | given (showing : Showing) (owned : Nat) : RecordMove c r (r.given showing owned)
  | restart (retain : Bool) (hc : c = .drstnAssert) : RecordMove c r (r.restart retain)
  | cleared (hc : c = .resetnAssert) : RecordMove c r (Record.free 0)

/-- What happens to a record one after another. -/
abbrev RecordMoves (c : Instr) : Record → Record → Prop := Relation.ReflTransGen (RecordMove c)

/-- What every move keeps, moves one after another keep. -/
theorem RecordMoves.keeps {c : Instr} {P : Record → Prop} (hmove : ∀ r q, RecordMove c r q → P r → P q) {r q : Record}
    (h : RecordMoves c r q) (hr : P r) : P q := by
  induction h with
  | refl => exact hr
  | tail _ h ih => exact hmove _ _ h ih

section
variable {c : Instr} {s t : State}

theorem updRecord_moves {i : Slot} {f : Record → Record} (h : RecordMove c (s.record i) (f (s.record i))) (j : Slot) :
    RecordMoves c (s.record j) ((s.updRecord i f).record j) := by
  by_cases hij : i = j
  · subst hij
    rw [record_updRecord_self]
    exact .single h
  · rw [record_updRecord_ne _ _ _ _ hij]

theorem RecordEffect.moves (h : RecordEffect c s t) (i : Slot) : RecordMoves c (s.record i) (t.record i) := by
  cases h with
  | claimed j x hc hfree => exact updRecord_moves (.claimed x hc hfree) i
  | edited j x hlife _ hretire => exact updRecord_moves (.edited x hlife hretire) i
  | retiring j hlife => exact updRecord_moves (.retiring hlife) i
  | discarded j hlife hbuild => exact updRecord_moves (.discarded hlife hbuild) i
  | quarantined j => exact updRecord_moves (.quarantined _) i
  | stale j stale hshown => exact updRecord_moves (.stale stale (isShown_inService hshown)) i
  | tick =>
    rw [State.quarantineTick, record_mapRecords]
    exact .single .tick
  | settings => exact .refl

theorem takeClaim_moves (s : State) (i : Slot) : RecordMoves c (s.record i) (s.takeClaim.record i) := by
  rcases takeClaim_record s i with h | ⟨k, h⟩ <;> rw [h]
  exact .single (.marked k _)

theorem enterIdle_moves (s : State) (i : Slot) : RecordMoves c (s.record i) (s.enterIdle.record i) :=
  takeClaim_moves { s with engine := { s.engine with phase := .idle } } i

theorem abandoned_moves (s : State) (i : Slot) : RecordMoves c (s.record i) (s.settleAbandoned.enterIdle.record i) := by
  have h := enterIdle_moves (c := c) s.settleAbandoned i
  rw [settleAbandoned_record] at h
  exact (Relation.ReflTransGen.single .abandoned).trans h

theorem abandonTarget_moves (s : State) (i : Slot) : RecordMoves c (s.record i) (s.abandonTarget.record i) := by
  unfold State.abandonTarget
  dsimp only
  split
  · split
    · exact abandoned_moves (s.updClaims _) i
    · exact .refl
  · split
    · exact abandoned_moves (s.updClaims _) i
    · exact .refl
  all_goals exact .refl

theorem EngineEffect.moves (h : EngineEffect s t) (i : Slot) : RecordMoves c (s.record i) (t.record i) := by
  cases h with
  | latched | conflict | ready | blanked => exact .refl
  | commitBuild =>
    rw [startBuild_record]
    exact .single (.marked .commit _)
  | raised => exact takeClaim_moves s.raised i
  | drained => exact enterIdle_moves s i
  | failed => exact abandoned_moves s i
  | swapped b m =>
    rw [swapped_record]
    exact (Relation.ReflTransGen.single (.settled _ _)).tail (.given _ _)
  | cancelled => exact abandonTarget_moves s i

theorem ResetEffect.moves (h : ResetEffect c s t) (i : Slot) : RecordMoves c (s.record i) (t.record i) := by
  cases h with
  | held hc =>
    rw [resetHeld_record]
    exact .single (.cleared hc)
  | restarted hc =>
    have restarted : RecordMoves c (s.record i) (s.restartBlocks.record i) := by
      rw [restartBlocks_record]
      exact .single (.restart _ hc)
    unfold State.claimRestore
    split
    · exact restarted.trans (takeClaim_moves (s.restartBlocks.updClaims _) i)
    · exact restarted
  | level | awake => exact .refl

/-- An effect changes each record by moves. -/
theorem Does.moves (h : Does c s t) (i : Slot) : RecordMoves c (s.record i) (t.record i) := by
  rcases h with h | h
  · cases h with
    | port h =>
      obtain ⟨p, u, n, rfl⟩ := h.writes
      exact .refl
    | link h =>
      obtain ⟨l, f, hd, p, rfl⟩ := h.writes
      exact .refl
    | zone h =>
      obtain ⟨q, line, rfl⟩ := h.writes
      exact .refl
    | frame h =>
      obtain ⟨r, rfl⟩ := h.writes
      exact .refl
    | record h => exact h.moves i
    | engine h => exact h.moves i
    | transition h =>
      obtain ⟨q, rfl⟩ := h.writes
      exact .refl
    | sampler h =>
      obtain ⟨q, rfl, -⟩ := h.writes
      exact .refl
    | reset h => exact h.moves i
  · cases h <;> exact .refl

/-- Every move keeps a record lawful (R21, R22, R23). -/
theorem RecordMove.lawful {r q : Record} (h : RecordMove c r q) (hr : r.Lawful) : q.Lawful := by
  cases h with
  | marked k joined => exact marked_lawful k joined hr
  | abandoned => exact abandoned_lawful hr
  | claimed x => exact claimed_lawful x
  | edited x hlife hretire => exact edited_lawful x hlife hretire hr
  | retiring hlife => exact retiring_lawful hlife hr
  | discarded hlife hbuild => exact discarded_lawful hlife hbuild hr
  | quarantined length => exact quarantined_lawful length
  | stale stale hlife => exact stale_lawful stale hlife hr
  | tick => exact quarantineTick_lawful hr
  | settled length excluded => exact settled_lawful length excluded hr
  | given showing owned => exact given_lawful showing owned hr
  | restart retain => exact restart_lawful retain hr
  | cleared => exact free_lawful 0

theorem Does.recordsLawful (h : Does c s t) (hs : s.RecordsLawful) : t.RecordsLawful :=
  fun i => (h.moves i).keeps (fun _ _ => RecordMove.lawful) (hs i)

end

end Sys2Proof.Machine

/-! CLAIM. Each owned tile of the ACTIVE map is owned by an IN_SERVICE, SHOWN record whose live placement for the active
layout covers it, and the snapshot of the build or map that the engine holds stands (R28, R32, R49, R65, R66). -/

namespace Sys2Proof.Machine

/-! ## Where the owners of a map come from -/

theorem mem_keepFree {x : Slot × Part} {kept l : List (Slot × Part)} (h : x ∈ keepFree kept l) : x ∈ kept ∨ x ∈ l := by
  induction l generalizing kept with
  | nil => exact .inl h
  | cons y rest ih =>
    unfold keepFree at h
    split at h
    · exact (ih h).imp_right (List.mem_cons_of_mem y)
    · rcases ih h with h | h
      · rcases List.mem_append.mp h with h | h
        · exact .inl h
        · exact .inr (List.mem_singleton.mp h ▸ List.mem_cons_self)
      · exact .inr (List.mem_cons_of_mem y h)

/-- A candidate is the placement that its slot's contribution gives (R57). -/
theorem mem_candidates {b : Build} {l : Layout} {k : Slot × Part} :
    k ∈ b.candidates l ↔ b.snapshot[k.1].candidate l = some k.2 := by
  simp only [Build.candidates, List.mem_filterMap, Option.map_eq_some_iff]
  constructor
  · rintro ⟨i, -, p, hp, rfl⟩
    exact hp
  · exact fun h => ⟨k.1, mem_slotList _, k.2, h, rfl⟩

/-- A placement of the map is the one that its slot's contribution gives (R57, R59). -/
theorem candidate_of_mem_kept {b : Build} {k : Slot × Part} (h : k ∈ b.kept) :
    b.snapshot[k.1].candidate b.layout = some k.2 := by
  rw [← mem_candidates]
  unfold Build.kept at h
  split at h
  · exact h
  all_goals exact (mem_keepFree h).resolve_left nofun

theorem mem_of_pickTop {ps : List (Slot × Part)} {x : Slot × Part} (h : pickTop ps = some x) : x ∈ ps := by
  have picked (l : List (Slot × Part)) (best : Option (Slot × Part))
      (h : l.foldl (fun best x => match best with
        | none => some x
        | some t => if t.2.zLevel < x.2.zLevel then some x else some t) best = some x) : best = some x ∨ x ∈ l := by
    induction l generalizing best with
    | nil => exact .inl h
    | cons y rest ih =>
      rw [List.foldl_cons] at h
      rcases ih _ h with hbest | hrest
      · cases best with
        | none => exact .inr (List.mem_cons.mpr (.inl (Option.some.inj hbest).symm))
        | some z =>
          dsimp only at hbest
          split at hbest
          · exact .inr (List.mem_cons.mpr (.inl (Option.some.inj hbest).symm))
          · exact .inl hbest
      · exact .inr (List.mem_cons_of_mem y hrest)
  exact (picked ps none h).resolve_left nofun

/-- The owner of a tile in the map of a build has a placement kept for the map, which covers the tile (R60). -/
theorem Build.owner_kept {b : Build} {t : Nat} {i : Slot} (h : b.map.owner t = some i) :
    ∃ p, (i, p) ∈ b.kept ∧ b.geometry.coversTile p t = true := by
  have hpanel : t < Config.tileCount := by
    by_contra hge
    rw [Map.owner, Build.map_entry, if_neg hge] at h
    cases h
  rw [Build.map_owner _ _ hpanel, Build.ownerAt, Option.map_eq_some_iff] at h
  obtain ⟨⟨j, p⟩, hpick, rfl⟩ := h
  obtain ⟨hkept, hcovers⟩ := List.mem_filter.mp (mem_of_pickTop hpick)
  exact ⟨p, hkept, hcovers⟩

/-- A placement is given by a content that the build has taken (R57). -/
theorem taken_of_candidate {x : Contribution} {l : Layout} {p : Part} (h : x.candidate l = some p) :
    ∃ c included, x = .taken c included ∧ c.part l = some p := by
  cases x with
  | taken c included => exact ⟨c, included, rfl, h⟩
  | leaving | absent | excluded | carried => cases h

/-! ## The start of a build -/

theorem liveContribution_stands {r : Record} (hlife : r.lifecycle = .inService) (hbuild : r.inBuild = false) :
    r.liveContribution.included = false ∧ r.liveContribution.Stands r := by
  unfold Record.liveContribution
  split
  next c hlive => exact ⟨rfl, hlive, hbuild, hlife⟩
  next => exact ⟨rfl, trivial⟩

theorem pendingContribution_stands {r : Record} (hlife : r.lifecycle = .staged ∨ r.lifecycle = .inService)
    (hbuild : r.inBuild = r.pendingContribution.included) : r.pendingContribution.Stands r := by
  unfold Record.pendingContribution at hbuild ⊢
  split
  next => trivial
  next hretire =>
    rw [if_neg hretire] at hbuild
    split at hbuild
    next c hpending =>
      exact ⟨hpending, hbuild, Bool.eq_false_iff.mpr hretire, hlife⟩
    next hpending =>
      trivial

/-- What a build contributes stands in the record that it has marked (R32, R33). -/
theorem contribution_stands (k : BuildKind) (joined : Bool) {r : Record} (hbuild : r.inBuild = false) :
    (r.contribution k joined).Stands (r.marked k joined) := by
  have mark : (r.marked k joined).inBuild = (r.contribution k joined).included := by simp [Record.marked, hbuild]
  have live (hlife : r.lifecycle = .inService) (h : r.contribution k joined = r.liveContribution) :
      (r.contribution k joined).Stands (r.marked k joined) := by
    obtain ⟨hclear, hstands⟩ := liveContribution_stands hlife hbuild
    have hsame : r.marked k joined = r := by simp [Record.marked, h, hclear]
    rw [hsame, h]
    exact hstands
  have pending (hlife : r.lifecycle = .staged ∨ r.lifecycle = .inService)
      (h : r.contribution k joined = r.pendingContribution) :
      (r.contribution k joined).Stands (r.marked k joined) := by
    rw [h] at mark ⊢
    exact pendingContribution_stands (r := r.marked k joined) hlife mark
  have absent (h : r.contribution k joined = .absent) : (r.contribution k joined).Stands (r.marked k joined) := by
    rw [h]
    trivial
  cases k with
  | commit =>
    cases hlife : r.lifecycle with
    | staged => exact pending (.inl hlife) (by simp [Record.contribution, Record.commitContribution, hlife])
    | inService =>
      cases hcommit : r.commitPending with
      | true => exact pending (.inr hlife) (by simp [Record.contribution, Record.commitContribution, hlife, hcommit])
      | false =>
        by_cases hcarried : ∃ c, r.contribution .commit joined = .carried c
        · obtain ⟨c, hc⟩ := hcarried
          rw [hc]
          trivial
        · refine live hlife ?_
          simp only [Record.contribution, Record.commitContribution, hlife, hcommit] at hcarried ⊢
          simp only [Bool.false_eq_true, if_false] at hcarried ⊢
          split
          next c _ hlive => simp [*] at hcarried
          next => rfl
    | free | quarantine => exact absent (by simp [Record.contribution, Record.commitContribution, hlife])
  | target =>
    cases hexcluded : r.excluded with
    | true =>
      have hlife : r.lifecycle = .inService := by
        simp only [Record.excluded, Bool.and_eq_true, decide_eq_true_eq] at hexcluded
        exact hexcluded.1.1
      rw [show r.contribution .target joined = .excluded by
        simp [Record.contribution, Record.targetContribution, hexcluded]]
      exact hlife
    | false =>
      cases hlife : r.lifecycle with
      | staged =>
        cases hj : joined && r.committable with
        | true => exact pending (.inl hlife) (by simp [Record.contribution, Record.targetContribution, hlife, hj, hexcluded])
        | false => exact absent (by simp [Record.contribution, Record.targetContribution, hlife, hj, hexcluded])
      | inService =>
        cases hj : joined && r.committable with
        | true => exact pending (.inr hlife) (by simp [Record.contribution, Record.targetContribution, hlife, hj, hexcluded])
        | false => exact live hlife (by simp [Record.contribution, Record.targetContribution, hlife, hj, hexcluded])
      | free | quarantine => exact absent (by simp [Record.contribution, Record.targetContribution, hlife, hexcluded])
  | restore =>
    cases hlife : r.lifecycle with
    | inService => exact live hlife (by simp [Record.contribution, Record.restoreContribution, hlife])
    | staged | free | quarantine => exact absent (by simp [Record.contribution, Record.restoreContribution, hlife])

/-! ## The snapshot of the build that the engine holds -/

section
variable {c : Instr} {s t : State}

/-- No record is in a build. -/
def State.NoneInBuild (s : State) : Prop := ∀ i : Slot, (s.record i).inBuild = false

/-- A build started stands (R32, R33, R49). -/
theorem startBuild_stands (k : BuildKind) (l : Layout) (h : s.NoneInBuild) : (s.startBuild k l).SnapshotStands := by
  refine ⟨rfl, fun i => ?_⟩
  rw [startBuild_record, snapshot_startBuild]
  exact ⟨by simp [Record.marked, h i], contribution_stands k _ (h i)⟩

/-- The law where the engine holds no build. -/
theorem snapshotStands_of_idle (hphase : s.engine.phase = .idle) (h : s.NoneInBuild) : s.SnapshotStands := by
  unfold State.SnapshotStands
  rw [hphase]
  exact h

theorem takeClaim_stands (hidle : s.engine.phase = .idle) (h : s.NoneInBuild) : s.takeClaim.SnapshotStands := by
  rcases takeClaim_cases s with ⟨h', -⟩ | ⟨-, -, h'⟩ | ⟨l, -, -, -, h'⟩ | ⟨-, -, -, h'⟩ | ⟨-, -, -, h'⟩ <;> rw [h']
  · exact snapshotStands_of_idle hidle h
  · exact startBuild_stands .restore _ h
  · exact startBuild_stands .target _ h
  · exact startBuild_stands .commit _ h
  · exact snapshotStands_of_idle (by rw [setFlag_engine]; exact hidle) fun i => by
      rw [State.record, setFlag_table]
      exact h i

theorem enterIdle_stands (h : s.NoneInBuild) : s.enterIdle.SnapshotStands :=
  takeClaim_stands (s := { s with engine := { s.engine with phase := .idle } }) rfl h

theorem noneInBuild_settleAbandoned (s : State) : s.settleAbandoned.NoneInBuild := fun i => by
  rw [settleAbandoned_record]

/-- Outside BUILDING and READY no record is in a build (R33, R35). -/
theorem State.SnapshotStands.noneInBuild (h : s.SnapshotStands)
    (hphase : s.engine.phase = .idle ∨ ∃ m e, s.engine.phase = .draining m e) : s.NoneInBuild := by
  unfold State.SnapshotStands at h
  rcases hphase with hp | ⟨m, e, hp⟩ <;> rw [hp] at h <;> exact h

theorem abandonTarget_stands (h : s.SnapshotStands) : s.abandonTarget.SnapshotStands := by
  have given : (s.updClaims fun q => { q with target := none }).SnapshotStands := h
  unfold State.abandonTarget
  dsimp only
  split
  · split
    · exact enterIdle_stands (noneInBuild_settleAbandoned _)
    · exact given
  · split
    · exact enterIdle_stands (noneInBuild_settleAbandoned _)
    · exact given
  all_goals exact given

theorem settled_inBuild (length : Nat) (excluded : Bool) (r : Record) : (r.settled length excluded).inBuild = false := by
  unfold Record.settled
  split
  · rfl
  · split
    · rfl
    next h => exact Bool.eq_false_iff.mpr h

theorem given_inBuild (showing : Showing) (owned : Nat) (r : Record) : (r.given showing owned).inBuild = r.inBuild := by
  unfold Record.given
  split <;> rfl

theorem swapped_noneInBuild (b : Build) (m : Map) : (s.swapped b m).NoneInBuild := fun i => by
  rw [swapped_record, given_inBuild, settled_inBuild]

/-- After a swap the engine drains the map that was ACTIVE (R65, R68). -/
theorem swapped_engine (s : State) (b : Build) (m : Map) : (s.swapped b m).engine =
    { s.engine with epoch := s.engine.epoch + 1, active := m, phase := .draining s.engine.active s.engine.epoch } := by
  obtain ⟨flags, slots, counts, waiting, messages, queue, job, h, -⟩ := swapped_writes s b m
  rw [h]

theorem swapped_geometry (s : State) (b : Build) (m : Map) : (s.swapped b m).geometry = s.geometry := by
  obtain ⟨flags, slots, counts, waiting, messages, queue, job, h, -⟩ := swapped_writes s b m
  rw [h]

theorem EngineEffect.snapshotStands (h : EngineEffect s t) (hs : s.SnapshotStands) : t.SnapshotStands := by
  cases h with
  | latched | conflict => exact hs
  | commitBuild hphase => exact startBuild_stands .commit _ (hs.noneInBuild (.inl hphase))
  | raised =>
    by_cases hidle : s.engine.phase = .idle
    · exact takeClaim_stands (s := s.raised) hidle (hs.noneInBuild (.inl hidle))
    · rw [raiseTarget_eq, takeClaim_busy s.raised hidle]
      exact hs
  | drained m e hphase => exact enterIdle_stands (hs.noneInBuild (.inr ⟨m, e, hphase⟩))
  | failed => exact enterIdle_stands (noneInBuild_settleAbandoned s)
  | ready b hphase | blanked b hphase =>
    unfold State.SnapshotStands at hs
    rw [hphase] at hs
    exact ⟨rfl, hs⟩
  | swapped b m =>
    have hnone := swapped_noneInBuild (s := s) b m
    unfold State.SnapshotStands
    rw [swapped_engine]
    exact hnone
  | cancelled => exact abandonTarget_stands hs

/-- What a contribution says of a record that the build has not marked. -/
theorem stands_of_unmarked {x : Contribution} {r q : Record} (hstands : x.Stands r) (hclear : x.included = false)
    (hbuild : q.inBuild = false) (hlive : r.lifecycle = .inService → q.live = r.live ∧ q.lifecycle = .inService) :
    x.Stands q := by
  cases x with
  | taken y included =>
    cases included with
    | true => cases hclear
    | false =>
      obtain ⟨hy, -, hlife⟩ := hstands
      exact ⟨(hlive hlife).1.trans hy, hbuild, (hlive hlife).2⟩
  | leaving => cases hclear
  | excluded => exact (hlive hstands).2
  | carried | absent => trivial

/-- The record was in no build and is in none, an IN_SERVICE one with its live copy. -/
def Record.Unbuilt (r q : Record) : Prop :=
  r.inBuild = false ∧ q.inBuild = false ∧ (r.lifecycle = .inService → q.live = r.live ∧ q.lifecycle = .inService)

/-- The law is kept where every record changed was in no build and is in none, an IN_SERVICE one with its live copy. -/
theorem State.SnapshotStands.mono (hs : s.SnapshotStands) (hengine : t.engine = s.engine) (hgeometry : t.geometry = s.geometry)
    (hrecord : ∀ i, t.record i = s.record i ∨ (s.record i).Unbuilt (t.record i)) : t.SnapshotStands := by
  have none (h : s.NoneInBuild) : t.NoneInBuild := fun i => by
    rcases hrecord i with e | ⟨-, e, -⟩
    · rw [e]
      exact h i
    · exact e
  have build (b : Build) (h : s.BuildStands b) : t.BuildStands b := by
    refine ⟨h.1.trans hgeometry.symm, fun i => ?_⟩
    obtain ⟨hin, hstands⟩ := h.2 i
    rcases hrecord i with e | ⟨hbefore, hafter, hlive⟩
    · rw [e]
      exact ⟨hin, hstands⟩
    · exact ⟨hafter.trans (hbefore.symm.trans hin), stands_of_unmarked hstands (hin.symm.trans hbefore) hafter hlive⟩
  unfold State.SnapshotStands at hs ⊢
  rw [hengine]
  cases hp : s.engine.phase with
  | idle | draining =>
    rw [hp] at hs
    exact none hs
  | building b =>
    rw [hp] at hs
    exact build b hs
  | ready b m =>
    rw [hp] at hs
    exact ⟨hs.1, build b hs.2⟩

/-- A record that is changed alone. -/
theorem updRecord_cases {P : Record → Record → Prop} {i : Slot} {f : Record → Record}
    (h : P (s.record i) (f (s.record i))) (j : Slot) :
    (s.updRecord i f).record j = s.record j ∨ P (s.record j) ((s.updRecord i f).record j) := by
  by_cases hij : i = j
  · subst hij
    rw [record_updRecord_self]
    exact .inr h
  · exact .inl (record_updRecord_ne _ _ _ _ hij)

theorem stale_stands {x : Contribution} {r : Record} {stale : Bool} (h : x.Stands r) :
    x.Stands { r with stale } := by
  cases x with
  | taken y included => cases included <;> exact h
  | leaving | excluded | carried | absent => exact h

/-- The Stale mark of a record does not enter what a build has taken. -/
theorem updRecord_stale_stands (i : Slot) (stale : Bool) (hs : s.SnapshotStands) :
    (s.updRecord i fun r => { r with stale }).SnapshotStands := by
  have inBuild (j : Slot) : ((s.updRecord i fun r => { r with stale }).record j).inBuild = (s.record j).inBuild := by
    rcases updRecord_cases (P := fun r q => q.inBuild = r.inBuild) (s := s) (i := i) (f := fun r => { r with stale })
      rfl j with h | h
    · rw [h]
    · exact h
  have stands (x : Contribution) (j : Slot) (h : x.Stands (s.record j)) :
      x.Stands ((s.updRecord i fun r => { r with stale }).record j) := by
    rcases updRecord_cases (P := fun r q => x.Stands r → x.Stands q) (s := s) (i := i)
      (f := fun r => { r with stale }) stale_stands j with h' | h'
    · rw [h']
      exact h
    · exact h' h
  have build (b : Build) (h : s.BuildStands b) : (s.updRecord i fun r => { r with stale }).BuildStands b :=
    ⟨h.1, fun j => ⟨(inBuild j).trans (h.2 j).1, stands _ j (h.2 j).2⟩⟩
  unfold State.SnapshotStands at hs ⊢
  rw [updRecord_engine]
  cases hp : s.engine.phase with
  | idle | draining =>
    rw [hp] at hs
    exact fun j => (inBuild j).trans (hs j)
  | building b =>
    rw [hp] at hs
    exact build b hs
  | ready b m =>
    rw [hp] at hs
    exact ⟨hs.1, build b hs.2⟩

theorem quarantineTick_else {r : Record} (h : r.lifecycle ≠ .quarantine) : r.quarantineTick = r := if_neg h

theorem quarantineTick_inBuild {r : Record} (h : r.inBuild = false) : r.quarantineTick.inBuild = false := by
  unfold Record.quarantineTick
  split
  · split
    · rfl
    · exact h
  · exact h

theorem RecordEffect.snapshotStands (h : RecordEffect c s t) (hlawful : s.RecordsLawful) (hs : s.SnapshotStands) :
    t.SnapshotStands := by
  cases h with
  | claimed i x _ hfree =>
    have hbuild : (s.record i).inBuild = false := by rw [(lawful_free hfree).mp (hlawful i)]; rfl
    exact hs.mono rfl rfl (updRecord_cases (P := Record.Unbuilt) ⟨hbuild, rfl, fun hl => absurd (hfree.symm.trans hl) nofun⟩)
  | edited i x _ hbuild => exact hs.mono rfl rfl (updRecord_cases (P := Record.Unbuilt) ⟨hbuild, hbuild, fun hl => ⟨rfl, hl⟩⟩)
  | retiring i hlife hbuild =>
    refine hs.mono rfl rfl (updRecord_cases (P := Record.Unbuilt) ⟨hbuild, ?_, fun _ => ?_⟩)
    · unfold Record.retiring
      split <;> exact hbuild
    · unfold Record.retiring
      split <;> exact ⟨rfl, hlife⟩
  | discarded i hlife hbuild => exact hs.mono rfl rfl (updRecord_cases (P := Record.Unbuilt) ⟨hbuild, hbuild, fun _ => ⟨rfl, hlife⟩⟩)
  | quarantined i hlife hbuild =>
    exact hs.mono rfl rfl (updRecord_cases (P := Record.Unbuilt) ⟨hbuild, rfl, fun hl => absurd (hlife.symm.trans hl) nofun⟩)
  | stale i stale => exact updRecord_stale_stands i stale hs
  | tick =>
    refine hs.mono rfl rfl fun i => ?_
    rw [State.quarantineTick, record_mapRecords]
    by_cases hlife : (s.record i).lifecycle = .quarantine
    · obtain ⟨-, -, -, hbuild, -⟩ := (lawful_quarantine hlife).mp (hlawful i)
      exact .inr ⟨hbuild, quarantineTick_inBuild hbuild, fun hl => absurd (hlife.symm.trans hl) nofun⟩
    · exact .inl (quarantineTick_else hlife)
  | settings => exact hs

theorem restart_inBuild (retain : Bool) (r : Record) : (r.restart retain).inBuild = false := by
  unfold Record.restart
  split <;> rfl

theorem ResetEffect.snapshotStands (h : ResetEffect c s t) (hs : s.SnapshotStands) : t.SnapshotStands := by
  cases h with
  | held =>
    refine snapshotStands_of_idle rfl fun i => ?_
    rw [resetHeld_record]
    rfl
  | restarted =>
    have hnone : s.restartBlocks.NoneInBuild := fun i => by
      rw [restartBlocks_record, restart_inBuild]
    unfold State.claimRestore
    split
    · exact takeClaim_stands (s := s.restartBlocks.updClaims _) rfl hnone
    · exact snapshotStands_of_idle rfl hnone
  | level | awake => exact hs

/-- With the Geometry Lock off the engine holds no build (R4). -/
theorem phase_of_unlocked (h : s.geometryLock = false) :
    s.engine.phase = .idle ∨ ∃ m e, s.engine.phase = .draining m e := by
  simp only [State.geometryLock, Bool.or_eq_false_iff] at h
  have hphase := h.1.2
  split at hphase
  · cases hphase
  · cases hphase
  next hp => exact .inl hp
  next m e hp => exact .inr ⟨m, e, hp⟩

theorem Does.snapshotStands (h : Does c s t) (hlawful : s.RecordsLawful) (hs : s.SnapshotStands) : t.SnapshotStands := by
  rcases h with h | h
  · cases h with
    | port h =>
      obtain ⟨p, u, n, rfl⟩ := h.writes
      exact hs
    | link h =>
      obtain ⟨l, f, hd, p, rfl⟩ := h.writes
      exact hs
    | zone h =>
      obtain ⟨q, line, rfl⟩ := h.writes
      exact hs
    | frame h =>
      obtain ⟨r, rfl⟩ := h.writes
      exact hs
    | record h => exact h.snapshotStands hlawful hs
    | engine h => exact h.snapshotStands hs
    | transition h =>
      obtain ⟨q, rfl⟩ := h.writes
      exact hs
    | sampler h =>
      obtain ⟨q, rfl, -⟩ := h.writes
      exact hs
    | reset h => exact h.snapshotStands hs
  · cases h with
    | geometry g _ hlock =>
      have hphase := phase_of_unlocked hlock
      have hnone := hs.noneInBuild hphase
      unfold State.SnapshotStands
      dsimp only
      rcases hphase with hp | ⟨m, e, hp⟩ <;> rw [hp] <;> exact hnone
    | keepOuts | sample | tripped | released => exact hs

/-! ## The owners -/

theorem isShown_iff (s : State) (i : Slot) :
    s.isShown i = true ↔ (s.record i).lifecycle = .inService ∧ (s.record i).showing = .shown := by
  simp [State.isShown]

/-- A record that a swap finds in the new map is IN_SERVICE with that placement (R34, R66). -/
theorem settled_live {x : Contribution} {r : Record} {y : Content} {included : Bool} (length : Nat)
    (hx : x = .taken y included) (h : x.Stands r) :
    (r.settled length (decide (x = .excluded))).lifecycle = .inService
      ∧ (r.settled length (decide (x = .excluded))).live = some y := by
  subst hx
  have hexcluded : decide (Contribution.taken y included = .excluded) = false := decide_eq_false nofun
  rw [hexcluded]
  cases included with
  | true =>
    obtain ⟨hpending, hbuild, hretire, -⟩ := h
    have hsettled : r.settled length false = r.committed := by simp [Record.settled, hbuild, hretire]
    rw [hsettled]
    exact ⟨rfl, hpending⟩
  | false =>
    obtain ⟨hlive, hbuild, hlife⟩ := h
    have hsettled : r.settled length false = r := by simp [Record.settled, hbuild]
    rw [hsettled]
    exact ⟨hlife, hlive⟩

/-- A record kept for the map is SHOWN after its swap (R66). -/
theorem showing_of_kept {b : Build} {i : Slot} {p : Part} (h : (i, p) ∈ b.kept) : b.showing i = .shown := by
  obtain ⟨c, included, htaken, -⟩ := taken_of_candidate (candidate_of_mem_kept h)
  have hkept : b.isKept i = true := List.any_eq_true.mpr ⟨(i, p), h, decide_eq_true rfl⟩
  have hcarried : b.isCarried i = false := by
    unfold Build.isCarried
    rw [show b.snapshot[i] = _ from htaken]
  simp [Build.showing, Build.suppressedNow, hkept, hcarried]

theorem State.OwnersShown.swapped {b : Build} {m : Map} (hstands : s.SnapshotStands) (hdue : s.dueSwap = some (b, m)) :
    (s.swapped b m).OwnersShown := by
  obtain ⟨hready, -⟩ := dueSwap_ready hdue
  unfold State.SnapshotStands at hstands
  rw [hready] at hstands
  obtain ⟨rfl, hgeometry, hslots⟩ := hstands
  intro t i howner
  rw [swapped_engine] at howner
  obtain ⟨p, hkept, hcovers⟩ := Build.owner_kept howner
  obtain ⟨y, included, htaken, hpart⟩ := taken_of_candidate (candidate_of_mem_kept hkept)
  obtain ⟨hlife, hlive⟩ := settled_live s.table.quarantineLength htaken (hslots i).2
  have hrecord := swapped_record s b b.map i
  unfold Record.given at hrecord
  rw [if_pos hlife] at hrecord
  refine ⟨(isShown_iff _ i).mpr ?_, p, ?_, ?_⟩
  · rw [hrecord]
    exact ⟨hlife, showing_of_kept hkept⟩
  · rw [State.activePart, hrecord, State.activeLayout, swapped_engine, Build.map_layout, Record.livePart, hlive]
    exact hpart
  · rw [swapped_geometry, ← hgeometry]
    exact hcovers

/-- Every owner stays one where the SHOWN records keep their live copies. -/
theorem State.OwnersShown.mono (hs : s.OwnersShown) (hactive : t.engine.active = s.engine.active)
    (hgeometry : t.geometry = s.geometry)
    (hrecord : ∀ i, s.isShown i = true → t.isShown i = true ∧ (t.record i).live = (s.record i).live) : t.OwnersShown := by
  intro n i howner
  rw [hactive] at howner
  obtain ⟨hshown, p, hp, hcovers⟩ := hs n i howner
  obtain ⟨hshown', hlive⟩ := hrecord i hshown
  refine ⟨hshown', p, ?_, hgeometry ▸ hcovers⟩
  rw [State.activePart, Record.livePart, hlive, State.activeLayout, hactive]
  exact hp

/-- The move leaves what a SHOWN record shows. -/
def Record.StaysShown (r q : Record) : Prop :=
  r.lifecycle = .inService → q.lifecycle = .inService ∧ q.showing = r.showing ∧ q.live = r.live

theorem Record.StaysShown.shown {i : Slot} (h : (s.record i).StaysShown (t.record i)) (hshown : s.isShown i = true) :
    t.isShown i = true ∧ (t.record i).live = (s.record i).live := by
  obtain ⟨hlife, hshowing⟩ := (isShown_iff s i).mp hshown
  obtain ⟨hlife', hshowing', hlive⟩ := h hlife
  exact ⟨(isShown_iff t i).mpr ⟨hlife', hshowing'.trans hshowing⟩, hlive⟩

theorem updRecord_staysShown {i : Slot} {f : Record → Record} (h : (s.record i).StaysShown (f (s.record i))) (j : Slot) :
    (s.record j).StaysShown ((s.updRecord i f).record j) := by
  rcases updRecord_cases (P := Record.StaysShown) h j with e | e
  · rw [e]
    exact fun hl => ⟨hl, rfl, rfl⟩
  · exact e

theorem RecordEffect.ownersShown (h : RecordEffect c s t) (hs : s.OwnersShown) : t.OwnersShown := by
  have one {i : Slot} {f : Record → Record} (h : (s.record i).StaysShown (f (s.record i))) :
      (s.updRecord i f).OwnersShown := hs.mono rfl rfl fun j => (updRecord_staysShown h j).shown
  cases h with
  | claimed i x _ hfree => exact one fun hl => absurd (hfree.symm.trans hl) nofun
  | edited i x => exact one fun hl => ⟨hl, rfl, rfl⟩
  | retiring i =>
    refine one fun hl => ?_
    unfold Record.retiring
    split <;> exact ⟨hl, rfl, rfl⟩
  | discarded i => exact one fun hl => ⟨hl, rfl, rfl⟩
  | quarantined i hlife => exact one fun hl => absurd (hlife.symm.trans hl) nofun
  | stale i => exact one fun hl => ⟨hl, rfl, rfl⟩
  | tick =>
    refine hs.mono rfl rfl fun i => Record.StaysShown.shown fun hl => ?_
    rw [State.quarantineTick, record_mapRecords, quarantineTick_else (by simp [hl])]
    exact ⟨hl, rfl, rfl⟩
  | settings => exact hs

theorem takeClaim_ownersShown (hs : s.OwnersShown) : s.takeClaim.OwnersShown := by
  have hactive : s.takeClaim.engine.active = s.engine.active ∧ s.takeClaim.geometry = s.geometry := by
    obtain ⟨flags, phase, claims, slots, h⟩ := takeClaim_writes s
    rw [h]
    exact ⟨rfl, rfl⟩
  refine hs.mono hactive.1 hactive.2 fun i => Record.StaysShown.shown fun hl => ?_
  rcases takeClaim_record s i with h | ⟨k, h⟩ <;> rw [h] <;> exact ⟨hl, rfl, rfl⟩

theorem enterIdle_ownersShown (hs : s.OwnersShown) : s.enterIdle.OwnersShown :=
  takeClaim_ownersShown (s := { s with engine := { s.engine with phase := .idle } }) hs

theorem settleAbandoned_ownersShown (hs : s.OwnersShown) : s.settleAbandoned.OwnersShown :=
  hs.mono rfl rfl fun i => Record.StaysShown.shown fun hl => by
    rw [settleAbandoned_record]
    exact ⟨hl, rfl, rfl⟩

theorem abandonTarget_ownersShown (hs : s.OwnersShown) : s.abandonTarget.OwnersShown := by
  have given : (s.updClaims fun q => { q with target := none }).OwnersShown := hs
  unfold State.abandonTarget
  dsimp only
  split
  · split
    · exact enterIdle_ownersShown (settleAbandoned_ownersShown given)
    · exact given
  · split
    · exact enterIdle_ownersShown (settleAbandoned_ownersShown given)
    · exact given
  all_goals exact given

theorem EngineEffect.ownersShown (h : EngineEffect s t) (hstands : s.SnapshotStands) (hs : s.OwnersShown) :
    t.OwnersShown := by
  cases h with
  | latched | conflict | ready | blanked => exact hs
  | commitBuild =>
    refine hs.mono rfl rfl fun i => Record.StaysShown.shown fun hl => ?_
    rw [startBuild_record]
    exact ⟨hl, rfl, rfl⟩
  | raised => exact takeClaim_ownersShown (s := s.raised) hs
  | drained => exact enterIdle_ownersShown hs
  | failed => exact enterIdle_ownersShown (settleAbandoned_ownersShown hs)
  | swapped b m hdue => exact .swapped hstands hdue
  | cancelled => exact abandonTarget_ownersShown hs

theorem ResetEffect.ownersShown (h : ResetEffect c s t) (hs : s.OwnersShown) : t.OwnersShown := by
  cases h with
  | held => exact fun _ _ howner => nomatch howner
  | restarted =>
    have hactive : s.restartBlocks.OwnersShown := fun _ _ howner => nomatch howner
    unfold State.claimRestore
    split
    · exact takeClaim_ownersShown (s := s.restartBlocks.updClaims _) hactive
    · exact hactive
  | level | awake => exact hs

theorem Does.ownersShown (h : Does c s t) (hstands : s.SnapshotStands) (hs : s.OwnersShown) : t.OwnersShown := by
  rcases h with h | h
  · cases h with
    | port h =>
      obtain ⟨p, u, n, rfl⟩ := h.writes
      exact hs
    | link h =>
      obtain ⟨l, f, hd, p, rfl⟩ := h.writes
      exact hs
    | zone h =>
      obtain ⟨q, line, rfl⟩ := h.writes
      exact hs
    | frame h =>
      obtain ⟨r, rfl⟩ := h.writes
      exact hs
    | record h => exact h.ownersShown hs
    | engine h => exact h.ownersShown hstands hs
    | transition h =>
      obtain ⟨q, rfl⟩ := h.writes
      exact hs
    | sampler h =>
      obtain ⟨q, rfl, -⟩ := h.writes
      exact hs
    | reset h => exact h.ownersShown hs
  · cases h with
    | geometry g _ hlock =>
      intro n i howner
      exact absurd (isShown_inService (hs n i howner).1) (unused_of_unlocked hlock i).2
    | keepOuts | sample | tripped | released => exact hs

end

/-- Settles O56: a swap makes the placements that its build took the live ones, and until then what the build has taken
stands. -/
theorem ownersStayShown : Obligations.OwnersStayShown := by
  refine keptByStep_of_does (fun _ _ hs => hs) fun c s t h ⟨howners, hstands, hlawful, hagree⟩ => ?_
  exact ⟨h.ownersShown hstands howners, h.snapshotStands hlawful hstands, h.recordsLawful hlawful,
    (agree_iff t).mp (h.agree ((agree_iff s).mpr hagree))⟩

end Sys2Proof.Machine

/-! CLAIM. Open frames carry the active epoch or that of the map being drained, and a run fits its frame, whose timer is
stopped (R49, R68, R75, R77, R78). -/

namespace Sys2Proof.Machine

section
variable {c : Instr} {s t : State}

/-! ## Epochs -/

/-- Every open frame carries the active epoch. -/
def State.FramesCurrent (s : State) : Prop :=
  ∀ (n : Fin 8) (f : Frame), s.router.streams[n].frame = some f → f.stamp = s.engine.epoch

/-- The law where no drain is on. -/
theorem State.FramesCurrent.near (h : s.FramesCurrent)
    (hphase : s.engine.phase = .idle ∨ (∃ b, s.engine.phase = .building b) ∨ ∃ b m, s.engine.phase = .ready b m) :
    s.EpochsNear := by
  refine ⟨fun n f hf => .inl (h n f hf), fun m e hd => ?_⟩
  rcases hphase with hp | ⟨b, hp⟩ | ⟨b, m, hp⟩ <;> rw [hp] at hd <;> cases hd

/-- With no drain on, every open frame carries the active epoch. -/
theorem State.EpochsNear.current (h : s.EpochsNear) (hphase : ∀ m e, s.engine.phase ≠ .draining m e) : s.FramesCurrent :=
  fun n f hf => (h.1 n f hf).resolve_right fun ⟨m, hd⟩ => hphase m _ hd

/-- The frames and the epoch, which the law reads besides the phase. -/
theorem State.FramesCurrent.mono (h : s.FramesCurrent) (hstreams : t.router.streams = s.router.streams)
    (hepoch : t.engine.epoch = s.engine.epoch) : t.FramesCurrent := by
  intro n f hf
  rw [hstreams] at hf
  exact (h n f hf).trans hepoch.symm

theorem takeClaim_frames (s : State) :
    s.takeClaim.router = s.router ∧ s.takeClaim.engine.epoch = s.engine.epoch := by
  obtain ⟨flags, phase, claims, slots, h⟩ := takeClaim_writes s
  rw [h]
  exact ⟨rfl, rfl⟩

theorem takeClaim_epochsNear (h : s.FramesCurrent) (hidle : s.engine.phase = .idle) : s.takeClaim.EpochsNear := by
  obtain ⟨hrouter, hepoch⟩ := takeClaim_frames s
  refine State.FramesCurrent.near (h.mono (by rw [hrouter]) hepoch) ?_
  rcases takeClaim_phase s with hp | hp
  · exact .inl (hp.trans hidle)
  · exact .inr (.inl hp)

theorem enterIdle_epochsNear (h : s.FramesCurrent) : s.enterIdle.EpochsNear :=
  takeClaim_epochsNear (s := { s with engine := { s.engine with phase := .idle } }) h rfl

theorem abandonTarget_epochsNear (h : s.EpochsNear) : s.abandonTarget.EpochsNear := by
  have given : (s.updClaims fun q => { q with target := none }).EpochsNear := h
  unfold State.abandonTarget
  dsimp only
  split
  next b hp =>
    split
    · refine enterIdle_epochsNear (s := (s.updClaims _).settleAbandoned) (h.current fun m e hd => ?_)
      exact nomatch hp.symm.trans hd
    · exact given
  next b m hp =>
    split
    · refine enterIdle_epochsNear (s := (s.updClaims _).settleAbandoned) (h.current fun m e hd => ?_)
      exact nomatch hp.symm.trans hd
    · exact given
  all_goals exact given

theorem EngineEffect.epochsNear (h : EngineEffect s t) (hs : s.EpochsNear) : t.EpochsNear := by
  have current {p : EnginePhase} (hphase : s.engine.phase = p) (hp : ∀ m e, p ≠ .draining m e) : s.FramesCurrent :=
    hs.current fun m e => hphase ▸ hp m e
  cases h with
  | latched | conflict => exact hs
  | commitBuild hphase => 
    exact State.FramesCurrent.near (s := s.startBuild .commit s.activeLayout) (current hphase nofun)
      (.inr (.inl ⟨_, rfl⟩))
  | raised =>
    by_cases hidle : s.engine.phase = .idle
    · exact takeClaim_epochsNear (s := s.raised) (current hidle nofun) hidle
    · rw [raiseTarget_eq, takeClaim_busy s.raised hidle]
      exact hs
  | drained m e hphase hopen =>
    refine enterIdle_epochsNear fun n f hf => ((hs.1 n f hf).resolve_right ?_)
    rintro ⟨m', hd⟩
    have he : e = f.stamp := by
      rw [hphase] at hd
      exact (EnginePhase.draining.inj hd).2
    have hsome := (frameOpenWith_iff s e).mpr ⟨n, f, hf, he.symm⟩
    rw [hopen] at hsome
    cases hsome
  | failed b hphase => exact enterIdle_epochsNear (s := s.settleAbandoned) (current hphase nofun)
  | ready b hphase =>
    exact State.FramesCurrent.near (s := s.becomeReady b) (current hphase nofun) (.inr (.inr ⟨b, b.map, rfl⟩))
  | blanked b hphase =>
    exact State.FramesCurrent.near (s := ((s.becomeReady b).updTransition _).dropHeldBack) (current hphase nofun)
      (.inr (.inr ⟨b, b.map, rfl⟩))
  | swapped b m hdue =>
    have hcurrent := current (dueSwap_ready hdue).1 nofun
    obtain ⟨flags, slots, counts, waiting, messages, queue, job, h, -⟩ := swapped_writes s b m
    rw [h]
    refine ⟨fun n f hf => .inr ⟨s.engine.active, ?_⟩, fun m' e hd => ?_⟩
    · rw [hcurrent n f hf]
    · cases hd
      rfl
  | cancelled => exact abandonTarget_epochsNear hs

/-! ## Frames and runs -/

/-- A frame that an effect leaves in a stream, or opens. -/
theorem frame_updStream {n k : Fin 8} {g : Stream → Stream} {f : Frame}
    (h : (s.updStream n g).router.streams[k].frame = some f) :
    (k = n ∧ (g s.router.streams[n]).frame = some f) ∨ (k ≠ n ∧ s.router.streams[k].frame = some f) := by
  by_cases hk : k = n
  · subst hk
    rw [streams_updStream_self] at h
    exact .inl ⟨rfl, h⟩
  · rw [streams_updStream_ne _ _ _ _ (Ne.symm hk)] at h
    exact .inr ⟨hk, h⟩

theorem FrameEffect.epochsNear (h : FrameEffect s t) (hs : s.EpochsNear) : t.EpochsNear := by
  obtain ⟨hframes, hdrain⟩ := hs
  have near (u : State) (hengine : u.engine = s.engine) (n : Fin 8) (g : Stream → Stream)
      (hstreams : u.router.streams = (s.updStream n g).router.streams)
      (hg : ∀ f, (g s.router.streams[n]).frame = some f →
        f.stamp = s.engine.epoch ∨ ∃ f', s.router.streams[n].frame = some f' ∧ f.stamp = f'.stamp) : u.EpochsNear := by
    refine ⟨fun k f hf => ?_, hengine ▸ hdrain⟩
    rw [hengine]
    rw [hstreams] at hf
    rcases frame_updStream hf with ⟨rfl, hf⟩ | ⟨-, hf⟩
    · rcases hg f hf with hstamp | ⟨f', hf', hstamp⟩
      · exact .inl hstamp
      · rw [hstamp]
        exact hframes k f' hf'
    · exact hframes k f hf
  cases h with
  | queue | counts | dropped | discarded => exact ⟨hframes, hdrain⟩
  | last n r => exact near _ rfl n _ rfl fun f hf => .inr ⟨f, hf, rfl⟩
  | completed n => exact near _ rfl n _ rfl fun f hf => .inr ⟨f, hf, rfl⟩
  | opened n w h =>
    refine near _ rfl n _ rfl fun f hf => .inl ?_
    cases hf
    rfl
  | closed n r => exact near _ rfl n _ rfl fun f hf => nomatch hf
  | malformed n f timer _ hframe =>
    refine near _ rfl n _ rfl fun f' hf => .inr ⟨f, hframe, ?_⟩
    cases hf
    rfl
  | routed n tiles f _ hframe =>
    refine near _ rfl n _ rfl fun f' hf => .inr ⟨f, hframe, ?_⟩
    cases hf
    rfl
  | tile n px rest f _ hframe =>
    refine near _ rfl n _ rfl fun f' hf => .inr ⟨f, hframe, ?_⟩
    cases hf
    rfl
  | ended n timeout =>
    refine near _ rfl n _ rfl fun f hf => .inr ?_
    obtain ⟨f', hf', rfl⟩ := Option.map_eq_some_iff.mp hf
    exact ⟨f', hf', rfl⟩

/-- A frame with its size and its Next Index in range (R75). -/
def Frame.Sized (f : Frame) : Prop :=
  1 ≤ f.width ∧ f.width ≤ 128 ∧ 1 ≤ f.height ∧ f.height ≤ 112 ∧ f.next ≤ f.width * f.height

/-- The frames after a change of one stream are sized. -/
theorem sized_updStream {n : Fin 8} {g : Stream → Stream}
    (hs : ∀ (k : Fin 8) (f : Frame), s.router.streams[k].frame = some f → f.Sized)
    (hg : ∀ f, (g s.router.streams[n]).frame = some f → f.Sized) (k : Fin 8) (f : Frame)
    (hf : (s.updStream n g).router.streams[k].frame = some f) : f.Sized := by
  rcases frame_updStream hf with ⟨rfl, hf⟩ | ⟨-, hf⟩
  · exact hg f hf
  · exact hs k f hf

/-- A change of a stream that leaves its frame leaves every frame. -/
theorem frames_updStream {n : Fin 8} {g : Stream → Stream} (hg : ∀ st, (g st).frame = st.frame) (k : Fin 8) :
    (s.updStream n g).router.streams[k].frame = s.router.streams[k].frame := by
  by_cases hk : n = k
  · subst hk
    rw [streams_updStream_self, hg]
  · rw [streams_updStream_ne _ _ _ _ hk]

/-- The law reads the frames and the run. -/
theorem State.FramesLawful.mono (hs : s.FramesLawful)
    (hframes : ∀ n : Fin 8, t.router.streams[n].frame = s.router.streams[n].frame) (hrun : t.router.run = s.router.run) :
    t.FramesLawful := by
  refine ⟨fun n f hf => hs.1 n f (hframes n ▸ hf), fun r hr => ?_⟩
  rw [hframes]
  exact hs.2 r (hrun ▸ hr)

theorem FrameEffect.framesLawful (h : FrameEffect s t) (hs : s.FramesLawful) : t.FramesLawful := by
  obtain ⟨hsized, hrun⟩ := hs
  cases h with
  | queue | counts => exact ⟨hsized, hrun⟩
  | last n r => exact State.FramesLawful.mono ⟨hsized, hrun⟩ (frames_updStream fun _ => rfl) rfl
  | completed n => exact State.FramesLawful.mono ⟨hsized, hrun⟩ (frames_updStream fun _ => rfl) rfl
  | opened n w h hnone hsize =>
    refine ⟨sized_updStream hsized fun f hf => ?_, fun r hr => nomatch hnone.symm.trans hr⟩
    cases hf
    exact ⟨hsize.1, hsize.2.1, hsize.2.2.1, hsize.2.2.2, Nat.zero_le _⟩
  | closed n result hguard =>
    refine ⟨sized_updStream hsized nofun, fun r hr => ?_⟩
    have hr : s.router.run = some r := hr
    have htimer := hguard.resolve_left fun hnone => nomatch hnone.symm.trans hr
    obtain ⟨hrouted, hdropped⟩ := hrun r hr
    by_cases hn : n = r.stream
    · subst hn
      refine ⟨fun h => ?_, fun _ f hf => ?_⟩
      · obtain ⟨f, hf, htimer', -⟩ := hrouted h
        rw [Stream.timerRuns, hf, Option.any_some, htimer'] at htimer
        cases htimer
      · rw [streams_updStream_self] at hf
        cases hf
    · rw [streams_updStream_ne _ _ _ _ hn]
      exact ⟨hrouted, hdropped⟩
  | malformed n f timer hnone hframe =>
    refine ⟨sized_updStream hsized fun f' hf => ?_, fun r hr => nomatch hnone.symm.trans hr⟩
    cases hf
    exact hsized n f hframe
  | dropped n tiles _ hframe =>
    refine ⟨hsized, fun r hr => ?_⟩
    cases hr
    exact ⟨nofun, fun _ => hframe⟩
  | routed n tiles f _ hframe hfits =>
    refine ⟨sized_updStream hsized fun f' hf => ?_, fun r hr => ?_⟩
    · cases hf
      exact hsized n f hframe
    · cases hr
      exact ⟨fun _ => ⟨{ f with timer := none }, by rw [streams_updStream_self], rfl, hfits⟩, nofun⟩
  | tile n px rest f hr hframe =>
    obtain ⟨f', hframe', htimer, hfits⟩ := (hrun _ hr).1 rfl
    cases hframe.symm.trans hframe'
    have hnext : f.next + 1 + rest.length ≤ f.width * f.height := by
      simp only [List.length_cons] at hfits
      omega
    refine ⟨sized_updStream hsized fun f' hf => ?_, fun r hr => ?_⟩
    · cases hf
      obtain ⟨hw, hw', hh, hh', -⟩ := hsized n f hframe
      exact ⟨hw, hw', hh, hh', (Nat.le_add_right _ _).trans hnext⟩
    · cases hr
      exact ⟨fun _ => ⟨{ f with next := f.next + 1 }, by rw [streams_updStream_self], htimer, hnext⟩, nofun⟩
  | discarded n px rest hr =>
    refine ⟨hsized, fun r hr' => ?_⟩
    cases hr'
    exact ⟨nofun, fun _ => (hrun _ hr).2 rfl⟩
  | ended n timeout =>
    refine ⟨sized_updStream hsized fun f hf => ?_, nofun⟩
    obtain ⟨f', hf', rfl⟩ := Option.map_eq_some_iff.mp hf
    exact hsized n f' hf'

/-- The engine's work leaves the frames and the run. -/
theorem EngineEffect.frames (h : EngineEffect s t) :
    t.router.streams = s.router.streams ∧ t.router.run = s.router.run := by
  cases h with
  | latched | conflict | commitBuild | ready | blanked => exact ⟨rfl, rfl⟩
  | raised =>
    rw [raiseTarget_eq, (takeClaim_frames s.raised).1]
    exact ⟨rfl, rfl⟩
  | drained =>
    obtain ⟨flags, phase, claims, slots, h⟩ := enterIdle_writes s
    rw [h]
    exact ⟨rfl, rfl⟩
  | failed =>
    obtain ⟨flags, phase, claims, slots, h⟩ := enterIdle_writes s.settleAbandoned
    rw [h]
    exact ⟨rfl, rfl⟩
  | cancelled =>
    obtain ⟨flags, phase, claims, slots, h⟩ := abandonTarget_writes s
    rw [h]
    exact ⟨rfl, rfl⟩
  | swapped b m =>
    obtain ⟨flags, slots, counts, waiting, messages, queue, job, h, -⟩ := swapped_writes s b m
    rw [h]
    exact ⟨rfl, rfl⟩

/-- Every stream is CLOSED and no run is being taken. -/
def State.Closed (s : State) : Prop := (∀ n : Fin 8, s.router.streams[n].frame = none) ∧ s.router.run = none

theorem State.Closed.framesLawful (h : s.Closed) : s.FramesLawful :=
  ⟨fun n _ hf => (nomatch (h.1 n).symm.trans hf), fun _ hr => nomatch h.2.symm.trans hr⟩

theorem reset_streams (n : Fin 8) : (Router.reset.streams[n]).frame = none :=
  congrArg Stream.frame (Vec.tabulate_get _ n)

theorem resetHeld_closed (s : State) : s.resetHeld.Closed := ⟨reset_streams, rfl⟩

theorem restartBlocks_closed (s : State) : s.restartBlocks.Closed := ⟨reset_streams, rfl⟩

theorem claimRestore_closed (h : s.Closed) : s.claimRestore.Closed := by
  obtain ⟨flags, phase, claims, slots, h'⟩ := claimRestore_writes s
  rw [h']
  exact h

theorem ResetEffect.frames (h : ResetEffect c s t) (hs : s.EpochsNear ∧ s.FramesLawful) :
    t.EpochsNear ∧ t.FramesLawful := by
  cases h with
  | held =>
    have hclosed := resetHeld_closed s
    exact ⟨State.FramesCurrent.near (fun n _ hf => nomatch (hclosed.1 n).symm.trans hf) (.inl rfl), hclosed.framesLawful⟩
  | restarted =>
    have hclosed := restartBlocks_closed s
    have hcurrent : s.restartBlocks.FramesCurrent := fun n _ hf => nomatch (hclosed.1 n).symm.trans hf
    refine ⟨?_, (claimRestore_closed hclosed).framesLawful⟩
    unfold State.claimRestore
    split
    · exact takeClaim_epochsNear (s := s.restartBlocks.updClaims _) hcurrent rfl
    · exact hcurrent.near (.inl rfl)
  | level | awake => exact hs

theorem Does.frames (h : Does c s t) (hs : s.EpochsNear ∧ s.FramesLawful) : t.EpochsNear ∧ t.FramesLawful := by
  rcases h with h | h
  · cases h with
    | port h =>
      obtain ⟨p, u, n, rfl⟩ := h.writes
      exact hs
    | link h =>
      obtain ⟨l, f, hd, p, rfl⟩ := h.writes
      exact hs
    | zone h =>
      obtain ⟨q, line, rfl⟩ := h.writes
      exact hs
    | frame h => exact ⟨h.epochsNear hs.1, h.framesLawful hs.2⟩
    | record h =>
      obtain ⟨b, rfl⟩ := h.writes
      exact hs
    | engine h =>
      obtain ⟨hstreams, hrun⟩ := h.frames
      exact ⟨h.epochsNear hs.1, hs.2.mono (fun n => by rw [hstreams]) hrun⟩
    | transition h =>
      obtain ⟨q, rfl⟩ := h.writes
      exact hs
    | sampler h =>
      obtain ⟨q, rfl, -⟩ := h.writes
      exact hs
    | reset h => exact h.frames hs
  · cases h <;> exact hs

end

/-- Settles O57: a frame takes the active epoch as it opens, and only a drain keeps the one before it. -/
theorem framesKept : Obligations.FramesKept :=
  keptByStep_of_does (fun _ _ hs => hs) fun _ _ _ h hs => h.frames hs

end Sys2Proof.Machine

/-! CLAIM. BEND Applied is the posture's, and the debounce run, the Invalid Run and the limits keep their ranges (R113,
R114, R117, R120). -/

namespace Sys2Proof.Machine

section
variable {c : Instr} {s t : State}

/-- The law of the sampler, of the fields that it reads. -/
def Sampler.Lawful (p : Sampler) : Prop :=
  p.bendApplied = p.posture.bends ∧ (p.runClass = none ↔ p.runLength = 0) ∧ p.runLength < p.debounce
    ∧ p.foldLimit < p.openLimit ∧ p.invalidRun ≤ 8 ∧ (p.invalidRun = 8 → p.posture = .unknown)

theorem samplerLawful_iff (s : State) : s.sampler.Lawful ↔ s.BendFollows ∧ s.SamplerLawful := Iff.rfl

/-! ## A Sample judged -/

/-- BEND Applied takes the posture's value (R117). -/
theorem followBend_sampler (s : State) : ∃ d,
    s.followBend.sampler = { s.sampler with bendApplied := s.sampler.posture.bends, bendDeferred := d } := by
  unfold State.followBend
  split
  next h => exact ⟨s.sampler.bendDeferred, by rw [← h]⟩
  next =>
    dsimp only
    split
    · exact ⟨true, rfl⟩
    · exact ⟨s.sampler.bendDeferred, by simp⟩

/-- A debounced change clears the run and sets the posture (R115 to R117). -/
theorem changePosture_sampler (s : State) (x : HingeClass) : ∃ d b, (s.changePosture x).sampler = { s.sampler with
    posture := x.posture, bendApplied := x.posture.bends, runClass := none, runLength := 0
    lastDirection := d, bendDeferred := b } := by
  obtain ⟨b, h⟩ := followBend_sampler (s.updSampler fun p => { p with
    posture := x.posture, lastDirection := changeDirection s.sampler.posture x, runClass := none, runLength := 0 })
  refine ⟨changeDirection s.sampler.posture x, b, ?_⟩
  unfold State.changePosture
  dsimp only
  rw [raiseRequest_sampler]
  split
  · rw [setFlag_sampler, h]
    rfl
  · rw [h]
    rfl

theorem judgeValid_lawful (x : HingeClass) (hs : s.sampler.Lawful) : (s.judgeValid x).sampler.Lawful := by
  obtain ⟨hbend, -, hrun, hlimits, -, -⟩ := hs
  unfold State.judgeValid
  dsimp only
  split
  next => exact ⟨hbend, iff_of_true rfl rfl, Nat.zero_lt_of_lt hrun, hlimits, Nat.zero_le 8, nofun⟩
  next =>
    split
    next =>
      obtain ⟨d, b, h⟩ := changePosture_sampler (s.updSampler fun p => { p with invalidRun := 0 }) x
      rw [h]
      exact ⟨rfl, iff_of_true rfl rfl, Nat.zero_lt_of_lt hrun, hlimits, Nat.zero_le 8, nofun⟩
    next hshort =>
      have hone : s.sampler.nextRun x ≠ 0 := by
        unfold Sampler.nextRun
        split
        · exact Nat.succ_ne_zero _
        · exact Nat.one_ne_zero
      exact ⟨hbend, iff_of_false nofun hone, Nat.lt_of_not_le hshort, hlimits, Nat.zero_le 8, nofun⟩

theorem judgeInvalid_lawful (hs : s.sampler.Lawful) : s.judgeInvalid.sampler.Lawful := by
  obtain ⟨hbend, -, hrun, hlimits, hinvalid, hlost⟩ := hs
  unfold State.judgeInvalid
  dsimp only
  split
  next hseven =>
    unfold State.loseSensor
    rw [setFlag_sampler]
    obtain ⟨d, h⟩ := followBend_sampler ((s.updSampler fun p => { p with
      runClass := none, runLength := 0, invalidRun := if p.invalidRun < 8 then p.invalidRun + 1 else 8 }).updSampler
        fun p => { p with posture := .unknown })
    rw [h]
    refine ⟨rfl, iff_of_true rfl rfl, Nat.zero_lt_of_lt hrun, hlimits, ?_, fun _ => rfl⟩
    simp [hseven]
  next hother =>
    refine ⟨hbend, iff_of_true rfl rfl, Nat.zero_lt_of_lt hrun, hlimits, ?_, fun h => hlost ?_⟩
    · simp only [updSampler_sampler]
      split <;> omega
    · simp only [updSampler_sampler] at h
      split at h <;> omega

/-- A Sample judged keeps the sampler lawful (R113, R114, R117). -/
theorem takeSample_lawful (d : Nat) (status : SampleStatus) (hs : s.sampler.Lawful) :
    (s.takeSample d status).sampler.Lawful := by
  cases status with
  | valid => exact judgeValid_lawful _ hs
  | none | noSignal | saturated => exact judgeInvalid_lawful hs

/-! ## Effects -/

/-- New settings leave the debounce run below the Debounce, or clear it (R120). -/
theorem edit_lawful {e : PostureEdit} {p : Sampler} (hdebounce : ∀ n, e.debounce = some n → 1 ≤ n)
    (hlimits : (e.apply p).foldLimit < (e.apply p).openLimit) (hp : p.Lawful) : (e.apply p).Lawful := by
  obtain ⟨hbend, hclass, hrun, -, hinvalid⟩ := hp
  have hpos : 1 ≤ e.debounce.getD p.debounce := by
    cases hd : e.debounce with
    | none => exact Nat.zero_lt_of_lt hrun
    | some n => exact hdebounce n hd
  unfold PostureEdit.apply at hlimits ⊢
  dsimp only at hlimits ⊢
  split at hlimits
  next hsame =>
    rw [if_pos hsame]
    exact ⟨hbend, hclass, hrun.trans_eq hsame.2.2.symm, hlimits, hinvalid⟩
  next hsame =>
    rw [if_neg hsame]
    exact ⟨hbend, iff_of_true rfl rfl, hpos, hlimits, hinvalid⟩

/-- The engine's work leaves what is beyond the link's work. -/
theorem EngineEffect.beyond (h : EngineEffect s t) : t.beyond = s.beyond := by
  cases h with
  | latched | conflict | commitBuild | ready | blanked => rfl
  | raised => exact raiseTarget_beyond s
  | drained => exact enterIdle_beyond s
  | failed => exact enterIdle_beyond s.settleAbandoned
  | cancelled =>
    obtain ⟨flags, phase, claims, slots, h⟩ := abandonTarget_writes s
    rw [h]
    rfl
  | swapped b m =>
    obtain ⟨flags, slots, counts, waiting, messages, queue, job, h, -⟩ := swapped_writes s b m
    rw [h]
    rfl

theorem samplerReset_lawful : Sampler.reset.Lawful :=
  ⟨rfl, by decide, by decide, by decide, by decide, by decide⟩

theorem Does.samplerLawful (h : Does c s t) (hs : s.sampler.Lawful) : t.sampler.Lawful := by
  rcases h with h | h
  · cases h with
    | port h =>
      obtain ⟨p, u, n, rfl⟩ := h.writes
      exact hs
    | link h =>
      obtain ⟨l, f, hd, p, rfl⟩ := h.writes
      exact hs
    | zone h =>
      obtain ⟨q, line, rfl⟩ := h.writes
      exact hs
    | frame h =>
      obtain ⟨r, rfl⟩ := h.writes
      exact hs
    | record h =>
      obtain ⟨b, rfl⟩ := h.writes
      exact hs
    | engine h =>
      rw [show t.sampler = s.sampler from congrArg Beyond.sampler h.beyond]
      exact hs
    | transition h =>
      obtain ⟨q, rfl⟩ := h.writes
      exact hs
    | sampler h =>
      cases h with
      | phase | undeferred => exact hs
      | edited e hdebounce hlimits => exact edit_lawful hdebounce hlimits hs
    | reset h =>
      cases h with
      | held => exact samplerReset_lawful
      | restarted => rw [claimRestore_sampler]; exact hs
      | level | awake => exact hs
  · cases h with
    | sample d status => exact takeSample_lawful d status hs
    | geometry | keepOuts | tripped | released => exact hs

end

/-! ## The zones -/

/-- A zone is lawful under the reset inputs and the level of its fault line (R152, R155, R159, R161). -/
def ZoneState.Sound (inReset resetn line : Bool) (q : ZoneState) : Prop :=
  q.Lawful ∧ (inReset = false → q.mode = .on → 1 ≤ q.idleLimit → q.idleTimer.isSome)
    ∧ (resetn = false → q.faultActive = line)

theorem zonesLawful_iff (s : State) :
    s.ZonesLawful ↔ ∀ z : Zone, (s.zoneState z).Sound s.inReset s.pins.resetn (s.pins.faultLine.get z) := Iff.rfl

section
variable {q : ZoneState} {inReset resetn line : Bool}

theorem startedTimer_isSome (q : ZoneState) : q.startedTimer.isSome ↔ 1 ≤ q.idleLimit := by
  unfold ZoneState.startedTimer
  split
  next h => simp [h]
  next h => simpa [Nat.one_le_iff_ne_zero] using h

theorem turnOn_sound (h : q.Sound inReset resetn line) : q.turnOn.Sound inReset resetn line := by
  obtain ⟨⟨htrips, hlimit, hdim, -⟩, -, hfault⟩ := h
  exact ⟨⟨htrips, hlimit, hdim, fun ht => ⟨rfl, (startedTimer_isSome q).mp ht⟩⟩,
    fun _ _ hl => (startedTimer_isSome q).mpr hl, hfault⟩

theorem leaveOn_sound {mode : ZoneMode} (hmode : mode ≠ .on) (h : q.Sound inReset resetn line) :
    (q.leaveOn mode).Sound inReset resetn line := by
  obtain ⟨⟨htrips, hlimit, hdim, -⟩, -, hfault⟩ := h
  exact ⟨⟨htrips, hlimit, hdim, nofun⟩, fun _ hm => absurd hm hmode, hfault⟩

theorem setTo_sound (on : Bool) (h : q.Sound inReset resetn line) : (q.setTo on).Sound inReset resetn line := by
  cases on with
  | true => exact turnOn_sound h
  | false => exact leaveOn_sound nofun h

theorem follow_sound (on : Bool) (h : q.Sound inReset resetn line) : (q.follow on).Sound inReset resetn line := by
  unfold ZoneState.follow
  split
  · exact h
  · exact setTo_sound on h

theorem setIdle_sound (limit : Option Nat) (mask : Option (BitVec 3)) (dim : Option Nat)
    (hlimit : ∀ n, limit = some n → n ≤ 255) (hdim : ∀ n, dim = some n → n ≤ 255) (h : q.Sound inReset resetn line) :
    (q.setIdle limit mask dim).Sound inReset resetn line := by
  obtain ⟨⟨htrips, hlimit', hdim', htimer⟩, hruns, hfault⟩ := h
  have hl : limit.getD q.idleLimit ≤ 255 := by
    cases limit with
    | none => exact hlimit'
    | some n => exact hlimit n rfl
  have hd : dim.getD q.dimLevel ≤ 255 := by
    cases dim with
    | none => exact hdim'
    | some n => exact hdim n rfl
  unfold ZoneState.setIdle
  dsimp only
  split
  next hon =>
    exact ⟨⟨htrips, hl, hd, fun ht => ⟨hon.2, (startedTimer_isSome _).mp ht⟩⟩,
      fun _ _ hone => (startedTimer_isSome _).mpr hone, hfault⟩
  next hoff =>
    cases limit with
    | none => exact ⟨⟨htrips, hl, hd, htimer⟩, hruns, hfault⟩
    | some n =>
      have hmode : q.mode ≠ .on := fun hm => hoff ⟨rfl, hm⟩
      exact ⟨⟨htrips, hl, hd, fun ht => absurd (htimer ht).1 hmode⟩, fun _ hm => absurd hm hmode, hfault⟩

theorem restart_sound_zone (retain entry : Bool) (h : q.Sound inReset resetn line) :
    (q.restart retain entry).Sound true resetn line := by
  obtain ⟨⟨htrips, hlimit, hdim, -⟩, -, hfault⟩ := h
  refine ⟨?_, nofun, ?_⟩
  · unfold ZoneState.restart
    cases retain with
    | true => exact ⟨htrips, hlimit, hdim, nofun⟩
    | false => exact ⟨htrips, Nat.zero_le 255, (by decide : 40 ≤ 255), nofun⟩
  · unfold ZoneState.restart
    cases retain <;> exact hfault

theorem startIdle_sound (h : q.Sound inReset resetn line) : q.startIdle.Sound false resetn line := by
  obtain ⟨⟨htrips, hlimit, hdim, htimer⟩, -, hfault⟩ := h
  unfold ZoneState.startIdle
  split
  next hon =>
    exact ⟨⟨htrips, hlimit, hdim, fun ht => ⟨hon, (startedTimer_isSome q).mp ht⟩⟩,
      fun _ _ hl => (startedTimer_isSome q).mpr hl, hfault⟩
  next hoff => exact ⟨⟨htrips, hlimit, hdim, htimer⟩, fun _ hm => absurd hm hoff, hfault⟩

theorem released_sound (on fault : Bool) : (ZoneState.released on fault).Sound inReset false fault := by
  refine ⟨⟨?_, Nat.zero_le 255, by simp [ZoneState.released, ZoneState.reset], nofun⟩, fun _ _ hl => ?_, fun _ => rfl⟩
  · simp only [ZoneState.released]
    split <;> decide
  · exact absurd hl (by simp [ZoneState.released, ZoneState.reset])

end

section
variable {c : Instr} {s t : State}

theorem updZone_zonesLawful {z : Zone} {f : ZoneState → ZoneState}
    (hf : ∀ q inReset resetn line, ZoneState.Sound inReset resetn line q → (f q).Sound inReset resetn line)
    (hs : s.ZonesLawful) : (s.updZone z f).ZonesLawful := by
  intro y
  by_cases hz : z = y
  · subst hz
    rw [zoneState_updZone_self]
    exact hf _ _ _ _ (hs z)
  · rw [zoneState_updZone_ne _ _ _ _ hz]
    exact hs y

/-- A zone changed with the level of its fault line; the others stand. -/
theorem setLine_zonesLawful {z : Zone} {level : Bool} {f : ZoneState → ZoneState}
    (hf : ZoneState.Sound s.inReset s.pins.resetn level (f (s.zoneState z))) (hs : s.ZonesLawful) :
    ((s.setLine z level).updZone z f).ZonesLawful := by
  intro y
  by_cases hz : z = y
  · subst hz
    rw [zoneState_updZone_self, zoneState_setLine]
    have hline : ((s.setLine z level).updZone z f).pins.faultLine.get z = level := PerZone.get_set_self _ _ _
    rw [hline]
    exact hf
  · rw [zoneState_updZone_ne _ _ _ _ hz, zoneState_setLine]
    have hline : ((s.setLine z level).updZone z f).pins.faultLine.get y = s.pins.faultLine.get y :=
      PerZone.get_set_ne _ _ _ _ hz
    rw [hline]
    exact hs y

theorem ZoneEffect.zonesLawful (h : ZoneEffect s t) (hs : s.ZonesLawful) : t.ZonesLawful := by
  cases h with
  | setTo z on => exact updZone_zonesLawful (fun _ _ _ _ => setTo_sound on) hs
  | dim z => exact updZone_zonesLawful (fun _ _ _ _ => leaveOn_sound nofun) hs
  | idle z limit mask dim hlimit hdim =>
    exact updZone_zonesLawful (fun _ _ _ _ => setIdle_sound limit mask dim hlimit hdim) hs
  | tables => exact hs
  | edge z level =>
    obtain ⟨hlawful, hruns, -⟩ := hs z
    exact setLine_zonesLawful ⟨hlawful, hruns, fun _ => rfl⟩ hs
  | line z level hresetn =>
    intro y
    rw [zoneState_setLine]
    exact ⟨(hs y).1, (hs y).2.1, fun hr => nomatch hresetn.symm.trans hr⟩

theorem EngineEffect.zonesLawful (h : EngineEffect s t) (hs : s.ZonesLawful) : t.ZonesLawful := by
  cases h with
  | latched | conflict | commitBuild | ready | blanked => exact hs
  | raised =>
    obtain ⟨flags, phase, claims, slots, h⟩ := takeClaim_writes s.raised
    rw [raiseTarget_eq, h]
    exact hs
  | drained =>
    obtain ⟨flags, phase, claims, slots, h⟩ := enterIdle_writes s
    rw [h]
    exact hs
  | failed =>
    obtain ⟨flags, phase, claims, slots, h⟩ := enterIdle_writes s.settleAbandoned
    rw [h]
    exact hs
  | cancelled =>
    obtain ⟨flags, phase, claims, slots, h⟩ := abandonTarget_writes s
    rw [h]
    exact hs
  | swapped b m =>
    obtain ⟨flags, slots, counts, waiting, messages, queue, job, h, -⟩ := swapped_writes s b m
    rw [h]
    by_cases hkind : b.kind = .target
    · simp only [hkind, if_true]
      intro z
      cases z with
      | rear => exact follow_sound _ (hs .rear)
      | spine => exact follow_sound _ (hs .spine)
      | front => exact follow_sound _ (hs .front)
    · simp only [hkind, if_false]
      exact hs

theorem ResetEffect.zonesLawful (h : ResetEffect c s t) (hs : s.ZonesLawful) : t.ZonesLawful := by
  cases h with
  | held =>
    intro z
    cases z <;> exact ⟨⟨Nat.zero_le 255, Nat.zero_le 255, (by decide : 40 ≤ 255), nofun⟩, nofun, nofun⟩
  | restarted _ hresetn =>
    have restarted : s.restartBlocks.ZonesLawful := by
      intro z
      have hin : s.restartBlocks.inReset = true := by simp [State.inReset, State.restartBlocks]
      rw [hin]
      cases z with
      | rear => exact restart_sound_zone _ _ (hs .rear)
      | spine => exact restart_sound_zone _ _ (hs .spine)
      | front => exact restart_sound_zone _ _ (hs .front)
    obtain ⟨flags, phase, claims, slots, h⟩ := claimRestore_writes s.restartBlocks
    rw [h]
    exact restarted
  | level level hresetn =>
    intro z
    refine ⟨(hs z).1, fun hin => ?_, fun hr => nomatch hresetn.symm.trans hr⟩
    simp [State.inReset, hresetn] at hin
  | awake hresetn =>
    intro z
    have hin (u : State) (hu : u.pins = { s.pins with drstn := false }) : u.inReset = false := by
      simp [State.inReset, hu, hresetn]
    rw [hin _ rfl]
    cases z with
    | rear => exact startIdle_sound (hs .rear)
    | spine => exact startIdle_sound (hs .spine)
    | front => exact startIdle_sound (hs .front)

theorem Does.zonesLawful (h : Does c s t) (hs : s.ZonesLawful) : t.ZonesLawful := by
  rcases h with h | h
  · cases h with
    | port h =>
      obtain ⟨p, u, n, rfl⟩ := h.writes
      exact hs
    | link h =>
      obtain ⟨l, f, hd, p, rfl⟩ := h.writes
      exact hs
    | zone h => exact h.zonesLawful hs
    | frame h =>
      obtain ⟨r, rfl⟩ := h.writes
      exact hs
    | record h =>
      obtain ⟨b, rfl⟩ := h.writes
      exact hs
    | engine h => exact h.zonesLawful hs
    | transition h =>
      obtain ⟨q, rfl⟩ := h.writes
      exact hs
    | sampler h =>
      obtain ⟨q, rfl, -⟩ := h.writes
      exact hs
    | reset h => exact h.zonesLawful hs
  · cases h with
    | geometry | keepOuts | sample => exact hs
    | tripped z hresetn =>
      obtain ⟨⟨htrips, hlimit, hdim, -⟩, -⟩ := hs z
      refine setLine_zonesLawful ⟨⟨?_, hlimit, hdim, nofun⟩, fun _ hm => absurd hm nofun, fun _ => rfl⟩ hs
      dsimp only
      split <;> omega
    | released =>
      intro z
      cases z <;> exact released_sound _ _

end

/-- Settles O58: a Sample judged sets BEND Applied with the posture, and each change of a zone starts or stops its idle
timer as its mode and its limit ask. -/
theorem samplerAndZonesKept : Obligations.SamplerAndZonesKept :=
  ⟨keptByStep_of_does (fun _ _ hs => hs) fun _ _ _ h hs => h.samplerLawful hs,
    keptByStep_of_does (fun _ _ hs => hs) fun _ _ _ h hs => h.zonesLawful hs⟩

end Sys2Proof.Machine

/-! CLAIM. The queue of commands and the transactions of the control port: every command completes, a request is held or
refused, every decision answers (R179, R180, R181). -/

namespace Sys2Proof.Machine

/-! ## The front of the queue -/

/-- Settles O1: the step is the front command's, or none. -/
theorem stepRunsFront : Obligations.StepRunsFront := by
  constructor
  · intro c rest s h
    rw [step, h]
  · intro s h
    rw [step, h]

/-! ## How a decision answers -/

theorem respond_refused (r : Result) (s : State) (code : Byte) :
    (refused r s).respond code = s.responds code r .empty := rfl

theorem respond_answered (s : State) (code : Byte) : (answered s).respond code = s.responds code .ok .empty := rfl

theorem respond_taken (s : State) (code : Byte) : (taken s).respond code = s.finish.responds code .ok .empty := rfl

theorem respond_reported (data : Data) (s : State) (code : Byte) :
    (reported data s).respond code = s.responds code .ok data := rfl

/-- What the decision of a held request comes to. -/
theorem decided {code : Byte} {d : List Byte → State → Decision} {s : State} {ps : List Byte} (h : s.Holds code ps)
    {x : Decision} (hx : d ps s = x) : decideRequest code d s = .next (x.respond code) := by
  rw [decideRequest_held code d s ps h, hx]

/-- Each command that decides a held request, with the decision that it makes (R180). -/
theorem decisionCommands_decide : ∀ p ∈ decisionCommands, ∃ d, ∀ s, exec p.2 s = decideRequest p.1 d s := by
  simp only [decisionCommands, List.forall_mem_cons, List.not_mem_nil, false_imp_iff, implies_true, and_true]
  exact ⟨⟨statusRead, fun _ => rfl⟩, ⟨eventClear, fun _ => rfl⟩, ⟨eventMask, fun _ => rfl⟩, ⟨geometrySet, fun _ => rfl⟩,
    ⟨geometryRead, fun _ => rfl⟩, ⟨keepoutSet, fun _ => rfl⟩, ⟨keepoutClear, fun _ => rfl⟩, ⟨keepoutRead, fun _ => rfl⟩,
    ⟨regionCreate, fun _ => rfl⟩, ⟨regionPlace, fun _ => rfl⟩, ⟨regionAttributes, fun _ => rfl⟩,
    ⟨regionRetire, fun _ => rfl⟩, ⟨regionDiscard, fun _ => rfl⟩, ⟨regionRead, fun _ => rfl⟩, ⟨regionList, fun _ => rfl⟩,
    ⟨tableSet, fun _ => rfl⟩, ⟨commit, fun _ => rfl⟩, ⟨mapRead, fun _ => rfl⟩, ⟨streamSet, fun _ => rfl⟩,
    ⟨streamRead, fun _ => rfl⟩, ⟨backgroundSet, fun _ => rfl⟩, ⟨scanSet, fun _ => rfl⟩, ⟨fillRead, fun _ => rfl⟩,
    ⟨postureSet, fun _ => rfl⟩, ⟨postureRead, fun _ => rfl⟩, ⟨layoutReady, fun _ => rfl⟩, ⟨layoutPin, fun _ => rfl⟩,
    ⟨layoutUnpin, fun _ => rfl⟩, ⟨transitionAbort, fun _ => rfl⟩, ⟨transitionSet, fun _ => rfl⟩,
    ⟨transitionRead, fun _ => rfl⟩, ⟨zoneMode, fun _ => rfl⟩, ⟨zoneTable, fun _ => rfl⟩, ⟨zoneIdle, fun _ => rfl⟩,
    ⟨zoneRestore, fun _ => rfl⟩, ⟨zoneRead, fun _ => rfl⟩, ⟨lookup, fun _ => rfl⟩, ⟨verify, fun _ => rfl⟩⟩

/-! ## Every command completes -/

/-- An answer that is a next state. -/
def Completes (o : Host.Outcome State Fault Refusal) : Prop := ∃ t, o = .next t

theorem completes_next (s : State) : Completes (.next s) := ⟨s, rfl⟩

/-- A choice completes where both its sides do. -/
theorem completes_ite {p : Prop} [Decidable p] {x y : Host.Outcome State Fault Refusal} (hx : Completes x)
    (hy : Completes y) : Completes (if p then x else y) := by
  split
  · exact hx
  · exact hy

/-- Every command answers a next state. -/
theorem exec_completes (c : Instr) (s : State) : Completes (exec c s) := by
  by_cases hd : c ∈ decisionCommands.map Prod.snd
  · obtain ⟨p, hp, rfl⟩ := List.mem_map.mp hd
    obtain ⟨d, hdecides⟩ := decisionCommands_decide p hp
    rw [hdecides]
    exact decideRequest_next _ _ _
  · cases c with
    | request frame =>
      refine completes_ite (completes_next _) (completes_ite (completes_next _) ?_)
      split <;> exact completes_next _
    | response =>
      refine completes_ite (completes_next _) ?_
      split <;> exact completes_next _
    | status => exact completes_ite (completes_next _) (completes_next _)
    | unknownKindTransaction | point | lookupPortVerify | frameBegin | tileRun | streamTile | frameEnd |
      discardedPacket | resetnAssert => exact completes_next _
    | rejectedWrite bytes =>
      refine completes_ite (completes_next _) ?_
      split <;> exact completes_next _
    | answerRead => exact completes_ite (completes_next _) (completes_next _)
    | frameTimerExpiry n => exact completes_ite (completes_next _) (completes_next _)
    | buildComplete =>
      change Completes (execBuildComplete s)
      unfold execBuildComplete
      split <;> exact completes_next _
    | scanStart => exact completes_ite (completes_next _) (completes_next _)
    | substituteScanStart => exact completes_ite (completes_next _) (completes_next _)
    | transferComplete =>
      change Completes (execTransferComplete s)
      unfold execTransferComplete
      split <;> exact completes_next _
    | fillJobComplete =>
      change Completes (execFillJobComplete s)
      unfold execFillJobComplete
      split
      · exact completes_ite (completes_next _) (completes_next _)
      · exact completes_next _
    | intervalTimerExpiry =>
      change Completes (execIntervalTimerExpiry s)
      unfold execIntervalTimerExpiry
      split <;> exact completes_next _
    | measurementComplete edges =>
      change Completes (execMeasurementComplete edges s)
      unfold execMeasurementComplete
      split <;> exact completes_next _
    | prepareTimerExpiry => exact completes_ite (completes_next _) (completes_next _)
    | zoneFaultRise z => exact completes_ite (completes_next _) (completes_ite (completes_next _) (completes_next _))
    | zoneFaultFall z => exact completes_ite (completes_ite (completes_next _) (completes_next _)) (completes_next _)
    | idleTimerExpiry z => exact completes_ite (completes_next _) (completes_next _)
    | resetnRelease strap => exact completes_ite (completes_next _) (completes_next _)
    | drstnAssert => exact completes_ite (completes_next _) (completes_ite (completes_next _) (completes_next _))
    | drstnRelease => exact completes_ite (completes_ite (completes_next _) (completes_next _)) (completes_next _)
    | _ => exact absurd (by decide) hd

/-- The queue of commands is beyond every effect. -/
theorem Does.pending {c : Instr} {s t : State} (h : Does c s t) : t.pending = s.pending := by
  rcases h with h | h
  · cases h with
    | port h =>
      obtain ⟨p, u, n, rfl⟩ := h.writes
      rfl
    | link h =>
      obtain ⟨l, f, hd, p, rfl⟩ := h.writes
      rfl
    | zone h =>
      obtain ⟨q, line, rfl⟩ := h.writes
      rfl
    | frame h =>
      obtain ⟨r, rfl⟩ := h.writes
      rfl
    | record h =>
      obtain ⟨b, rfl⟩ := h.writes
      rfl
    | engine h => exact congrArg Beyond.pending h.beyond
    | transition h =>
      obtain ⟨q, rfl⟩ := h.writes
      rfl
    | sampler h =>
      obtain ⟨q, rfl, -⟩ := h.writes
      rfl
    | reset h =>
      cases h with
      | restarted =>
        obtain ⟨flags, phase, claims, slots, h⟩ := claimRestore_writes s.restartBlocks
        rw [h]
        rfl
      | held | level | awake => rfl
  · cases h <;> rfl

theorem exec_pending {c : Instr} {s t : State} (h : exec c s = .next t) : t.pending = s.pending :=
  (exec_settles h).chain.keeps (law := fun u => u.pending = s.pending) (fun _ _ h hs => h.pending.trans hs) rfl

/-- Settles O2: no arm refuses, and no effect writes the queue. -/
theorem everyCommandCompletes : Obligations.EveryCommandCompletes := fun c s => by
  obtain ⟨t, h⟩ := exec_completes c s
  exact ⟨t, h, exec_pending h⟩

/-! ## REQUEST -/

theorem occupied_eq_false (p : Port) : p.occupied = false ↔ p.request = none ∧ p.response = none := by
  simp [Port.occupied]

/-- A frame that carries a known code and all its parameters (R180). -/
theorem checkFrame_held {code : Byte} {params extra : List Byte} (hcode : code ∈ requestCodes)
    (hlength : params.length ≤ 60) :
    checkFrame (code :: byteOf params.length :: (params ++ extra)) = .inl { code, params } := by
  have hbyte : (byteOf params.length).toNat = params.length := by
    simp only [byteOf, BitVec.toNat_ofNat]
    omega
  have hcheck : code ∈ requestCodes ∧ (byteOf params.length).toNat ≤ 60
      ∧ (byteOf params.length).toNat ≤ (params ++ extra).length := by
    rw [hbyte, List.length_append]
    exact ⟨hcode, hlength, Nat.le_add_right _ _⟩
  rw [checkFrame, if_pos hcheck, hbyte, List.take_left]

/-- Any other frame with a length byte echoes its code (R180). -/
theorem checkFrame_bad {code len : Byte} {ps : List Byte}
    (h : code ∉ requestCodes ∨ 60 < len.toNat ∨ ps.length < len.toNat) :
    checkFrame (code :: len :: ps) = .inr (some code) := by
  rw [checkFrame, if_neg]
  rintro ⟨hcode, hlen, hps⟩
  rcases h with h | h | h
  · exact h hcode
  · omega
  · omega

/-- A REQUEST that finds the port free is what its frame makes of it (R180). -/
theorem exec_request_free {s : State} (hin : s.inReset = false) (hrequest : s.port.request = none)
    (hresponse : s.port.response = none) (frame : List Byte) : exec (.request frame) s =
      match checkFrame frame with
      | .inl r => .next (s.returnZeros.updPort fun p => { p with request := some r })
      | .inr code => .next (s.returnZeros.answerBadRequest code) := by
  change execRequest frame s = _
  rw [execRequest, hin, (occupied_eq_false _).mpr ⟨hrequest, hresponse⟩]
  rfl

theorem exec_request_held {s : State} {code : Byte} {params extra : List Byte} (hin : s.inReset = false)
    (hrequest : s.port.request = none) (hresponse : s.port.response = none) (hcode : code ∈ requestCodes)
    (hlength : params.length ≤ 60) :
    exec (.request (code :: byteOf params.length :: (params ++ extra))) s =
      .next { s with port := { s.port with request := some { code, params }, returned := .zeros } } := by
  rw [exec_request_free hin hrequest hresponse, checkFrame_held hcode hlength]
  rfl

theorem exec_request_overrun {s : State} (frame : List Byte) (hin : s.inReset = false)
    (hoccupied : s.port.request ≠ none ∨ s.port.response ≠ none) : exec (.request frame) s =
      .next { s with port := { s.port with
        overrun := true, returned := .zeros, flags := s.port.flags ||| EventFlag.portOverrun.bit } } := by
  have hfull : s.port.occupied = true := by
    rw [← Bool.not_eq_false, occupied_eq_false, not_and_or]
    exact hoccupied
  change execRequest frame s = _
  rw [execRequest, hin, hfull, setFlag_eq]
  · rfl
  · exact hin

theorem exec_request_inReset {s : State} (frame : List Byte) (hin : s.inReset = true) :
    exec (.request frame) s = .next { s with port := { s.port with returned := .zeros } } := by
  change execRequest frame s = _
  rw [execRequest, hin]
  rfl

theorem exec_request_bad {s : State} {frame : List Byte} {code : Byte} (hin : s.inReset = false)
    (hrequest : s.port.request = none) (hresponse : s.port.response = none) (h : checkFrame frame = .inr (some code)) :
    exec (.request frame) s = .next { s with port := { s.port with
      response := some { code, result := .badRequest, data := .empty }, returned := .zeros } } := by
  rw [exec_request_free hin hrequest hresponse, h]
  rfl

/-- Settles O3: the port's own check of the frame decides. -/
theorem requestTransaction : Obligations.RequestTransaction := by
  refine ⟨fun s => ⟨fun code params extra hin hrequest hresponse hcode hlength => ?_, fun frame hin hoccupied => ?_,
    fun frame hin => ?_⟩, fun s hin hrequest hresponse => ⟨fun code len ps h => ?_, fun code => ?_, ?_⟩⟩
  · exact exec_request_held hin hrequest hresponse hcode hlength
  · exact exec_request_overrun frame hin hoccupied
  · exact exec_request_inReset frame hin
  · exact exec_request_bad hin hrequest hresponse (checkFrame_bad h)
  · exact exec_request_bad hin hrequest hresponse rfl
  · exact ⟨Config.missingCodeEcho s.freeCount, exec_request_free hin hrequest hresponse []⟩

/-! ## RESPONSE, STATUS and what a transaction leaves in the queue -/

/-- The four bits of the port status byte (R181, R186). -/
theorem statusByte_bits (a b c d : Bool) :
    let status := bitByte a 0 ||| bitByte b 1 ||| bitByte c 2 ||| bitByte d 3
    status.getLsbD 0 = a ∧ status.getLsbD 1 = b ∧ status.getLsbD 2 = c ∧ status.getLsbD 3 = d ∧ status.toNat < 16 := by
  revert a b c d
  decide

theorem portTransaction_abandoned (s : State) (early late : List Instr) (bytes : List Byte)
    (h : Instr.resetnAssert ∈ early ++ late ∨ Instr.drstnAssert ∈ early ++ late) :
    s.portTransaction early late bytes = { s with pending := s.pending ++ (early ++ late) } := by
  unfold State.portTransaction
  split
  · exact transaction_abandoned early late _ s h
  · rw [transaction_abandoned (early ++ late) [] _ s (by rwa [List.append_nil]), List.append_nil]

theorem portTransaction_silent (s : State) (early late : List Instr) (bytes : List Byte)
    (h : transactionCommand bytes = none) :
    s.portTransaction early late bytes = { s with pending := s.pending ++ (early ++ late) } := by
  unfold State.portTransaction
  rw [h]
  exact (transaction_silent (early ++ late) [] s).trans (by rw [List.append_nil])

theorem fixedByFirstByte_iff (c : Instr) : c.fixedByFirstByte = true ↔ c = .response ∨ c = .status := by
  cases c <;> simp [Instr.fixedByFirstByte]

theorem portTransaction_ends (s : State) {early late : List Instr} {bytes : List Byte} {c : Instr}
    (h1 : Instr.resetnAssert ∉ early ++ late) (h2 : Instr.drstnAssert ∉ early ++ late)
    (hc : transactionCommand bytes = some c) : s.portTransaction early late bytes =
      if c.fixedByFirstByte then { s with pending := s.pending ++ early ++ [c] ++ late }
      else { s with pending := s.pending ++ (early ++ late) ++ [c] } := by
  unfold State.portTransaction
  rw [hc, Option.any_some]
  split
  · exact transaction_ends early late (some c) s h1 h2
  · rw [transaction_ends (early ++ late) [] (some c) s (by rwa [List.append_nil]) (by rwa [List.append_nil]),
      List.append_nil]
    rfl

/-- Settles O4: each transaction by the state of its buffer, and its command at the moment that fixes it. -/
theorem portTransactions : Obligations.PortTransactions := by
  intro s
  refine ⟨fun r hin hr => ?_, fun hin hr => ?_, fun hin => ?_, rfl, fun hin => ⟨?_, ?_⟩, fun k => ⟨rfl, fun _ _ => rfl,
    fun _ => ⟨rfl, rfl, rfl⟩⟩, fun sent => ⟨rfl, fun hsent => ?_, fun kind => transactionCommand_other kind sent⟩, rfl,
    rfl, rfl, fun early late bytes => ⟨fun h => ?_, fun h1 h2 => ⟨fun h => ?_, fun c hc => ?_⟩⟩⟩
  · change execResponse s = _
    rw [execResponse, hin, hr]
    rfl
  · change execResponse s = _
    rw [execResponse, hin, hr]
    rfl
  · refine ⟨s.portStatus, ?_, statusByte_bits _ _ _ _⟩
    change execStatus s = _
    rw [execStatus, hin]
    rfl
  · change execResponse s = _
    rw [execResponse, hin]
    rfl
  · change execStatus s = _
    rw [execStatus, hin]
    rfl
  · cases sent with
    | nil => exact absurd rfl hsent
    | cons b rest => exact ⟨rfl, rfl⟩
  · exact portTransaction_abandoned s early late bytes h
  · exact portTransaction_silent s early late bytes h
  · rw [portTransaction_ends s h1 h2 hc]
    refine ⟨fun hfixed => if_pos ((fixedByFirstByte_iff c).mpr hfixed), fun hresponse hstatus => if_neg fun hfixed => ?_⟩
    exact ((fixedByFirstByte_iff c).mp hfixed).elim hresponse hstatus

/-! ## Decisions -/

/-- The decisions of the requests without parameters (R186). -/
theorem parameterless_decide : ∀ p ∈ [((0x01 : Byte), Instr.statusRead), (0x11, .geometryRead), (0x14, .keepoutRead),
      (0x26, .regionList), (0x30, .commit), (0x41, .streamRead), (0x44, .fillRead), (0x51, .postureRead),
      (0x60, .layoutReady), (0x62, .layoutUnpin), (0x63, .transitionAbort), (0x65, .transitionRead), (0x74, .zoneRead)],
    ∃ d, ∀ s, exec p.2 s = decideRequest p.1 (withoutParams d) s := by
  simp only [List.forall_mem_cons, List.not_mem_nil, false_imp_iff, implies_true, and_true]
  exact ⟨⟨_, fun _ => rfl⟩, ⟨_, fun _ => rfl⟩, ⟨_, fun _ => rfl⟩, ⟨_, fun _ => rfl⟩, ⟨_, fun _ => rfl⟩,
    ⟨_, fun _ => rfl⟩, ⟨_, fun _ => rfl⟩, ⟨_, fun _ => rfl⟩, ⟨_, fun _ => rfl⟩, ⟨_, fun _ => rfl⟩, ⟨_, fun _ => rfl⟩,
    ⟨_, fun _ => rfl⟩, ⟨_, fun _ => rfl⟩⟩

/-- A request that is not held is not decided (log entries 3 and 4). -/
theorem decideRequest_else {code : Byte} {d : List Byte → State → Decision} {s : State}
    (h : ∀ ps, ¬ s.Holds code ps) : decideRequest code d s = .next s := by
  cases hr : s.port.request with
  | none => exact decideRequest_none code d s hr
  | some r =>
    have hne : r.code ≠ code := fun e => h r.params (by rw [State.Holds, hr, ← e])
    rw [decideRequest, hr]
    exact if_neg hne

/-- Settles O5: each of these commands decides the held request with its own code. -/
theorem decisionsAnswer : Obligations.DecisionsAnswer := by
  refine ⟨⟨rfl, fun p hp s => ?_⟩, fun p hp s b params h => ?_⟩
  · obtain ⟨d, hdecides⟩ := decisionCommands_decide p hp
    rw [hdecides]
    exact ⟨fun ps h => ⟨_, _, decided h rfl, rfl, rfl, rfl⟩, decideRequest_else⟩
  · obtain ⟨d, hdecides⟩ := parameterless_decide p hp
    rw [hdecides]
    exact decided h rfl

end Sys2Proof.Machine

/-! CLAIM. The read requests and the requests of the geometry and keep-out store: what each of them answers and what it
changes (R3 to R6, R11 to R15, R41, R91, R108, R121, R149, R163, R184). -/

namespace Sys2Proof.Machine

/-! ## The answers of a decision -/

theorem decided_refused {code : Byte} {d : List Byte → State → Decision} {s : State} {ps : List Byte} {r : Result}
    (h : s.Holds code ps) (hx : d ps s = refused r s) : decideRequest code d s = .next (s.responds code r .empty) :=
  decided h hx

theorem decided_answered {code : Byte} {d : List Byte → State → Decision} {s t : State} {ps : List Byte}
    (h : s.Holds code ps) (hx : d ps s = answered t) : decideRequest code d s = .next (t.responds code .ok .empty) :=
  decided h hx

theorem decided_taken {code : Byte} {d : List Byte → State → Decision} {s t : State} {ps : List Byte}
    (h : s.Holds code ps) (hx : d ps s = taken t) :
    decideRequest code d s = .next (t.finish.responds code .ok .empty) := decided h hx

theorem decided_reported {code : Byte} {d : List Byte → State → Decision} {s t : State} {ps : List Byte} {data : Data}
    (h : s.Holds code ps) (hx : d ps s = reported data t) :
    decideRequest code d s = .next (t.responds code .ok data) := decided h hx

/-! ## Read requests -/

theorem statusRead_answers {s : State} (h : s.Holds 0x01 []) :
    exec .statusRead s = .next (s.responds 0x01 .ok (.status s.statusReport)) := decided h rfl

theorem postureRead_answers {s : State} (h : s.Holds 0x51 []) :
    exec .postureRead s = .next (s.responds 0x51 .ok (.posture s.postureReport)) := decided h rfl

/-- Settles O7: each report is the state's own. -/
theorem readRequests : Obligations.ReadRequests := by
  refine fun s => ⟨fun h => ?_, fun h => decided h rfl, fun h => decided h rfl, fun h => decided h rfl,
    fun h => decided h rfl, fun h => ?_⟩
  · rw [statusRead_answers h]
    unfold State.statusReport
    cases s.engine.phase <;> rfl
  · rw [postureRead_answers h]
    unfold State.postureReport
    cases s.sampler.posture <;> rfl

/-- The Position given for a job lies on the panel, and is the job's own where that does (R108). -/
theorem reportPosition_spec (free : Nat) (j : Job) : j.reportPosition free < 14336 ∧
    (j.position < 14336 → j.reportPosition free = j.position) := by
  unfold Job.reportPosition
  split
  next h => exact ⟨h, fun _ => rfl⟩
  next h => exact ⟨Nat.mod_lt _ (by decide), fun h' => absurd h' h⟩

theorem fillRead_answers {s : State} (h : s.Holds 0x44 []) : exec .fillRead s =
    .next ({ s with freeCount := s.freeCount + 1 }.responds 0x44 .ok (.fill s.fillReport)) := decided h rfl

/-- The time left on the Prepare timer is at most its window, and never 0 while it runs (R149). -/
theorem prepareLeft_running {q : Transition} {window : Nat} (h : q.prepareTimer = some window) (free : Nat) :
    2 * q.prepareLeft free ≤ window ∧ (2 ≤ window → 1 ≤ q.prepareLeft free) := by
  rw [Transition.prepareLeft, h]
  dsimp only
  omega

theorem prepareLeft_stopped {q : Transition} (h : q.prepareTimer = none) (free : Nat) : q.prepareLeft free = 0 := by
  rw [Transition.prepareLeft, h]

/-- The counter of the free values from which ZONE READ takes a zone's time left (R163). -/
def idleFree (n : Nat) : Zone → Nat
  | .rear => n
  | .spine => n + 1
  | .front => n + 2

/-- The time left that ZONE READ gives for a zone (R163). -/
def State.idleLeft (s : State) (z : Zone) : Option Nat := (s.zoneReport z (idleFree s.freeCount z)).idleLeft

theorem idleLeft_eq (s : State) (z : Zone) : s.idleLeft z =
    (s.zoneState z).idleTimer.map fun limit => min (max 1 (Config.idleTimeLeft (idleFree s.freeCount z))) limit := rfl

/-- The time left on an idle timer is at most its limit, and never 0 while it runs (R163). -/
theorem idleLeft_running {s : State} {z : Zone} {n limit : Nat} (hleft : s.idleLeft z = some n)
    (htimer : (s.zoneState z).idleTimer = some limit) : n ≤ limit ∧ (1 ≤ limit → 1 ≤ n) := by
  rw [idleLeft_eq, htimer, Option.map_some, Option.some_inj] at hleft
  omega

/-- Settles O8: the free values of a report are bounded where they are used. -/
theorem timedReadRequests : Obligations.TimedReadRequests := by
  refine fun s => ⟨fun h => ⟨s.fill.job.map fun j =>
      (j.key, tileCol (j.reportPosition s.freeCount), tileRow (j.reportPosition s.freeCount)), ?_, fun hjob => ?_, fun j hjob => ?_⟩, fun h => ⟨s.transition.prepareLeft s.freeCount,
    decided h rfl, fun htimer => prepareLeft_stopped htimer _, fun window htimer => prepareLeft_running htimer _⟩,
    fun h => ⟨s.idleLeft, fun z => ?_, fun z n limit => idleLeft_running, ?_⟩⟩
  · rw [fillRead_answers h]
    unfold State.fillReport
    cases s.link.flight with
    | none => rfl
    | some f => cases f <;> rfl
  · rw [hjob, Option.map_none]
  · obtain ⟨hpanel, hposition⟩ := reportPosition_spec s.freeCount j
    refine ⟨tileCol (j.reportPosition s.freeCount), tileRow (j.reportPosition s.freeCount), by rw [hjob]; rfl, ?_, ?_,
      fun hp => ?_⟩
    · exact Nat.mod_lt _ (by decide)
    · exact Nat.div_lt_of_lt_mul hpanel
    · rw [← hposition hp]
      exact (Nat.div_add_mod _ 128).symm
  · rw [idleLeft_eq, Option.isSome_map]
  · exact decided h rfl

/-! ## GEOMETRY SET -/

theorem geometrySet_bad {ps : List Byte} (h : geometryParams ps = none) (s : State) :
    geometrySet ps s = refused .badParam s := by
  rw [geometrySet, h]

theorem geometrySet_good {ps : List Byte} {g : Geometry} (h : geometryParams ps = some g) (s : State) :
    geometrySet ps s = if s.geometryLock then refused .locked s
      else if g = s.geometry then answered s
      else taken (s.changeGeometry g) := by
  rw [geometrySet, h]

theorem geometryParams_pair {a b : Byte} (h : 40 ≤ a.toNat ∧ a.toNat ≤ 80 ∧ 4 ≤ b.toNat ∧ b.toNat ≤ 16) :
    geometryParams [a, b] = some { spineStart := a.toNat, spineWidth := b.toNat } :=
  if_pos (decide_eq_true h)

theorem geometryParams_eq_none {ps : List Byte}
    (h : ∀ a b : Byte, ps = [a, b] → ¬ (40 ≤ a.toNat ∧ a.toNat ≤ 80 ∧ 4 ≤ b.toNat ∧ b.toNat ≤ 16)) :
    geometryParams ps = none := by
  unfold geometryParams
  split
  next a b => exact if_neg (by simpa [Geometry.inRange] using h a b rfl)
  · rfl

/-- The geometry taken, and all the messages placed (R5). -/
theorem changeGeometry_eq (s : State) (g : Geometry) (h : s.inReset = false) : s.changeGeometry g =
    { s with
      geometry := g
      link := { s.link with slots := { rear := some (s.zoneState .rear).wanted, spine := some (s.zoneState .spine).wanted,
                                       front := some (s.zoneState .front).wanted } } }.queueJob .background := by
  have hset : State.inReset { s with geometry := g } = false := h
  rw [State.changeGeometry, placeAllMessages_eq _ hset]
  rfl

theorem claims_wait_iff (c : Claims) : c.waits = true ↔ c.restore = true ∨ c.target ≠ none ∨ c.commitLatch = true := by
  simp [Claims.waits, Option.isSome_iff_ne_none, or_assoc]

/-- The Geometry Lock by its reasons (R4). -/
theorem geometryLock_iff (s : State) : s.geometryLock = true ↔
    (∃ i : Slot, (s.record i).lifecycle = .staged ∨ (s.record i).lifecycle = .inService)
    ∨ (∃ b, s.engine.phase = .building b) ∨ (∃ b m, s.engine.phase = .ready b m)
    ∨ s.engine.claims.restore = true ∨ s.engine.claims.target ≠ none ∨ s.engine.claims.commitLatch = true := by
  rw [← claims_wait_iff, State.geometryLock]
  cases s.engine.phase <;> simp [slotList]

/-- Settles O9: the values are tested, then the lock, then whether they are new. -/
theorem GeometryStore.geometrySet : Obligations.GeometrySet := by
  refine ⟨fun s hreset => ⟨fun a b h ha ha' hb hb' => ?_, fun ps h hbad => ?_⟩, geometryLock_iff⟩
  · have hparams := geometryParams_pair ⟨ha, ha', hb, hb'⟩
    refine ⟨fun hlock => ?_, fun hlock hstart hwidth => ?_, fun hlock hnew => ?_⟩
    · exact decided_refused h ((geometrySet_good hparams s).trans (if_pos hlock))
    · refine decided_answered h ((geometrySet_good hparams s).trans ?_)
      rw [if_neg (Bool.eq_false_iff.mp hlock), if_pos (by rw [hstart, hwidth])]
    · have hother : ({ spineStart := a.toNat, spineWidth := b.toNat } : Geometry) ≠ s.geometry := by
        rintro he
        rw [← he] at hnew
        exact hnew.elim (absurd rfl) (absurd rfl)
      refine decided_taken h ((geometrySet_good hparams s).trans ?_)
      rw [if_neg (Bool.eq_false_iff.mp hlock), if_neg hother, changeGeometry_eq _ _ hreset]
  · exact decided_refused h (geometrySet_bad (geometryParams_eq_none hbad) s)

/-! ## KEEPOUT SET -/

theorem keepoutSet_bad {ps : List Byte} (h : keepOutSetParams ps = none) (s : State) :
    keepoutSet ps s = refused .badParam s := by
  rw [keepoutSet, h]

theorem keepoutSet_good {ps : List Byte} {i : Fin 8} {k : KeepOut} (h : keepOutSetParams ps = some (i, k)) (s : State) :
    keepoutSet ps s = if s.geometryLock then refused .locked s
      else if s.keepOuts[i] = some k then answered s
      else taken (s.changeKeepOut i k) := by
  rw [keepoutSet, h]

/-- The Kind byte of a keep-out entry (R186). -/
def KeepOutKind.byte : KeepOutKind → Byte
  | .hole => 0x01
  | .bend => 0x02

@[simp] theorem keepOutKindField_byte (kind : KeepOutKind) : keepOutKindField kind.byte = some kind := by
  cases kind <;> rfl

theorem keepOutKindField_eq_none {k : Byte} (h : ¬ (k = 0x01 ∨ k = 0x02)) : keepOutKindField k = none := by
  obtain ⟨hhole, hbend⟩ := not_or.mp h
  exact (if_neg hhole).trans (if_neg hbend)

theorem onPanel_iff (r : Rect) : r.onPanel = true ↔
    r.baseCol ≤ r.limitCol ∧ r.limitCol ≤ 127 ∧ r.baseRow ≤ r.limitRow ∧ r.limitRow ≤ 111 := by
  rw [Rect.onPanel, decide_eq_true_eq, Config.tileColumns, Config.tileRows]
  omega

theorem keepOutSetParams_six {i bc br lc lr : Byte} {n : Fin 8} (kind : KeepOutKind) (hi : i.toNat = n.val)
    (h : bc.toNat ≤ lc.toNat ∧ lc.toNat ≤ 127 ∧ br.toNat ≤ lr.toNat ∧ lr.toNat ≤ 111) :
    keepOutSetParams [i, kind.byte, bc, br, lc, lr] = some (n, { kind, rect :=
      { baseCol := bc.toNat, baseRow := br.toNat, limitCol := lc.toNat, limitRow := lr.toNat } }) := by
  have hlt : i.toNat < 8 := hi ▸ n.isLt
  have hn : (⟨i.toNat, hlt⟩ : Fin 8) = n := Fin.ext hi
  rw [keepOutSetParams, dif_pos hlt, keepOutKindField_byte, Option.bind_some, hn]
  exact if_pos ((onPanel_iff _).mpr h)

theorem keepOutSetParams_eq_none {ps : List Byte} (h : ∀ i k bc br lc lr : Byte, ps = [i, k, bc, br, lc, lr] →
      ¬ (i.toNat < 8 ∧ (k = 0x01 ∨ k = 0x02) ∧ bc.toNat ≤ lc.toNat ∧ lc.toNat ≤ 127 ∧ br.toNat ≤ lr.toNat
        ∧ lr.toNat ≤ 111)) : keepOutSetParams ps = none := by
  unfold keepOutSetParams
  split
  next i k bc br lc lr =>
    split
    next hi =>
      by_cases hk : k = 0x01 ∨ k = 0x02
      · refine Option.bind_eq_none_iff.mpr fun kind _ => if_neg fun hpanel => ?_
        exact h i k bc br lc lr rfl ⟨hi, hk, (onPanel_iff _).mp hpanel⟩
      · rw [keepOutKindField_eq_none hk, Option.bind_none]
    · rfl
  · rfl

theorem changeKeepOut_eq (s : State) (n : Fin 8) (k : KeepOut) : s.changeKeepOut n k =
    let t := { s with keepOuts := s.keepOuts.set n (some k) }
    let u := if s.keepOuts[n] = none then t else t.queueJob .background
    if k.kind = .bend ∧ s.sampler.bendApplied = true then u.queueJob .bend else u := by
  unfold State.changeKeepOut
  cases hn : s.keepOuts[n] <;> simp [Vec.modify, -Fin.getElem_fin]

/-! ## KEEPOUT CLEAR -/

theorem keepoutClear_bad {ps : List Byte} (h : keepOutClearParams ps = none) (s : State) :
    keepoutClear ps s = refused .badParam s := by
  rw [keepoutClear, h]

theorem keepoutClear_good {ps : List Byte} {which : Option (Fin 8)} (h : keepOutClearParams ps = some which)
    (s : State) : keepoutClear ps s = if s.geometryLock then refused .locked s
      else if s.clearsPresent which then taken ((s.clearKeepOuts which).queueJob .background)
      else answered (s.clearKeepOuts which) := by
  rw [keepoutClear, h]

/-- The index byte that names an entry, or all of them (R14). -/
theorem keepOutClearParams_names {i : Byte} {names : Fin 8 → Bool}
    (h : (∃ n : Fin 8, i.toNat = n.val ∧ ∀ m, names m = decide (m = n)) ∨ (i = 0xFF ∧ ∀ m, names m = true)) :
    ∃ which, keepOutClearParams [i] = some which ∧ clearsEntry which = names := by
  rcases h with ⟨n, hi, hnames⟩ | ⟨rfl, hnames⟩
  · have hlt : i.toNat < 8 := hi ▸ n.isLt
    have hn : (⟨i.toNat, hlt⟩ : Fin 8) = n := Fin.ext hi
    refine ⟨some n, ?_, funext fun m => (hnames m).symm⟩
    rw [keepOutClearParams, dif_pos hlt, hn]
  · exact ⟨none, rfl, funext fun m => (hnames m).symm⟩

theorem keepOutClearParams_eq_none {ps : List Byte} (h : ∀ i : Byte, ps = [i] → ¬ (i.toNat < 8 ∨ i = 0xFF)) :
    keepOutClearParams ps = none := by
  unfold keepOutClearParams
  split
  next i =>
    obtain ⟨hlt, hall⟩ := not_or.mp (h i rfl)
    rw [dif_neg hlt]
    exact if_neg hall
  · rfl

theorem clearsPresent_iff (s : State) (which : Option (Fin 8)) :
    s.clearsPresent which = true ↔ ∃ n, clearsEntry which n = true ∧ s.keepOuts[n] ≠ none := by
  simp [State.clearsPresent, Option.isSome_iff_ne_none, -Fin.getElem_fin]

/-! ## Kept-out tiles -/

theorem mem_presentKeepOuts {ks : Vector (Option KeepOut) 8} {k : KeepOut} :
    k ∈ presentKeepOuts ks ↔ ∃ n : Fin 8, ks[n] = some k := by
  simp only [presentKeepOuts, List.mem_filterMap, id_eq, exists_eq_right, Vector.mem_toList_iff, Vector.mem_iff_getElem]
  exact ⟨fun ⟨n, hn, h⟩ => ⟨⟨n, hn⟩, h⟩, fun ⟨n, h⟩ => ⟨n, n.isLt, h⟩⟩

/-- An entry of a kind covers the column and the row of a tile (R12). -/
def CoveredBy (ks : Vector (Option KeepOut) 8) (t : Nat) (kind : KeepOutKind) : Prop :=
  ∃ (n : Fin 8) (k : KeepOut), ks[n] = some k ∧ k.kind = kind ∧ k.rect.baseCol ≤ t % 128 ∧ t % 128 ≤ k.rect.limitCol
    ∧ k.rect.baseRow ≤ t / 128 ∧ t / 128 ≤ k.rect.limitRow

theorem coveredBy_iff (ks : Vector (Option KeepOut) 8) (t : Nat) (kind : KeepOutKind) :
    CoveredBy ks t kind ↔ ∃ k ∈ presentKeepOuts ks, k.kind = kind ∧ k.covers t = true := by
  simp only [mem_presentKeepOuts, KeepOut.covers, Rect.contains, decide_eq_true_eq]
  exact ⟨fun ⟨n, k, hk, h⟩ => ⟨k, ⟨n, hk⟩, h⟩, fun ⟨k, ⟨n, hk⟩, h⟩ => ⟨n, k, hk, h⟩⟩

theorem heldByHole_iff (ks : Vector (Option KeepOut) 8) (t : Nat) :
    heldByHole ks t = true ↔ CoveredBy ks t .hole := by
  simp [heldByHole, coveredBy_iff]

theorem coveredByBend_iff (ks : Vector (Option KeepOut) 8) (t : Nat) :
    coveredByBend ks t = true ↔ CoveredBy ks t .bend := by
  simp [coveredByBend, coveredBy_iff]

/-- A HOLE entry is always applied, a BEND entry while BEND Applied is set (R12). -/
theorem applied_iff (bend : Bool) (k : KeepOut) :
    k.applied bend = true ↔ k.kind = .hole ∨ (bend = true ∧ k.kind = .bend) := by
  unfold KeepOut.applied
  cases hk : k.kind <;> simp

theorem keptOut_iff (ks : Vector (Option KeepOut) 8) (bend : Bool) (t : Nat) :
    keptOut ks bend t = true ↔ CoveredBy ks t .hole ∨ (bend = true ∧ CoveredBy ks t .bend) := by
  simp only [keptOut, List.any_eq_true, Bool.and_eq_true, applied_iff, coveredBy_iff]
  constructor
  · rintro ⟨k, hk, hkind | ⟨hbend, hkind⟩, hcovers⟩
    · exact .inl ⟨k, hk, hkind, hcovers⟩
    · exact .inr ⟨hbend, k, hk, hkind, hcovers⟩
  · rintro (⟨k, hk, hkind, hcovers⟩ | ⟨hbend, k, hk, hkind, hcovers⟩)
    · exact ⟨k, hk, .inl hkind, hcovers⟩
    · exact ⟨k, hk, .inr ⟨hbend, hkind⟩, hcovers⟩

theorem keepoutSet_cases (s : State) {i bc br lc lr : Byte} {n : Fin 8} (kind : KeepOutKind)
    (h : s.Holds 0x12 [i, kind.byte, bc, br, lc, lr]) (hi : i.toNat = n.val)
    (hrect : bc.toNat ≤ lc.toNat ∧ lc.toNat ≤ 127 ∧ br.toNat ≤ lr.toNat ∧ lr.toNat ≤ 111) :
    let entry : KeepOut :=
      { kind, rect := { baseCol := bc.toNat, baseRow := br.toNat, limitCol := lc.toNat, limitRow := lr.toNat } }
    (s.geometryLock = true → exec .keepoutSet s = .next (s.responds 0x12 .locked .empty))
    ∧ (s.geometryLock = false → s.keepOuts[n] = some entry →
      exec .keepoutSet s = .next (s.responds 0x12 .ok .empty))
    ∧ (s.geometryLock = false → s.keepOuts[n] ≠ some entry →
      exec .keepoutSet s = .next ((s.changeKeepOut n entry).finish.responds 0x12 .ok .empty)) := by
  have hgood := keepoutSet_good (keepOutSetParams_six kind hi hrect) s
  refine ⟨fun hlock => ?_, fun hlock hsame => ?_, fun hlock hnew => ?_⟩
  · exact decided_refused h (hgood.trans (if_pos hlock))
  · refine decided_answered h (hgood.trans ?_)
    rw [if_neg (Bool.eq_false_iff.mp hlock), if_pos hsame]
  · refine decided_taken h (hgood.trans ?_)
    rw [if_neg (Bool.eq_false_iff.mp hlock), if_neg hnew]

/-- Settles O10: the parameters are tested, then the lock, then the entries. -/
theorem keepOutRequests : Obligations.KeepOutRequests := by
  refine ⟨fun s => ⟨fun i k bc br lc lr n kind h hi hk hcols hcol hrows hrow => ?_, fun ps h hbad => ?_⟩,
    fun s => ⟨fun i names h hnames => ?_, fun ps h hbad => ?_, fun bend t => ⟨heldByHole_iff _ _, coveredByBend_iff _ _,
      keptOut_iff _ _ _⟩⟩⟩
  · obtain rfl : k = kind.byte := by
      rw [hk]
      cases kind <;> rfl
    have hcases := keepoutSet_cases s kind h hi ⟨hcols, hcol, hrows, hrow⟩
    dsimp only at hcases
    rw [changeKeepOut_eq] at hcases
    exact hcases
  · exact decided_refused h (keepoutSet_bad (keepOutSetParams_eq_none hbad) s)
  · obtain ⟨which, hwhich, rfl⟩ := keepOutClearParams_names hnames
    have hgood := keepoutClear_good hwhich s
    refine ⟨fun hlock => decided_refused h (hgood.trans (if_pos hlock)), fun hlock hsome => ?_, fun hlock hnone => ?_⟩
    · refine decided_taken h (hgood.trans ?_)
      rw [if_neg (Bool.eq_false_iff.mp hlock), if_pos ((clearsPresent_iff s which).mpr hsome)]
      rfl
    · have habsent : s.clearsPresent which = false := by
        rw [← Bool.not_eq_true, clearsPresent_iff]
        rintro ⟨n, hn, hpresent⟩
        exact hpresent (hnone n hn)
      refine decided_answered h (hgood.trans ?_)
      rw [if_neg (Bool.eq_false_iff.mp hlock), if_neg (Bool.eq_false_iff.mp habsent), clearKeepOuts_absent s which habsent]
  · exact decided_refused h (keepoutClear_bad (keepOutClearParams_eq_none hbad) s)

end Sys2Proof.Machine

/-! SUPPORT. The byte forms: what each field reads is what it writes, in both directions, so that the parameters of a
request are read exactly where they are the bytes of values in their ranges (R186). -/

namespace Sys2Proof.Machine

/-! ## Bytes and words -/

theorem byteOf_toNat {n : Nat} (h : n ≤ 255) : (byteOf n).toNat = n := by
  rw [byteOf, BitVec.toNat_ofNat]
  omega

@[simp] theorem byteOf_of_toNat (b : Byte) : byteOf b.toNat = b := BitVec.ofNat_toNat _ _

theorem toNat_le_255 (b : Byte) : b.toNat ≤ 255 := Nat.le_of_lt_succ b.isLt

theorem toNat_eq_iff {b : Byte} {n : Nat} : b.toNat = n ↔ b = byteOf n ∧ n ≤ 255 := by
  constructor
  · rintro rfl
    exact ⟨(byteOf_of_toNat b).symm, toNat_le_255 b⟩
  · rintro ⟨rfl, h⟩
    exact byteOf_toNat h

theorem be16_of_bytes16 (n : BitVec 16) : be16 (n.extractLsb' 8 8) (n.extractLsb' 0 8) = n := by
  refine BitVec.eq_of_toNat_eq ?_
  simp only [be16, BitVec.toNat_append, BitVec.extractLsb'_toNat, Nat.shiftRight_zero]
  rw [← Nat.shiftLeft_add_eq_or_of_lt (Nat.mod_lt _ (by decide))]
  have := n.isLt
  simp only [Nat.shiftLeft_eq, Nat.shiftRight_eq_div_pow]
  omega

theorem bytes16_of_be16 (hi lo : Byte) : bytes16 (be16 hi lo) = [hi, lo] := by
  have hhi : (be16 hi lo).extractLsb' 8 8 = hi := BitVec.extractLsb'_append_eq_left
  have hlo : (be16 hi lo).extractLsb' 0 8 = lo := BitVec.extractLsb'_append_eq_right
  rw [bytes16, hhi, hlo]

theorem colourOf_bytes (c : Colour) : colourOf (c.extractLsb' 16 8) (c.extractLsb' 8 8) (c.extractLsb' 0 8) = c := by
  refine BitVec.eq_of_toNat_eq ?_
  simp only [colourOf, BitVec.toNat_append, BitVec.extractLsb'_toNat, Nat.shiftRight_zero]
  rw [← Nat.shiftLeft_add_eq_or_of_lt (Nat.mod_lt _ (by decide)), ← Nat.shiftLeft_add_eq_or_of_lt (Nat.mod_lt _ (by decide))]
  have := c.isLt
  simp only [Nat.shiftLeft_eq, Nat.shiftRight_eq_div_pow]
  omega

theorem bytes_colourOf (r g b : Byte) : Colour.bytes (colourOf r g b) = [r, g, b] := by
  have hr : (colourOf r g b).extractLsb' 16 8 = r := by
    refine BitVec.eq_of_toNat_eq ?_
    simp only [colourOf, BitVec.toNat_append, BitVec.extractLsb'_toNat]
    rw [← Nat.shiftLeft_add_eq_or_of_lt b.isLt, ← Nat.shiftLeft_add_eq_or_of_lt g.isLt]
    have := r.isLt
    have := g.isLt
    have := b.isLt
    simp only [Nat.shiftLeft_eq, Nat.shiftRight_eq_div_pow]
    omega
  have hg : (colourOf r g b).extractLsb' 8 8 = g := by
    refine BitVec.eq_of_toNat_eq ?_
    simp only [colourOf, BitVec.toNat_append, BitVec.extractLsb'_toNat]
    rw [← Nat.shiftLeft_add_eq_or_of_lt b.isLt, ← Nat.shiftLeft_add_eq_or_of_lt g.isLt]
    have := r.isLt
    have := g.isLt
    have := b.isLt
    simp only [Nat.shiftLeft_eq, Nat.shiftRight_eq_div_pow]
    omega
  have hb : (colourOf r g b).extractLsb' 0 8 = b := BitVec.extractLsb'_append_eq_right
  rw [Colour.bytes, hr, hg, hb]

theorem word16_eq_iff {hi lo : Byte} {n : Nat} : word16 hi lo = n ↔ [hi, lo] = twoBytes n ∧ n ≤ 65535 := by
  constructor
  · rintro rfl
    rw [word16, twoBytes, BitVec.ofNat_toNat, BitVec.setWidth_eq, bytes16_of_be16]
    exact ⟨rfl, Nat.le_of_lt_succ (be16 hi lo).isLt⟩
  · rintro ⟨hbytes, hn⟩
    rw [twoBytes, bytes16, List.cons.injEq, List.cons.injEq] at hbytes
    obtain ⟨rfl, rfl, -⟩ := hbytes
    rw [word16, be16_of_bytes16, BitVec.toNat_ofNat]
    omega

/-! ## Fields of one byte -/

theorem layoutField_iff {b : Byte} {l : Layout} : layoutField b = some l ↔ b = layoutByte l := by
  unfold layoutField
  split
  next h => cases l <;> simp [h, layoutByte]
  next h => cases l <;> simp [h, layoutByte]

theorem faceField_iff {b : Byte} {f : Face} : faceField b = some f ↔ b = faceByte (some f) := by
  unfold faceField
  split
  next h => cases f <;> simp [h, faceByte]
  next h =>
    split
    next h => cases f <;> simp [h, faceByte]
    next h =>
      split
      next h => cases f <;> simp [h, faceByte]
      next h =>
        cases f <;> simp_all [faceByte]

theorem zoneField_iff {b : Byte} {z : Zone} : zoneField b = some z ↔ b = zoneByte z := by
  unfold zoneField
  split
  next h => cases z <;> simp [h, zoneByte]
  next h =>
    split
    next h => cases z <;> simp [h, zoneByte]
    next h => cases z <;> simp_all [zoneByte]

theorem touchField_iff {b : Byte} {t : Touch} : touchField b = some t ↔ b = t.byte := by
  unfold touchField
  split
  next h => cases t <;> simp [h, Touch.byte]
  next h => cases t <;> simp [h, Touch.byte]

theorem boolField_iff {b : Byte} {x : Bool} : boolField b = some x ↔ b = boolByte x := by
  unfold boolField
  split
  next h => cases x <;> simp [h, boolByte]
  next h => cases x <;> simp [h, boolByte]

theorem staleActionField_iff {b : Byte} {a : StaleAction} : staleActionField b = some a ↔ b = a.byte := by
  unfold staleActionField
  split
  next h => cases a <;> simp [h, StaleAction.byte]
  next h => cases a <;> simp [h, StaleAction.byte]

theorem reportModeField_iff {b : Byte} {m : ReportMode} : reportModeField b = some m ↔ b = reportModeByte m := by
  unfold reportModeField
  split
  next h => cases m <;> simp [h, reportModeByte]
  next h =>
    split
    next h => cases m <;> simp [h, reportModeByte]
    next h => cases m <;> simp_all [reportModeByte]

theorem inRange_iff {lo hi n v : Nat} : inRange lo hi n = some v ↔ n = v ∧ lo ≤ v ∧ v ≤ hi := by
  unfold inRange
  split
  next h =>
    rw [Option.some_inj]
    exact ⟨fun e => ⟨e, by rwa [e] at h⟩, fun e => e.1⟩
  next h => exact iff_of_false (by simp) fun ⟨e, hv⟩ => h (e ▸ hv)

theorem prepareWindowField_iff {n v : Nat} : prepareWindowField n = some v ↔ n = v ∧ v ≤ 510 ∧ v % 2 = 0 := by
  unfold prepareWindowField
  split
  next h =>
    rw [Option.some_inj]
    exact ⟨fun e => ⟨e, by rwa [e] at h⟩, fun e => e.1⟩
  next h => exact iff_of_false (by simp) fun ⟨e, hv⟩ => h (e ▸ hv)

theorem maskField_iff : ∀ {b : Byte} {m : BitVec 3}, maskField b = some m ↔ b = m.zeroExtend 8 := by decide

/-! ## Fields that a presence bit governs -/

/-- A field reads from its bytes the value that they write, where the value passes. -/
structure FieldForm {α : Type} (size : Nat) (read : List Byte → Option α) (write : α → List Byte)
    (passes : α → Prop) : Prop where
  length_write : ∀ v, (write v).length = size
  read_iff : ∀ bs v, bs.length = size → (read bs = some v ↔ bs = write v ∧ passes v)

variable {α : Type} {passes : α → Prop}

theorem FieldForm.of_byte {read : Byte → Option α} {write : α → Byte}
    (h : ∀ b v, read b = some v ↔ b = write v ∧ passes v) : FieldForm 1 (byte1 read) (fun v => [write v]) passes where
  length_write _ := rfl
  read_iff bs v hlen := by
    obtain ⟨b, rfl⟩ := List.length_eq_one_iff.mp hlen
    rw [byte1, h, List.cons.injEq, and_iff_left rfl]

theorem FieldForm.of_word {read : Nat → Option Nat} {passes : Nat → Prop} (hle : ∀ v, passes v → v ≤ 65535)
    (h : ∀ n v, read n = some v ↔ n = v ∧ passes v) : FieldForm 2 (byte2 read) twoBytes passes where
  length_write _ := rfl
  read_iff bs v hlen := by
    obtain ⟨hi, lo, rfl⟩ := List.length_eq_two.mp hlen
    rw [byte2, h, word16_eq_iff]
    exact ⟨fun ⟨⟨hbytes, _⟩, hv⟩ => ⟨hbytes, hv⟩, fun ⟨hbytes, hv⟩ => ⟨⟨hbytes, hle v hv⟩, hv⟩⟩

theorem colourForm : FieldForm 3 byte3 Colour.bytes fun _ => True where
  length_write _ := rfl
  read_iff bs v hlen := by
    obtain ⟨r, g, b, rfl⟩ := List.length_eq_three.mp hlen
    rw [byte3, Option.some_inj, and_true]
    constructor
    · rintro rfl
      exact (bytes_colourOf r g b).symm
    · intro h
      rw [Colour.bytes, List.cons.injEq, List.cons.injEq, List.cons.injEq] at h
      obtain ⟨rfl, rfl, rfl, -⟩ := h
      exact colourOf_bytes v

/-- The field is read exactly where its presence bit says whether it is given, and its bytes stand in front (R186). -/
theorem FieldForm.optField_iff {size : Nat} {read : List Byte → Option α} {write : α → List Byte}
    (form : FieldForm size read write passes) {present : Bool} {ps rest : List Byte} {o : Option α} :
    optField present size read ps = some (o, rest) ↔
      present = o.isSome ∧ (∀ v, o = some v → passes v) ∧ ps = givenBytes write o ++ rest := by
  cases present with
  | false => cases o <;> simp [optField, givenBytes]
  | true =>
    cases o with
    | none =>
      refine iff_of_false ?_ (by simp)
      rw [optField, if_pos rfl]
      split <;> simp
    | some v =>
      constructor
      · intro h
        rw [optField, if_pos rfl] at h
        split at h
        next hsize =>
          simp only [Option.map_eq_some_iff, Prod.mk.injEq, Option.some.injEq] at h
          obtain ⟨x, hx, rfl, rfl⟩ := h
          obtain ⟨hbytes, hpasses⟩ := (form.read_iff _ x (List.length_take_of_le hsize)).mp hx
          refine ⟨rfl, fun y hy => ?_, ?_⟩
          · cases hy
            exact hpasses
          · rw [givenBytes, ← hbytes, List.take_append_drop]
        next => cases h
      · rintro ⟨-, hpasses, rfl⟩
        have hlen := form.length_write v
        have hread := (form.read_iff (write v) v hlen).mpr ⟨rfl, hpasses v rfl⟩
        rw [optField, if_pos rfl, givenBytes, if_pos (by rw [List.length_append]; omega), ← hlen, List.take_left,
          List.drop_left, hread, Option.map_some]

theorem byteForm (lo hi : Nat) (h : hi ≤ 255) :
    FieldForm 1 (byte1 fun b => inRange lo hi b.toNat) (fun n => [byteOf n]) fun n => lo ≤ n ∧ n ≤ hi :=
  .of_byte fun b v => by
    rw [inRange_iff, toNat_eq_iff]
    exact ⟨fun ⟨⟨hb, _⟩, hv⟩ => ⟨hb, hv⟩, fun ⟨hb, hv⟩ => ⟨⟨hb, hv.2.trans h⟩, hv⟩⟩

theorem anyByteForm : FieldForm 1 (byte1 fun b => some b.toNat) (fun n => [byteOf n]) fun n => n ≤ 255 :=
  .of_byte fun b v => by rw [Option.some_inj, toNat_eq_iff]

theorem wordForm (lo hi : Nat) (h : hi ≤ 65535) : FieldForm 2 (byte2 (inRange lo hi)) twoBytes fun n => lo ≤ n ∧ n ≤ hi :=
  .of_word (fun _ hv => hv.2.trans h) fun _ _ => inRange_iff

theorem windowForm : FieldForm 2 (byte2 prepareWindowField) twoBytes fun n => n ≤ 510 ∧ n % 2 = 0 :=
  .of_word (fun _ hv => hv.1.trans (by decide)) fun _ _ => prepareWindowField_iff

theorem touchForm : FieldForm 1 (byte1 touchField) (fun t => [Touch.byte t]) fun _ => True :=
  .of_byte fun _ _ => touchField_iff.trans (and_iff_left trivial).symm

theorem boolForm : FieldForm 1 (byte1 boolField) (fun b => [boolByte b]) fun _ => True :=
  .of_byte fun _ _ => boolField_iff.trans (and_iff_left trivial).symm

theorem staleActionForm : FieldForm 1 (byte1 staleActionField) (fun a => [StaleAction.byte a]) fun _ => True :=
  .of_byte fun _ _ => staleActionField_iff.trans (and_iff_left trivial).symm

theorem reportModeForm : FieldForm 1 (byte1 reportModeField) (fun m => [reportModeByte m]) fun _ => True :=
  .of_byte fun _ _ => reportModeField_iff.trans (and_iff_left trivial).symm

theorem maskForm : FieldForm 1 (byte1 maskField) (fun m : BitVec 3 => [m.zeroExtend 8]) fun _ => True :=
  .of_byte fun _ _ => maskField_iff.trans (and_iff_left trivial).symm

/-! ## Presence bytes -/

theorem presence2_iff : ∀ (p : Byte) (a b : Bool), p = (bitByte a 0 ||| bitByte b 1) ↔
    presenceOk p 2 = true ∧ p.getLsbD 0 = a ∧ p.getLsbD 1 = b := by decide

theorem presence3_iff : ∀ (p : Byte) (a b c : Bool), p = (bitByte a 0 ||| bitByte b 1 ||| bitByte c 2) ↔
    presenceOk p 3 = true ∧ p.getLsbD 0 = a ∧ p.getLsbD 1 = b ∧ p.getLsbD 2 = c := by decide

theorem presence5_bits : ∀ a b c d e : Bool,
    let p := bitByte a 0 ||| bitByte b 1 ||| bitByte c 2 ||| bitByte d 3 ||| bitByte e 4
    presenceOk p 5 = true ∧ p.getLsbD 0 = a ∧ p.getLsbD 1 = b ∧ p.getLsbD 2 = c ∧ p.getLsbD 3 = d
      ∧ p.getLsbD 4 = e := by decide

theorem presence5_eq : ∀ p : Byte, presenceOk p 5 = true → p = (bitByte (p.getLsbD 0) 0 ||| bitByte (p.getLsbD 1) 1
    ||| bitByte (p.getLsbD 2) 2 ||| bitByte (p.getLsbD 3) 3 ||| bitByte (p.getLsbD 4) 4) := by decide

theorem presence7_bits : ∀ a b c d e f g : Bool,
    let p := bitByte a 0 ||| bitByte b 1 ||| bitByte c 2 ||| bitByte d 3 ||| bitByte e 4 ||| bitByte f 5 ||| bitByte g 6
    presenceOk p 7 = true ∧ p.getLsbD 0 = a ∧ p.getLsbD 1 = b ∧ p.getLsbD 2 = c ∧ p.getLsbD 3 = d ∧ p.getLsbD 4 = e
      ∧ p.getLsbD 5 = f ∧ p.getLsbD 6 = g := by decide

theorem presence7_eq : ∀ p : Byte, presenceOk p 7 = true → p = (bitByte (p.getLsbD 0) 0 ||| bitByte (p.getLsbD 1) 1
    ||| bitByte (p.getLsbD 2) 2 ||| bitByte (p.getLsbD 3) 3 ||| bitByte (p.getLsbD 4) 4 ||| bitByte (p.getLsbD 5) 5
    ||| bitByte (p.getLsbD 6) 6) := by decide

end Sys2Proof.Machine

/-! SUPPORT. The parameters of the requests with presence bytes, of placement parts and of REGION CREATE: each is read
exactly where the bytes are those of values in their ranges (R20, R24, R186). -/

namespace Sys2Proof.Machine

/-! ## Attribute blocks -/

theorem AttributeEdit.inRange_iff (e : AttributeEdit) : e.inRange = true ↔
    (∀ n, e.ownerToken = some n → n ≤ 63) ∧ ∀ n, e.staleLimit = some n → n ≤ 255 := by
  simp [AttributeEdit.inRange, Option.all_eq_true]

theorem presenceOk_attributes (e : AttributeEdit) : presenceOk e.presence 7 = true ∧ e.presence.getLsbD 0 = e.ownerToken.isSome
    ∧ e.presence.getLsbD 1 = e.touch.isSome ∧ e.presence.getLsbD 2 = e.persist.isSome
    ∧ e.presence.getLsbD 3 = e.ephemeral.isSome ∧ e.presence.getLsbD 4 = e.staleLimit.isSome
    ∧ e.presence.getLsbD 5 = e.staleAction.isSome ∧ e.presence.getLsbD 6 = e.fallback.isSome :=
  presence7_bits _ _ _ _ _ _ _

/-- A block of attributes is read exactly where it is the bytes of attributes in their ranges (R18, R186). -/
theorem attributeBlock_iff {bs : List Byte} {e : AttributeEdit} :
    attributeBlock bs = some e ↔ e.inRange = true ∧ bs = e.bytes := by
  constructor
  · intro h
    unfold attributeBlock at h
    split at h
    · cases h
    next p ps =>
      split at h
      next hok =>
        simp only [Option.bind_eq_some_iff, Prod.exists] at h
        obtain ⟨o1, r1, h1, o2, r2, h2, o3, r3, h3, o4, r4, h4, o5, r5, h5, o6, r6, h6, o7, r7, h7, h⟩ := h
        split at h
        next hrest =>
          cases h
          obtain ⟨b1, k1, rfl⟩ := (byteForm 0 63 (by decide)).optField_iff.mp h1
          obtain ⟨b2, -, rfl⟩ := touchForm.optField_iff.mp h2
          obtain ⟨b3, -, rfl⟩ := boolForm.optField_iff.mp h3
          obtain ⟨b4, -, rfl⟩ := boolForm.optField_iff.mp h4
          obtain ⟨b5, k5, rfl⟩ := anyByteForm.optField_iff.mp h5
          obtain ⟨b6, -, rfl⟩ := staleActionForm.optField_iff.mp h6
          obtain ⟨b7, -, rfl⟩ := colourForm.optField_iff.mp h7
          refine ⟨(AttributeEdit.inRange_iff _).mpr ⟨fun n hn => (k1 n hn).2, k5⟩, ?_⟩
          have hp := presence7_eq p hok
          rw [b1, b2, b3, b4, b5, b6, b7] at hp
          rw [List.isEmpty_iff.mp hrest, AttributeEdit.bytes, List.append_nil]
          refine congrArg₂ List.cons hp ?_
          simp only [List.append_assoc]
        next => cases h
      next => cases h
  · rintro ⟨hrange, rfl⟩
    obtain ⟨hok, b1, b2, b3, b4, b5, b6, b7⟩ := presenceOk_attributes e
    obtain ⟨howner, hlimit⟩ := e.inRange_iff.mp hrange
    rw [AttributeEdit.bytes]
    simp only [List.append_assoc]
    rw [attributeBlock, if_pos hok]
    refine Option.bind_eq_some_iff.mpr ⟨(e.ownerToken, _), (byteForm 0 63 (by decide)).optField_iff.mpr
      ⟨b1, fun n hn => ⟨Nat.zero_le n, howner n hn⟩, rfl⟩, ?_⟩
    refine Option.bind_eq_some_iff.mpr ⟨(e.touch, _), touchForm.optField_iff.mpr ⟨b2, fun _ _ => trivial, rfl⟩, ?_⟩
    refine Option.bind_eq_some_iff.mpr ⟨(e.persist, _), boolForm.optField_iff.mpr ⟨b3, fun _ _ => trivial, rfl⟩, ?_⟩
    refine Option.bind_eq_some_iff.mpr ⟨(e.ephemeral, _), boolForm.optField_iff.mpr ⟨b4, fun _ _ => trivial, rfl⟩, ?_⟩
    refine Option.bind_eq_some_iff.mpr ⟨(e.staleLimit, _), anyByteForm.optField_iff.mpr ⟨b5, hlimit, rfl⟩, ?_⟩
    refine Option.bind_eq_some_iff.mpr
      ⟨(e.staleAction, _), staleActionForm.optField_iff.mpr ⟨b6, fun _ _ => trivial, rfl⟩, ?_⟩
    refine Option.bind_eq_some_iff.mpr
      ⟨(e.fallback, []), colourForm.optField_iff.mpr ⟨b7, fun _ _ => trivial, (List.append_nil _).symm⟩, ?_⟩
    rfl

/-! ## TABLE SET -/

/-- The bytes of TABLE SET's settings (R39, R186). -/
def tableSetBytes (len : Option Nat) (retain : Option Bool) : List Byte :=
  (bitByte len.isSome 0 ||| bitByte retain.isSome 1)
    :: (givenBytes (fun n => [byteOf n]) len ++ givenBytes (fun b => [boolByte b]) retain)

theorem presence2_ne_zero : ∀ a b : Bool, bitByte a 0 ||| bitByte b 1 ≠ 0 ↔ (a || b) = true := by decide

theorem presence3_ne_zero : ∀ a b c : Bool, bitByte a 0 ||| bitByte b 1 ||| bitByte c 2 ≠ 0 ↔ (a || b || c) = true := by
  decide

theorem presence5_ne_zero : ∀ a b c d e : Bool,
    bitByte a 0 ||| bitByte b 1 ||| bitByte c 2 ||| bitByte d 3 ||| bitByte e 4 ≠ 0 ↔ (a || b || c || d || e) = true := by
  decide

theorem presenceOk_given {p : Byte} {n : Nat} : (presenceOk p n && p ≠ 0) = true ↔ presenceOk p n = true ∧ p ≠ 0 := by
  rw [Bool.and_eq_true, decide_eq_true_eq]

/-- TABLE SET's settings are read exactly where they are the bytes of at least one, in its range (R39, R186). -/
theorem tableSetParams_iff {bs : List Byte} {len : Option Nat} {retain : Option Bool} :
    tableSetParams bs = some (len, retain) ↔
      ((len.isSome || retain.isSome) = true ∧ ∀ n, len = some n → 1 ≤ n ∧ n ≤ 15) ∧ bs = tableSetBytes len retain := by
  constructor
  · intro h
    unfold tableSetParams at h
    split at h
    · cases h
    next p ps =>
      split at h
      next hgiven =>
        obtain ⟨hok, hne⟩ := presenceOk_given.mp hgiven
        simp only [Option.bind_eq_some_iff, Prod.exists] at h
        obtain ⟨o1, r1, h1, o2, r2, h2, h⟩ := h
        split at h
        next hrest =>
          cases h
          obtain ⟨b1, k1, rfl⟩ := (byteForm 1 15 (by decide)).optField_iff.mp h1
          obtain ⟨b2, -, rfl⟩ := boolForm.optField_iff.mp h2
          obtain rfl := (presence2_iff p _ _).mpr ⟨hok, b1, b2⟩
          refine ⟨⟨(presence2_ne_zero _ _).mp hne, k1⟩, ?_⟩
          rw [List.isEmpty_iff.mp hrest, tableSetBytes, List.append_nil]
        next => cases h
      next => cases h
  · rintro ⟨⟨hsome, hrange⟩, rfl⟩
    obtain ⟨hok, b1, b2⟩ := (presence2_iff _ len.isSome retain.isSome).mp rfl
    rw [tableSetBytes, tableSetParams, if_pos (presenceOk_given.mpr ⟨hok, (presence2_ne_zero _ _).mpr hsome⟩)]
    refine Option.bind_eq_some_iff.mpr ⟨(len, _), (byteForm 1 15 (by decide)).optField_iff.mpr ⟨b1, hrange, rfl⟩, ?_⟩
    refine Option.bind_eq_some_iff.mpr
      ⟨(retain, []), boolForm.optField_iff.mpr ⟨b2, fun _ _ => trivial, (List.append_nil _).symm⟩, ?_⟩
    rfl

/-! ## POSTURE SET -/

theorem givenWithin_iff {lo hi : Nat} {o : Option Nat} :
    givenWithin lo hi o = true ↔ ∀ n, o = some n → lo ≤ n ∧ n ≤ hi := by
  simp [givenWithin, Option.all_eq_true]

/-- POSTURE SET's settings are read exactly where they are the bytes of at least one, each in its range (R120, R186). -/
theorem postureSetParams_iff {bs : List Byte} {e : PostureEdit} :
    postureSetParams bs = some e ↔ e.inRange = true ∧ bs = e.bytes := by
  constructor
  · intro h
    unfold postureSetParams at h
    split at h
    · cases h
    next p ps =>
      split at h
      next hgiven =>
        obtain ⟨hok, hne⟩ := presenceOk_given.mp hgiven
        simp only [Option.bind_eq_some_iff, Prod.exists] at h
        obtain ⟨o1, r1, h1, o2, r2, h2, o3, r3, h3, o4, r4, h4, o5, r5, h5, h⟩ := h
        split at h
        next hrest =>
          cases h
          obtain ⟨b1, k1, rfl⟩ := (byteForm 1 64 (by decide)).optField_iff.mp h1
          obtain ⟨b2, k2, rfl⟩ := (wordForm 1 4094 (by decide)).optField_iff.mp h2
          obtain ⟨b3, k3, rfl⟩ := (wordForm 1 4094 (by decide)).optField_iff.mp h3
          obtain ⟨b4, k4, rfl⟩ := (byteForm 1 15 (by decide)).optField_iff.mp h4
          obtain ⟨b5, -, rfl⟩ := reportModeForm.optField_iff.mp h5
          have hp := presence5_eq p hok
          rw [b1, b2, b3, b4, b5] at hp
          rw [hp, presence5_ne_zero] at hne
          rw [PostureEdit.inRange, Bool.and_eq_true, Bool.and_eq_true, Bool.and_eq_true, Bool.and_eq_true]
          refine ⟨⟨⟨⟨⟨hne, givenWithin_iff.mpr k1⟩, givenWithin_iff.mpr k2⟩, givenWithin_iff.mpr k3⟩,
            givenWithin_iff.mpr k4⟩, ?_⟩
          rw [List.isEmpty_iff.mp hrest, PostureEdit.bytes, List.append_nil]
          refine congrArg₂ List.cons hp ?_
          simp only [List.append_assoc]
        next => cases h
      next => cases h
  · rintro ⟨hrange, rfl⟩
    obtain ⟨hok, b1, b2, b3, b4, b5⟩ := presence5_bits e.sampleInterval.isSome e.foldLimit.isSome e.openLimit.isSome
      e.debounce.isSome e.reportMode.isSome
    rw [PostureEdit.inRange, Bool.and_eq_true, Bool.and_eq_true, Bool.and_eq_true, Bool.and_eq_true] at hrange
    obtain ⟨⟨⟨⟨hsome, k1⟩, k2⟩, k3⟩, k4⟩ := hrange
    rw [PostureEdit.bytes]
    simp only [List.append_assoc]
    rw [postureSetParams, if_pos (presenceOk_given.mpr ⟨hok, (presence5_ne_zero _ _ _ _ _).mpr hsome⟩)]
    refine Option.bind_eq_some_iff.mpr ⟨(e.sampleInterval, _), (byteForm 1 64 (by decide)).optField_iff.mpr
      ⟨b1, givenWithin_iff.mp k1, rfl⟩, ?_⟩
    refine Option.bind_eq_some_iff.mpr ⟨(e.foldLimit, _), (wordForm 1 4094 (by decide)).optField_iff.mpr
      ⟨b2, givenWithin_iff.mp k2, rfl⟩, ?_⟩
    refine Option.bind_eq_some_iff.mpr ⟨(e.openLimit, _), (wordForm 1 4094 (by decide)).optField_iff.mpr
      ⟨b3, givenWithin_iff.mp k3, rfl⟩, ?_⟩
    refine Option.bind_eq_some_iff.mpr ⟨(e.debounce, _), (byteForm 1 15 (by decide)).optField_iff.mpr
      ⟨b4, givenWithin_iff.mp k4, rfl⟩, ?_⟩
    refine Option.bind_eq_some_iff.mpr ⟨(e.reportMode, []), reportModeForm.optField_iff.mpr
      ⟨b5, fun _ _ => trivial, (List.append_nil _).symm⟩, ?_⟩
    rfl

/-! ## TRANSITION SET -/

theorem transitionSetInRange_iff {window hold : Option Nat} : transitionSetInRange window hold = true ↔
    (window.isSome || hold.isSome) = true ∧ (∀ n, window = some n → n ≤ 510 ∧ n % 2 = 0)
      ∧ ∀ n, hold = some n → 0 ≤ n ∧ n ≤ 7 := by
  rw [transitionSetInRange, Bool.and_eq_true, Bool.and_eq_true, givenWithin_iff, and_assoc]
  simp [Option.all_eq_true]

/-- TRANSITION SET's settings are read exactly where they are the bytes of at least one, each in its range (R148,
R186). -/
theorem transitionSetParams_iff {bs : List Byte} {window hold : Option Nat} :
    transitionSetParams bs = some (window, hold) ↔
      transitionSetInRange window hold = true ∧ bs = transitionSetBytes window hold := by
  constructor
  · intro h
    unfold transitionSetParams at h
    split at h
    · cases h
    next p ps =>
      split at h
      next hgiven =>
        obtain ⟨hok, hne⟩ := presenceOk_given.mp hgiven
        simp only [Option.bind_eq_some_iff, Prod.exists] at h
        obtain ⟨o1, r1, h1, o2, r2, h2, h⟩ := h
        split at h
        next hrest =>
          cases h
          obtain ⟨b1, k1, rfl⟩ := windowForm.optField_iff.mp h1
          obtain ⟨b2, k2, rfl⟩ := (byteForm 0 7 (by decide)).optField_iff.mp h2
          obtain rfl := (presence2_iff p _ _).mpr ⟨hok, b1, b2⟩
          refine ⟨transitionSetInRange_iff.mpr ⟨(presence2_ne_zero _ _).mp hne, k1, k2⟩, ?_⟩
          rw [List.isEmpty_iff.mp hrest, transitionSetBytes, List.append_nil]
        next => cases h
      next => cases h
  · rintro ⟨hrange, rfl⟩
    obtain ⟨hsome, k1, k2⟩ := transitionSetInRange_iff.mp hrange
    obtain ⟨hok, b1, b2⟩ := (presence2_iff _ window.isSome hold.isSome).mp rfl
    rw [transitionSetBytes, transitionSetParams,
      if_pos (presenceOk_given.mpr ⟨hok, (presence2_ne_zero _ _).mpr hsome⟩)]
    refine Option.bind_eq_some_iff.mpr ⟨(window, _), windowForm.optField_iff.mpr ⟨b1, k1, rfl⟩, ?_⟩
    refine Option.bind_eq_some_iff.mpr
      ⟨(hold, []), (byteForm 0 7 (by decide)).optField_iff.mpr ⟨b2, k2, (List.append_nil _).symm⟩, ?_⟩
    rfl

/-! ## ZONE TABLE and ZONE IDLE -/

/-- ZONE TABLE's layout and entries are read exactly where they are the bytes of at least one entry (R154, R186). -/
theorem zoneTableParams_iff {bs : List Byte} {layout : Layout} {rear spine front : Option Bool} :
    zoneTableParams bs = some (layout, rear, spine, front) ↔
      (rear.isSome || spine.isSome || front.isSome) = true ∧ bs = zoneTableBytes layout rear spine front := by
  constructor
  · intro h
    unfold zoneTableParams at h
    split at h
    next l p ps =>
      split at h
      next hgiven =>
        obtain ⟨hok, hne⟩ := presenceOk_given.mp hgiven
        simp only [Option.bind_eq_some_iff, Prod.exists] at h
        obtain ⟨x, hlayout, o1, r1, h1, o2, r2, h2, o3, r3, h3, h⟩ := h
        split at h
        next hrest =>
          cases h
          obtain rfl := layoutField_iff.mp hlayout
          obtain ⟨b1, -, rfl⟩ := boolForm.optField_iff.mp h1
          obtain ⟨b2, -, rfl⟩ := boolForm.optField_iff.mp h2
          obtain ⟨b3, -, rfl⟩ := boolForm.optField_iff.mp h3
          obtain rfl := (presence3_iff p _ _ _).mpr ⟨hok, b1, b2, b3⟩
          refine ⟨(presence3_ne_zero _ _ _).mp hne, ?_⟩
          rw [List.isEmpty_iff.mp hrest, zoneTableBytes, List.append_nil]
          simp only [List.append_assoc, List.cons_append, List.nil_append]
        next => cases h
      next => cases h
    next => cases h
  · rintro ⟨hsome, rfl⟩
    obtain ⟨hok, b1, b2, b3⟩ := (presence3_iff _ rear.isSome spine.isSome front.isSome).mp rfl
    rw [zoneTableBytes]
    simp only [List.append_assoc, List.cons_append, List.nil_append]
    rw [zoneTableParams, if_pos (presenceOk_given.mpr ⟨hok, (presence3_ne_zero _ _ _).mpr hsome⟩)]
    refine Option.bind_eq_some_iff.mpr ⟨layout, layoutField_iff.mpr rfl, ?_⟩
    refine Option.bind_eq_some_iff.mpr ⟨(rear, _), boolForm.optField_iff.mpr ⟨b1, fun _ _ => trivial, rfl⟩, ?_⟩
    refine Option.bind_eq_some_iff.mpr ⟨(spine, _), boolForm.optField_iff.mpr ⟨b2, fun _ _ => trivial, rfl⟩, ?_⟩
    refine Option.bind_eq_some_iff.mpr
      ⟨(front, []), boolForm.optField_iff.mpr ⟨b3, fun _ _ => trivial, (List.append_nil _).symm⟩, ?_⟩
    rfl

/-- ZONE IDLE's zone and settings are read exactly where they are the bytes of at least one setting (R157, R186). -/
theorem zoneIdleParams_iff {bs : List Byte} {z : Zone} {limit : Option Nat} {mask : Option (BitVec 3)}
    {dim : Option Nat} : zoneIdleParams bs = some (z, limit, mask, dim) ↔
      ((limit.isSome || mask.isSome || dim.isSome) = true ∧ (∀ n, limit = some n → n ≤ 255)
        ∧ ∀ n, dim = some n → n ≤ 255) ∧ bs = zoneIdleBytes z limit mask dim := by
  constructor
  · intro h
    unfold zoneIdleParams at h
    split at h
    next l p ps =>
      split at h
      next hgiven =>
        obtain ⟨hok, hne⟩ := presenceOk_given.mp hgiven
        simp only [Option.bind_eq_some_iff, Prod.exists] at h
        obtain ⟨x, hzone, o1, r1, h1, o2, r2, h2, o3, r3, h3, h⟩ := h
        split at h
        next hrest =>
          cases h
          obtain rfl := zoneField_iff.mp hzone
          obtain ⟨b1, k1, rfl⟩ := anyByteForm.optField_iff.mp h1
          obtain ⟨b2, -, rfl⟩ := maskForm.optField_iff.mp h2
          obtain ⟨b3, k3, rfl⟩ := anyByteForm.optField_iff.mp h3
          obtain rfl := (presence3_iff p _ _ _).mpr ⟨hok, b1, b2, b3⟩
          refine ⟨⟨(presence3_ne_zero _ _ _).mp hne, k1, k3⟩, ?_⟩
          rw [List.isEmpty_iff.mp hrest, zoneIdleBytes, List.append_nil]
          simp only [List.append_assoc, List.cons_append, List.nil_append]
        next => cases h
      next => cases h
    next => cases h
  · rintro ⟨⟨hsome, k1, k3⟩, rfl⟩
    obtain ⟨hok, b1, b2, b3⟩ := (presence3_iff _ limit.isSome mask.isSome dim.isSome).mp rfl
    rw [zoneIdleBytes]
    simp only [List.append_assoc, List.cons_append, List.nil_append]
    rw [zoneIdleParams, if_pos (presenceOk_given.mpr ⟨hok, (presence3_ne_zero _ _ _).mpr hsome⟩)]
    refine Option.bind_eq_some_iff.mpr ⟨z, zoneField_iff.mpr rfl, ?_⟩
    refine Option.bind_eq_some_iff.mpr ⟨(limit, _), anyByteForm.optField_iff.mpr ⟨b1, k1, rfl⟩, ?_⟩
    refine Option.bind_eq_some_iff.mpr ⟨(mask, _), maskForm.optField_iff.mpr ⟨b2, fun _ _ => trivial, rfl⟩, ?_⟩
    refine Option.bind_eq_some_iff.mpr
      ⟨(dim, []), anyByteForm.optField_iff.mpr ⟨b3, k3, (List.append_nil _).symm⟩, ?_⟩
    rfl

/-! ## Placement parts -/

/-- A part is admitted by its face, its rectangle, its Z Level and its source rectangle (R7, R20). -/
theorem admitted_iff (g : Geometry) (layout : Layout) (p : Part) : p.admitted g layout = true ↔
    (faceInLayout layout p.face = true ∧ g.fits p.face p.rect = true) ∧ p.zLevel ≤ 15
      ∧ sourceFits p.rect p.source = true := by
  rw [Part.admitted, Bool.and_eq_true, Bool.and_eq_true, Bool.and_eq_true, decide_eq_true_eq, and_assoc]

theorem fits_iff (g : Geometry) (face : Face) (r : Rect) : g.fits face r = true ↔
    r.baseCol ≤ r.limitCol ∧ r.baseRow ≤ r.limitRow ∧ r.limitCol ≤ g.lastLocal face ∧ r.limitRow < 112 := by
  rw [Geometry.fits, decide_eq_true_eq, Config.tileRows]

theorem lastLocal_le {g : Geometry} (h : g.inRange = true) (face : Face) : g.lastLocal face ≤ 127 := by
  rw [Geometry.inRange, decide_eq_true_eq] at h
  cases face <;> simp only [Geometry.lastLocal, Config.tileColumns] <;> omega

/-- The rectangle of a part has room in bytes (R7). -/
theorem admitted_bytes {g : Geometry} {layout : Layout} {p : Part} (hg : g.inRange = true)
    (h : p.admitted g layout = true) : p.rect.baseCol ≤ 255 ∧ p.rect.baseRow ≤ 255 ∧ p.rect.limitCol ≤ 255
      ∧ p.rect.limitRow ≤ 255 ∧ p.zLevel ≤ 255 := by
  obtain ⟨⟨-, hfits⟩, hz, -⟩ := (admitted_iff g layout p).mp h
  obtain ⟨hcols, hrows, hcol, hrow⟩ := (fits_iff _ _ _).mp hfits
  have := lastLocal_le hg p.face
  omega

/-- The source's bytes are read back, and no others give it (R19, R186). -/
theorem sourceField_bytes {r : Rect} {x : Source} (hfits : sourceFits r x = true) (hcols : r.baseCol ≤ r.limitCol)
    (hrows : r.baseRow ≤ r.limitRow) : ∃ k a b c, x.bytes = [k, a, b, c] ∧ sourceField k a b c = some x := by
  cases x with
  | fill c => exact ⟨_, _, _, _, rfl, congrArg (some ∘ Source.fill) (colourOf_bytes c)⟩
  | stream n oc orow =>
    rw [sourceFits, decide_eq_true_eq, Config.tileColumns, Config.tileRows, Rect.width, Rect.height] at hfits
    have hn : (byteOf n.val).toNat = n.val := byteOf_toNat (by omega)
    have hc : (byteOf oc).toNat = oc := byteOf_toNat (by omega)
    have hr : (byteOf orow).toNat = orow := byteOf_toNat (by omega)
    refine ⟨_, _, _, _, rfl, ?_⟩
    have hstream : (byteOf n.val).toNat < 8 := by omega
    have horigin : (byteOf oc).toNat < Config.tileColumns ∧ (byteOf orow).toNat < Config.tileRows := by
      rw [hc, hr, Config.tileColumns, Config.tileRows]
      omega
    refine (if_pos rfl).trans ((dif_pos hstream).trans ((if_pos horigin).trans ?_))
    simp only [hn, hc, hr]

theorem sourceField_eq {k a b c : Byte} {x : Source} (h : sourceField k a b c = some x) : x.bytes = [k, a, b, c] := by
  unfold sourceField at h
  split at h
  next hk =>
    split at h
    · split at h
      · cases h
        simp only [Source.bytes, byteOf_of_toNat, hk]
        rfl
      · cases h
    · cases h
  next =>
    split at h
    next hk =>
      cases h
      rw [Source.bytes, bytes_colourOf, hk]
      rfl
    next => cases h

/-- The part that ten bytes write out is read back from them, where it is admitted (R20, R186). -/
theorem partField_bytes {g : Geometry} {layout : Layout} {p : Part} (hg : g.inRange = true)
    (h : p.admitted g layout = true) : partField g layout p.bytes = some p := by
  obtain ⟨⟨-, hfits⟩, -, hsource⟩ := (admitted_iff g layout p).mp h
  obtain ⟨hcols, hrows, -⟩ := (fits_iff _ _ _).mp hfits
  obtain ⟨hbc, hbr, hlc, hlr, hz⟩ := admitted_bytes hg h
  obtain ⟨k, a, b, c, hbytes, hfield⟩ := sourceField_bytes hsource hcols hrows
  rw [Part.bytes, hbytes]
  change (faceField (faceByte (some p.face))).bind _ = _
  rw [faceField_iff.mpr rfl, Option.bind_some, hfield, Option.bind_some, byteOf_toNat hbc, byteOf_toNat hbr,
    byteOf_toNat hlc, byteOf_toNat hlr, byteOf_toNat hz]
  exact if_pos h

/-- Only the bytes that write out an admitted part are read as it (R20, R186). -/
theorem partField_eq {g : Geometry} {layout : Layout} {bs : List Byte} {p : Part}
    (h : partField g layout bs = some p) : p.admitted g layout = true ∧ bs = p.bytes := by
  refine ⟨partField_admitted h, ?_⟩
  unfold partField at h
  split at h
  · simp only [Option.bind_eq_some_iff] at h
    obtain ⟨face, hface, source, hsource, h⟩ := h
    split at h
    · cases h
      rw [Part.bytes, sourceField_eq hsource, ← faceField_iff.mp hface]
      simp only [byteOf_of_toNat, List.cons_append, List.nil_append]
    · cases h
  · cases h

theorem partBytes_length (p : Part) : p.bytes.length = 10 := by
  rw [Part.bytes]
  cases p.source <;> rfl

/-! ## REGION CREATE -/

/-- REGION CREATE's parameters are read where they are a layout, an admitted part and attributes (R24, R186). -/
theorem regionCreateParams_bytes {g : Geometry} {layout : Layout} {p : Part} {e : AttributeEdit} (hg : g.inRange = true)
    (hp : p.admitted g layout = true) (he : e.inRange = true) :
    regionCreateParams g (layoutByte layout :: (p.bytes ++ e.bytes)) = some (newContent layout p e) := by
  rw [regionCreateParams, layoutField_iff.mpr rfl, Option.bind_some, ← partBytes_length p, List.take_left, List.drop_left,
    partField_bytes hg hp, Option.bind_some, attributeBlock_iff.mpr ⟨he, rfl⟩, Option.map_some]

/-- Only such bytes are read as REGION CREATE's parameters (R24, R186). -/
theorem regionCreateParams_eq {g : Geometry} {bs : List Byte} {x : Content} (h : regionCreateParams g bs = some x) :
    ∃ (layout : Layout) (p : Part) (e : AttributeEdit), p.admitted g layout = true ∧ e.inRange = true
      ∧ bs = layoutByte layout :: (p.bytes ++ e.bytes) := by
  unfold regionCreateParams at h
  split at h
  next l rest =>
    simp only [Option.bind_eq_some_iff, Option.map_eq_some_iff] at h
    obtain ⟨layout, hlayout, p, hp, e, he, -⟩ := h
    obtain ⟨hadmitted, hpart⟩ := partField_eq hp
    obtain ⟨hrange, hblock⟩ := attributeBlock_iff.mp he
    refine ⟨layout, p, e, hadmitted, hrange, ?_⟩
    rw [layoutField_iff.mp hlayout, ← hpart, ← hblock, List.take_append_drop]
  next => cases h

end Sys2Proof.Machine

/-! CLAIM. The byte forms are read back from their bytes, and the frames that the ports hand out tell what they are made
of (R74, R166, R177, R181, R186). -/

namespace Sys2Proof.Machine

/-! ## Lookup requests and packets -/

theorem parseLookup_bytes (r : LookupRequest) : parseLookup r.bytes = some r := by
  cases r with
  | point x y =>
    change some (LookupRequest.point (be16 _ _) (be16 _ _)) = _
    rw [be16_of_bytes16, be16_of_bytes16]
  | verify region generation x y =>
    change some (LookupRequest.verify region generation (be16 _ _) (be16 _ _)) = _
    rw [be16_of_bytes16, be16_of_bytes16]

theorem coloursOf_bytes (cs : List Colour) : coloursOf (cs.flatMap Colour.bytes) = cs := by
  induction cs with
  | nil => rfl
  | cons c cs ih =>
    rw [List.flatMap_cons]
    change colourOf _ _ _ :: coloursOf (cs.flatMap Colour.bytes) = _
    rw [colourOf_bytes, ih]

theorem colourBytes_length (cs : List Colour) : (cs.flatMap Colour.bytes).length = 3 * cs.length := by
  induction cs with
  | nil => rfl
  | cons c cs ih =>
    rw [List.flatMap_cons, List.length_append, ih, List.length_cons]
    change 3 + _ = _
    omega

/-- Tiles laid one after another are taken apart again (R1). -/
theorem tilesOf_flatten {tiles : List Pixels} (h : ∀ px ∈ tiles, px.length = 256) :
    tilesOf tiles.length tiles.flatten = tiles := by
  induction tiles with
  | nil => rfl
  | cons px rest ih =>
    have hpx : px.length = 256 := h px List.mem_cons_self
    rw [List.length_cons, List.flatten_cons, tilesOf, ← hpx, List.take_left, List.drop_left,
      ih fun q hq => h q (List.mem_cons_of_mem _ hq)]

theorem flatten_length {tiles : List Pixels} (h : ∀ px ∈ tiles, px.length = 256) :
    tiles.flatten.length = 256 * tiles.length := by
  induction tiles with
  | nil => rfl
  | cons px rest ih =>
    rw [List.flatten_cons, List.length_append, List.length_cons, h px List.mem_cons_self,
      ih fun q hq => h q (List.mem_cons_of_mem _ hq)]
    omega

theorem parsePacket_bytes {p : Packet} (h : p.taken = true) : parsePacket p.bytes = some p := by
  cases p with
  | frameBegin s w h' => exact if_pos (of_decide_eq_true h)
  | frameEnd s => exact if_pos (of_decide_eq_true h)
  | discarded => cases h
  | tileRun s start count tiles =>
    rw [Packet.taken, Bool.and_eq_true, Bool.and_eq_true, decide_eq_true_eq, decide_eq_true_eq] at h
    obtain ⟨⟨hs, hcount⟩, htiles⟩ := h
    simp only [List.all_eq_true, decide_eq_true_eq] at htiles
    have hbody : (tiles.flatten.flatMap Colour.bytes).length = 768 * count.toNat := by
      rw [colourBytes_length, flatten_length htiles, hcount]
      omega
    refine (if_pos ⟨hs, hbody⟩).trans ?_
    change some (Packet.tileRun s (be16 _ _) count (tilesOf _ (coloursOf (tiles.flatten.flatMap Colour.bytes)))) = _
    rw [be16_of_bytes16, coloursOf_bytes, ← hcount, tilesOf_flatten htiles]

/-! ## Frames -/

theorem result_byte_inj : ∀ a b : Result, a.byte = b.byte → a = b := by
  intro a b
  cases a <;> cases b <;> decide

theorem lookupStatus_byte_inj : ∀ a b : LookupStatus, a.byte = b.byte → a = b := by
  intro a b
  cases a <;> cases b <;> decide

theorem faceByte_inj : ∀ a b : Option Face, faceByte a = faceByte b → a = b
  | none, none, _ => rfl
  | none, some f, h => by cases f <;> cases h
  | some f, none, h => by cases f <;> cases h
  | some f, some g, h => congrArg some (Option.some_inj.mp ((faceField_iff.mpr rfl).symm.trans (faceField_iff.mpr h)))

theorem layoutByte_inj {a b : Layout} (h : layoutByte a = layoutByte b) : a = b :=
  Option.some_inj.mp ((layoutField_iff.mpr rfl).symm.trans (layoutField_iff.mpr h))

theorem bytes16_inj {m n : BitVec 16} (h : bytes16 m = bytes16 n) : m = n := by
  rw [bytes16, bytes16, List.cons.injEq, List.cons.injEq] at h
  obtain ⟨hhi, hlo, -⟩ := h
  rw [← be16_of_bytes16 m, hhi, hlo, be16_of_bytes16]

theorem byteOf_inj {m n : Nat} (hm : m ≤ 255) (hn : n ≤ 255) (h : byteOf m = byteOf n) : m = n := by
  rw [← byteOf_toNat hm, h, byteOf_toNat hn]

/-- Numbers in the range of two's complement of 16 bits have their own forms (R186). -/
theorem ofInt16_inj {m n : Int} (hm : -32768 ≤ m ∧ m ≤ 32767) (hn : -32768 ≤ n ∧ n ≤ 32767)
    (h : BitVec.ofInt 16 m = BitVec.ofInt 16 n) : m = n := by
  have hint := congrArg BitVec.toInt h
  rw [BitVec.toInt_ofInt, BitVec.toInt_ofInt, Int.bmod_def, Int.bmod_def] at hint
  omega

theorem insideByte_inj : ∀ a b : Bool, (if a then (0x01 : Byte) else 0x00) = (if b then 0x01 else 0x00) → a = b := by
  decide

/-- The answers in the ranges of their fields have their own frames (R186). -/
theorem answerFrame_inj {a b : Answer} (har : a.region ≤ 32) (hbr : b.region ≤ 32) (hat : a.ownerToken ≤ 63)
    (hbt : b.ownerToken ≤ 63) (hax : -32768 ≤ a.localX ∧ a.localX ≤ 32767) (hbx : -32768 ≤ b.localX ∧ b.localX ≤ 32767)
    (hay : -32768 ≤ a.localY ∧ a.localY ≤ 32767) (hby : -32768 ≤ b.localY ∧ b.localY ≤ 32767)
    (h : a.frame = b.frame) : a = b := by
  rw [Answer.frame, Answer.frame, List.append_assoc, List.append_assoc, List.append_assoc, List.append_assoc] at h
  obtain ⟨hfront, hrest⟩ := List.append_inj h rfl
  obtain ⟨hx, hrest⟩ := List.append_inj hrest rfl
  obtain ⟨hy, hback⟩ := List.append_inj hrest rfl
  simp only [List.cons.injEq, and_true] at hfront hback
  obtain ⟨hstatus, hregion, hgeneration, htoken, hface⟩ := hfront
  obtain ⟨hinside, hepoch, hlayout⟩ := hback
  have hregion' := byteOf_inj (har.trans (by decide)) (hbr.trans (by decide)) hregion
  have htoken' := byteOf_inj (hat.trans (by decide)) (hbt.trans (by decide)) htoken
  have hx' := ofInt16_inj hax hbx (bytes16_inj hx)
  have hy' := ofInt16_inj hay hby (bytes16_inj hy)
  obtain ⟨status, region, generation, token, face, x, y, inside, epoch, layout⟩ := a
  obtain rfl := lookupStatus_byte_inj _ _ hstatus
  obtain rfl := faceByte_inj _ _ hface
  obtain rfl := insideByte_inj _ _ hinside
  obtain rfl := layoutByte_inj hlayout
  dsimp only at hregion' hgeneration htoken' hx' hy' hepoch
  rw [hregion', hgeneration, htoken', hx', hy', hepoch]

/-- A response frame is the code, the result, the Data Length and that many bytes (R186). -/
theorem responseFrame_parts (r : Response) : ∃ (len : Byte) (bytes : List Byte),
    r.frame = [r.code, r.result.byte, len] ++ bytes ∧ bytes.length = len.toNat ∧ len.toNat ≤ 124 := by
  have hle := dataFrame_length r.data
  have hlen : (BitVec.ofNat 8 r.data.frame.length).toNat = r.data.frame.length := byteOf_toNat (hle.trans (by decide))
  exact ⟨_, _, rfl, hlen.symm, hlen.trans_le hle⟩

theorem statusFrame_flags (code : Byte) (q : StatusReport) : ∃ (len hi lo : Byte) (before after : List Byte),
    ({ code, result := .ok, data := .status q } : Response).frame = [code, 0x00, len] ++ before ++ [hi, lo] ++ after
      ∧ be16 hi lo = q.flags.zeroExtend 16 := by
  obtain ⟨before, after, hdata⟩ := statusData_flags q
  refine ⟨BitVec.ofNat 8 q.frame.length, _, _, before, after, ?_, be16_of_bytes16 _⟩
  rw [Response.frame, List.append_assoc, List.append_assoc]
  refine congrArg ([code, 0x00, BitVec.ofNat 8 q.frame.length] ++ ·) (hdata.trans ?_)
  rw [bytes16, List.append_assoc]

/-- Settles O18: reading is the inverse of writing, field by field. -/
theorem byteFormsAgree : Obligations.ByteFormsAgree := by
  refine ⟨⟨fun g layout p => partField_bytes, fun e he => attributeBlock_iff.mpr ⟨he, rfl⟩,
    fun g layout p e hg hp he => ?_, parseLookup_bytes, fun p => parsePacket_bytes⟩,
    fun a b har hbr hat hbt hax hbx hay hby => ⟨rfl, answerFrame_inj har hbr hat hbt hax hbx hay hby⟩,
    fun _ _ => rfl, fun _ _ => rfl, responseFrame_parts, statusFrame_flags, result_byte_inj,
    fun portStatus flags => ⟨_, _, rfl, be16_of_bytes16 _⟩⟩
  rw [regionCreateParams_bytes hg hp he]
  cases layout <;> rfl

end Sys2Proof.Machine

/-! CLAIM. The translations of the faces, and the requests of the Region Table (R7 to R10, R20, R24 to R31, R36, R39,
R40, R71). -/

namespace Sys2Proof.Machine

/-! ## Faces and translations -/

theorem geometry_inRange_iff (g : Geometry) : g.inRange = true ↔
    40 ≤ g.spineStart ∧ g.spineStart ≤ 80 ∧ 4 ≤ g.spineWidth ∧ g.spineWidth ≤ 16 := by
  rw [Geometry.inRange, decide_eq_true_eq]

/-- A local column's physical column, by the face (R8). -/
theorem physical_eq (g : Geometry) (face : Face) (c : Nat) : (g.translation face).physical c =
    match face with
    | .front => g.spineStart + g.spineWidth + c
    | .spine => g.spineStart + c
    | .rear => g.spineStart - 1 - c
    | .whole => c := by
  cases face
  case whole => exact Nat.zero_add c
  all_goals rfl

theorem lastLocal_eq (g : Geometry) (face : Face) : g.lastLocal face =
    match face with
    | .front => 127 - g.spineStart - g.spineWidth
    | .spine => g.spineWidth - 1
    | .rear => g.spineStart - 1
    | .whole => 127 := by
  cases face <;> rfl

/-- A column of a face lies in the zone of its name (R7, R8). -/
theorem physical_in_face {g : Geometry} {face : Face} {c : Nat} (hg : g.inRange = true) (hc : c ≤ g.lastLocal face) :
    (g.translation face).physical c < 128
      ∧ g.faceAt (if face = .whole then .unfolded else .folded) ((g.translation face).physical c) = face := by
  obtain ⟨hs, hs', hw, hw'⟩ := (geometry_inRange_iff g).mp hg
  rw [lastLocal_eq] at hc
  rw [physical_eq]
  cases face with
  | whole => exact ⟨Nat.lt_succ_of_le hc, rfl⟩
  | front =>
    dsimp only at hc ⊢
    have hzone : g.zoneOf (g.spineStart + g.spineWidth + c) = .front := by
      rw [Geometry.zoneOf, if_neg (by omega), if_neg (by omega)]
    exact ⟨by omega, congrArg faceOfZone hzone⟩
  | spine =>
    dsimp only at hc ⊢
    have hzone : g.zoneOf (g.spineStart + c) = .spine := by
      rw [Geometry.zoneOf, if_neg (by omega), if_pos (by omega)]
    exact ⟨by omega, congrArg faceOfZone hzone⟩
  | rear =>
    dsimp only at hc ⊢
    have hzone : g.zoneOf (g.spineStart - 1 - c) = .rear := by rw [Geometry.zoneOf, if_pos (by omega)]
    exact ⟨by omega, congrArg faceOfZone hzone⟩

/-- The physical pixel column of a local one (R9). -/
def Geometry.physicalPixel (g : Geometry) (face : Face) (u : Nat) : Nat :=
  match face with
  | .front => 16 * (g.spineStart + g.spineWidth) + u
  | .spine => 16 * g.spineStart + u
  | .rear => 16 * g.spineStart - 1 - u
  | .whole => u

/-- The pixel formulas undo each other and agree with the translation of the tiles (R8, R9, R10). -/
theorem physicalPixel_spec {g : Geometry} {face : Face} {u : Nat} (hg : g.inRange = true)
    (hu : u / 16 ≤ g.lastLocal face) :
    ((g.physicalPixel face u : Nat) : Int) = (match face with
      | .front => 16 * ((g.spineStart : Int) + g.spineWidth) + u
      | .spine => 16 * (g.spineStart : Int) + u
      | .rear => 16 * (g.spineStart : Int) - 1 - u
      | .whole => u)
    ∧ g.localPixel face (g.physicalPixel face u) = u
    ∧ g.physicalPixel face u / 16 = (g.translation face).physical (u / 16)
    ∧ g.physicalPixel face u % 16 = if (g.translation face).mirror then 15 - u % 16 else u % 16 := by
  obtain ⟨hs, hs', hw, hw'⟩ := (geometry_inRange_iff g).mp hg
  rw [lastLocal_eq] at hu
  rw [physical_eq]
  cases face
  case whole => exact ⟨rfl, rfl, rfl, rfl⟩
  all_goals
    simp only [Geometry.physicalPixel, Geometry.localPixel, Geometry.translation, Bool.false_eq_true, if_false,
      if_true] at hu ⊢
    omega

theorem reverseRows_get {px : Pixels} {p q : Nat} (hlen : px.length = 256) (hp : p < 16) (hq : q < 16) :
    (reverseRows px)[16 * q + p]? = px[16 * q + (15 - p)]? := by
  have hat : 16 * q + p < 256 := by omega
  have hfrom : 16 * q + (15 - p) < px.length := by omega
  have hplace : 16 * ((16 * q + p) / 16) + (15 - (16 * q + p) % 16) = 16 * q + (15 - p) := by omega
  rw [reverseRows, List.getElem?_map, List.getElem?_range hat, Option.map_some, hplace, List.getD_eq_getElem?_getD,
    List.getElem?_eq_getElem hfrom, Option.getD_some]

theorem contains_iff (r : Rect) (col row : Nat) : r.contains col row = true ↔
    r.baseCol ≤ col ∧ col ≤ r.limitCol ∧ r.baseRow ≤ row ∧ row ≤ r.limitRow := by
  rw [Rect.contains, decide_eq_true_eq]

/-- A placement covers the tiles of its rectangle's columns (R8). -/
theorem coversTile_iff {g : Geometry} {p : Part} {t : Nat} (hg : g.inRange = true)
    (hcols : p.rect.baseCol ≤ p.rect.limitCol) (hlast : p.rect.limitCol ≤ g.lastLocal p.face) :
    g.coversTile p t = true ↔ p.rect.baseRow ≤ t / 128 ∧ t / 128 ≤ p.rect.limitRow
      ∧ ∃ c : Nat, p.rect.baseCol ≤ c ∧ c ≤ p.rect.limitCol ∧ t % 128 = (g.translation p.face).physical c := by
  obtain ⟨hs, hs', hw, hw'⟩ := (geometry_inRange_iff g).mp hg
  rw [lastLocal_eq] at hlast
  rw [Geometry.coversTile, contains_iff, tileCol, tileRow, Config.tileColumns]
  simp only [physical_eq]
  cases hface : p.face <;> rw [hface] at hlast <;> dsimp only [Geometry.physicalRect, Geometry.translation] at hlast ⊢
  case rear =>
    exact ⟨fun h => ⟨h.2.2.1, h.2.2.2, g.spineStart - 1 - t % 128, by omega⟩, fun ⟨_, _, c, hc⟩ => by omega⟩
  case front =>
    exact ⟨fun h => ⟨h.2.2.1, h.2.2.2, t % 128 - (g.spineStart + g.spineWidth), by omega⟩,
      fun ⟨_, _, c, hc⟩ => by omega⟩
  case spine =>
    exact ⟨fun h => ⟨h.2.2.1, h.2.2.2, t % 128 - g.spineStart, by omega⟩, fun ⟨_, _, c, hc⟩ => by omega⟩
  case whole => exact ⟨fun h => ⟨h.2.2.1, h.2.2.2, t % 128, by omega⟩, fun ⟨_, _, c, hc⟩ => by omega⟩

/-- Settles O11: column by column, by the face. -/
theorem faceTranslations : Obligations.FaceTranslations := by
  refine ⟨fun g face c hg hc => ⟨?_, physical_in_face hg hc⟩, fun g face u hg hu => ⟨g.physicalPixel face u, ?_⟩,
    fun px p q => reverseRows_get, fun g p t hg hcols hlast => coversTile_iff hg hcols hlast⟩
  · refine (physical_eq g face c).trans ?_
    cases face <;> rfl
  · have h := physicalPixel_spec hg hu
    cases face <;> exact h

/-! ## Slots -/

theorem slotOf_id {n : Nat} {i : Slot} (h : n = i.val + 1) : slotOf n = some i := by
  have hn : 1 ≤ n ∧ n ≤ 32 := by omega
  rw [slotOf, dif_pos hn]
  exact congrArg some (Fin.ext (Nat.sub_eq_of_eq_add h))

theorem slotOf_outside {n : Nat} (h : n = 0 ∨ 32 < n) : slotOf n = none := dif_neg (by omega)

theorem slotOf_inside {n : Nat} (h : 1 ≤ n) (h' : n ≤ 32) : ∃ i : Slot, slotOf n = some i := ⟨_, dif_pos ⟨h, h'⟩⟩

theorem slotList_pairwise : slotList.Pairwise (· < ·) := List.pairwise_lt_finRange 32

/-- The lowest-numbered FREE slot is the one below which none is FREE (R24). -/
theorem freeSlot_lowest {s : State} {i : Slot} (hfree : (s.record i).lifecycle = .free)
    (hbelow : ∀ j : Slot, j < i → (s.record j).lifecycle ≠ .free) : s.freeSlot = some i := by
  cases hfound : s.freeSlot with
  | none =>
    have hnone := List.find?_eq_none.mp hfound i (mem_slotList i)
    exact absurd hfree (by simpa using hnone)
  | some k =>
    have hk := freeSlot_free hfound
    obtain ⟨-, before, after, hlist, hbefore⟩ := List.find?_eq_some_iff_append.mp hfound
    have hi : i ∈ before ++ k :: after := hlist ▸ mem_slotList i
    rcases List.mem_append.mp hi with hi | hi
    · exact absurd hfree (by simpa using hbefore i hi)
    · rcases List.mem_cons.mp hi with rfl | hi
      · rfl
      · have hsorted : (before ++ k :: after).Pairwise (· < ·) := hlist ▸ slotList_pairwise
        have hki : k < i := List.rel_of_pairwise_cons (List.pairwise_append.mp hsorted).2.1 hi
        exact absurd hk (hbelow k hki)

theorem freeSlot_none {s : State} (h : ∀ i : Slot, (s.record i).lifecycle ≠ .free) : s.freeSlot = none :=
  List.find?_eq_none.mpr fun i _ => by simpa using h i

/-- Changes that agree on the slot's record are the same change. -/
theorem updRecord_congr {s : State} {i : Slot} {f g : Record → Record} (h : f (s.record i) = g (s.record i)) :
    s.updRecord i f = s.updRecord i g := by
  have hset : Vec.modify s.table.slots i f = Vec.modify s.table.slots i g := congrArg (s.table.slots.set i) h
  rw [State.updRecord, State.updRecord, hset]

/-! ## REGION CREATE -/

theorem regionCreate_bad {ps : List Byte} {s : State} (h : regionCreateParams s.geometry ps = none) :
    regionCreate ps s = refused .badParam s := by
  rw [regionCreate, h]

theorem regionCreate_full {ps : List Byte} {s : State} {x : Content} (h : regionCreateParams s.geometry ps = some x)
    (hfull : ∀ i : Slot, (s.record i).lifecycle ≠ .free) : regionCreate ps s = refused .noSlot s := by
  rw [regionCreate, h]
  dsimp only
  rw [freeSlot_none hfull]

theorem regionCreate_claims {ps : List Byte} {s : State} {x : Content} {i : Slot}
    (h : regionCreateParams s.geometry ps = some x) (hfree : (s.record i).lifecycle = .free)
    (hbelow : ∀ j : Slot, j < i → (s.record j).lifecycle ≠ .free) : regionCreate ps s =
      reported (.created (i.val + 1) (nextGeneration (s.record i).generation)) (s.updRecord i (Record.claimed x)) := by
  rw [regionCreate, h]
  dsimp only
  rw [freeSlot_lowest hfree hbelow]
  rfl

/-- Settles O12: the parameters are tested, then a FREE slot is sought; a part is admitted by R7 and R20. -/
theorem RegionTable.regionCreate : Obligations.RegionCreate := by
  refine ⟨fun s ps h => ⟨fun x hx => ⟨fun i hfree hbelow g hg => ?_, fun hfull => ?_⟩, fun hnone => ?_, fun hother => ?_⟩,
    fun g layout p => ?_⟩
  · obtain rfl : g = nextGeneration (s.record i).generation := hg
    have hanswer : exec .regionCreate s = .next ((s.updRecord i (Record.claimed x)).responds 0x20 .ok
        (.created (i.val + 1) (nextGeneration (s.record i).generation))) :=
      decided_reported h (regionCreate_claims hx hfree hbelow)
    exact hanswer
  · exact decided_refused h (regionCreate_full hx hfull)
  · exact decided_refused h (regionCreate_bad hnone)
  · refine decided_refused h (regionCreate_bad ?_)
    refine Option.eq_none_iff_forall_ne_some.mpr fun x hx => ?_
    obtain ⟨layout, p, e, hp, he, hbytes⟩ := regionCreateParams_eq hx
    exact hother layout p e hp he hbytes
  · rw [admitted_iff, fits_iff, lastLocal_eq]
    have hface : faceInLayout layout p.face = true ↔ (match layout with
        | .folded => p.face = .front ∨ p.face = .spine ∨ p.face = .rear
        | .unfolded => p.face = .whole) := by
      cases layout <;> cases p.face <;> simp [faceInLayout]
    have hsource : sourceFits p.rect p.source = true ↔ ∀ n oc orow, p.source = .stream n oc orow →
        oc + (p.rect.limitCol + 1 - p.rect.baseCol) ≤ 128 ∧ orow + (p.rect.limitRow + 1 - p.rect.baseRow) ≤ 112 := by
      cases p.source with
      | fill => exact iff_of_true rfl (by simp)
      | stream n oc orow =>
        rw [sourceFits, decide_eq_true_eq]
        exact ⟨fun h _ _ _ e => by cases e; exact h, fun h => h n oc orow rfl⟩
    rw [hface, hsource, ← Nat.lt_succ_iff (n := 111)]
    cases hp : p.face <;> dsimp only <;> grind

end Sys2Proof.Machine

/-! CLAIM. The edits, the retirement and the reads of the Region Table, MAP READ, and when a Generation changes (R16,
R24 to R31, R36, R39, R40, R42, R71). -/

namespace Sys2Proof.Machine

/-! ## The slot that a request names -/

variable {s : State} {rid : Byte} {rest : List Byte} {i : Slot}

theorem namedSlot_outside (h : rid.toNat = 0 ∨ 32 < rid.toNat) : s.namedSlot (rid :: rest) = .error .badRegion := by
  rw [State.namedSlot, slotOf_outside h]

theorem namedSlot_unused (h : rid.toNat = i.val + 1)
    (hlife : (s.record i).lifecycle = .free ∨ (s.record i).lifecycle = .quarantine) :
    s.namedSlot (rid :: rest) = .error .badRegion := by
  unfold State.namedSlot
  dsimp only
  rw [slotOf_id h]
  dsimp only
  rcases hlife with hlife | hlife <;> rw [hlife]

theorem namedSlot_used (h : rid.toNat = i.val + 1)
    (hlife : (s.record i).lifecycle = .staged ∨ (s.record i).lifecycle = .inService) :
    s.namedSlot (rid :: rest) = if (s.record i).inBuild then .error .busy else .ok (i, rest) := by
  unfold State.namedSlot
  dsimp only
  rw [slotOf_id h]
  dsimp only
  rcases hlife with hlife | hlife <;> rw [hlife]

theorem namedSlot_busy (h : rid.toNat = i.val + 1)
    (hlife : (s.record i).lifecycle = .staged ∨ (s.record i).lifecycle = .inService) (hbuild : (s.record i).inBuild = true) :
    s.namedSlot (rid :: rest) = .error .busy := (namedSlot_used h hlife).trans (if_pos hbuild)

theorem namedSlot_free (h : rid.toNat = i.val + 1)
    (hlife : (s.record i).lifecycle = .staged ∨ (s.record i).lifecycle = .inService)
    (hbuild : (s.record i).inBuild = false) : s.namedSlot (rid :: rest) = .ok (i, rest) :=
  (namedSlot_used h hlife).trans (if_neg (Bool.eq_false_iff.mp hbuild))

/-! ## Refusals -/

/-- A decision that refuses as the naming of the slot does, and, of an edit, a record with Retire Pending (R25). -/
structure NamesSlot (edits : Bool) (d : List Byte → State → Decision) : Prop where
  refuses : ∀ (ps : List Byte) (s : State) (r : Result), s.namedSlot ps = .error r → d ps s = refused r s
  retiring : edits = true → ∀ (ps rest : List Byte) (s : State) (i : Slot), s.namedSlot ps = .ok (i, rest) →
    (s.record i).retirePending = true → d ps s = refused .badState s

theorem edit_error {ps : List Byte} {r : Result} (h : s.namedSlot ps = .error r)
    (change : List Byte → Content → Option Content) : s.edit ps change = refused r s := by
  rw [State.edit, h]

theorem edit_retiring {ps : List Byte} (h : s.namedSlot ps = .ok (i, rest)) (hretire : (s.record i).retirePending = true)
    (change : List Byte → Content → Option Content) : s.edit ps change = refused .badState s := by
  rw [State.edit, h]
  exact if_pos hretire

theorem regionPlace_names : NamesSlot true regionPlace where
  refuses _ _ _ h := edit_error h _
  retiring _ _ _ _ _ h hretire := edit_retiring h hretire _

theorem regionAttributes_names : NamesSlot true regionAttributes where
  refuses _ _ _ h := edit_error h _
  retiring _ _ _ _ _ h hretire := edit_retiring h hretire _

theorem regionRetire_names : NamesSlot false regionRetire where
  refuses _ _ _ h := by rw [regionRetire, h]
  retiring := nofun

theorem regionDiscard_names : NamesSlot false regionDiscard where
  refuses _ _ _ h := by rw [regionDiscard, h]
  retiring := nofun

/-- Each of the four requests is a decision that names a slot (R25, R29, R31). -/
theorem editRequests_name : ∀ p ∈ [((0x21 : Byte), Instr.regionPlace, true), (0x22, .regionAttributes, true),
      (0x23, .regionRetire, false), (0x24, .regionDiscard, false)],
    ∃ d, NamesSlot p.2.2 d ∧ ∀ s, exec p.2.1 s = decideRequest p.1 d s := by
  simp only [List.forall_mem_cons, List.not_mem_nil, false_imp_iff, implies_true, and_true]
  exact ⟨⟨_, regionPlace_names, fun _ => rfl⟩, ⟨_, regionAttributes_names, fun _ => rfl⟩,
    ⟨_, regionRetire_names, fun _ => rfl⟩, ⟨_, regionDiscard_names, fun _ => rfl⟩⟩

/-- Settles O13: the refusals come in the order of the naming's tests. -/
theorem editRefusals : Obligations.EditRefusals := by
  intro p hp
  obtain ⟨d, hd, hdecides⟩ := editRequests_name p hp
  simp only [hdecides]
  refine ⟨fun s h => decided_refused h (hd.refuses _ _ _ rfl), fun s rid rest h => ⟨fun hout => ?_,
    fun i hi => ⟨fun hunused => ?_, fun hused => ⟨fun hbuild => ?_, fun hbuild hretire hedits => ?_⟩⟩⟩⟩
  · exact decided_refused h (hd.refuses _ _ _ (namedSlot_outside hout))
  · exact decided_refused h (hd.refuses _ _ _ (namedSlot_unused hi hunused))
  · exact decided_refused h (hd.refuses _ _ _ (namedSlot_busy hi hused hbuild))
  · exact decided_refused h (hd.retiring hedits _ _ _ _ (namedSlot_free hi hused hbuild) hretire)

/-! ## Edits -/

theorem editBase_eq {r : Record} {base : Content} (h : r.pending = some base ∨ (r.pending = none ∧ r.live = some base)) :
    r.editBase = some base := by
  rw [Record.editBase]
  rcases h with h | ⟨h, hlive⟩ <;> rw [h]
  exact hlive

/-- An edit of a record that can be edited comes to what its change makes of the content (R25). -/
theorem edit_none {ps : List Byte} {base : Content} {change : List Byte → Content → Option Content}
    (h : s.namedSlot ps = .ok (i, rest)) (hretire : (s.record i).retirePending = false)
    (hbase : (s.record i).editBase = some base) (hchange : change rest base = none) :
    s.edit ps change = refused .badParam s := by
  rw [State.edit, h]
  refine (if_neg (Bool.eq_false_iff.mp hretire)).trans ?_
  rw [hbase, Option.bind_some, hchange]

theorem edit_some {ps : List Byte} {base x : Content} {change : List Byte → Content → Option Content}
    (h : s.namedSlot ps = .ok (i, rest)) (hretire : (s.record i).retirePending = false)
    (hbase : (s.record i).editBase = some base) (hchange : change rest base = some x) :
    s.edit ps change = answered (s.updRecord i (Record.edited x)) := by
  rw [State.edit, h]
  refine (if_neg (Bool.eq_false_iff.mp hretire)).trans ?_
  rw [hbase, Option.bind_some, hchange]

theorem partField_remove (g : Geometry) (layout : Layout) : partField g layout [0x00#8] = none := rfl

theorem placeChange_layout (g : Geometry) (layout : Layout) (bytes : List Byte) (x : Content) :
    placeChange g (layoutByte layout :: bytes) x =
      if bytes = [0x00#8] then if (x.part layout.other).isSome then some (x.setPart layout none) else none
      else (partField g layout bytes).map fun p => x.setPart layout (some p) := by
  rw [placeChange, layoutField_iff.mpr rfl, Option.bind_some]

theorem placeChange_part {g : Geometry} {layout : Layout} {bytes : List Byte} {p : Part}
    (h : partField g layout bytes = some p) (x : Content) :
    placeChange g (layoutByte layout :: bytes) x = some (x.setPart layout (some p)) := by
  have hne : bytes ≠ [0x00#8] := by
    rintro rfl
    cases h
  rw [placeChange_layout, if_neg hne, h, Option.map_some]

theorem placeChange_bad {g : Geometry} {ps : List Byte} (h : ∀ (layout : Layout) (bytes : List Byte),
      ps = layoutByte layout :: bytes → bytes ≠ [0x00] ∧ partField g layout bytes = none) (x : Content) :
    placeChange g ps x = none := by
  cases ps with
  | nil => rfl
  | cons l bytes =>
    cases hl : layoutField l with
    | none => rw [placeChange, hl, Option.bind_none]
    | some layout =>
      obtain rfl := layoutField_iff.mp hl
      obtain ⟨hne, hnone⟩ := h layout bytes rfl
      refine (placeChange_layout _ _ _ _).trans ((if_neg hne).trans ?_)
      rw [hnone, Option.map_none]

theorem attributesChange_bad {ps : List Byte} (h : ∀ e, attributeBlock ps = some e → e.any = false) (x : Content) :
    attributesChange ps x = none := by
  refine Option.bind_eq_none_iff.mpr fun e he => ?_
  exact if_neg (Bool.eq_false_iff.mp (h e he))

theorem attributesChange_any {ps : List Byte} {e : AttributeEdit} (h : attributeBlock ps = some e) (hany : e.any = true)
    (x : Content) : attributesChange ps x = some { x with attributes := e.apply x.attributes } := by
  rw [attributesChange, h, Option.bind_some]
  exact if_pos hany

/-- Settles O14: an admitted edit is the change that its parameters say, of the pending copy or of the live one. -/
theorem regionEdits : Obligations.RegionEdits := by
  intro s rid rest i base hi hused hbuild hretire hbase
  have hnamed : s.namedSlot (rid :: rest) = .ok (i, rest) := namedSlot_free hi hused hbuild
  have hcopy := editBase_eq hbase
  refine ⟨fun h => ⟨fun layout bytes p hrest hp => ?_, fun hrest => ⟨fun hnone => ?_, fun hsome => ?_⟩,
    fun hrest => ⟨fun hnone => ?_, fun hsome => ?_⟩, fun hbad => ?_, fun hremove hother => ?_⟩,
    fun h => ⟨fun e he => ⟨fun hany => ?_, fun hany => ?_⟩, fun hnone => ?_, fun hother => ?_⟩⟩
  · have hchange : placeChange s.geometry rest base = some (base.setPart layout (some p)) :=
      hrest ▸ placeChange_part hp base
    have hanswer : exec .regionPlace s = _ := decided_answered h (edit_some hnamed hretire hcopy hchange)
    cases layout <;> exact hanswer
  · refine decided_refused h (edit_none hnamed hretire hcopy ?_)
    rw [hrest]
    refine (placeChange_layout _ .folded _ _).trans ((if_pos rfl).trans (if_neg ?_))
    exact fun hother => Option.isSome_iff_ne_none.mp hother hnone
  · refine decided_answered h (edit_some hnamed hretire hcopy ?_)
    rw [hrest]
    exact (placeChange_layout _ .folded _ _).trans ((if_pos rfl).trans (if_pos (Option.isSome_iff_ne_none.mpr hsome)))
  · refine decided_refused h (edit_none hnamed hretire hcopy ?_)
    rw [hrest]
    refine (placeChange_layout _ .unfolded _ _).trans ((if_pos rfl).trans (if_neg ?_))
    exact fun hother => Option.isSome_iff_ne_none.mp hother hnone
  · refine decided_answered h (edit_some hnamed hretire hcopy ?_)
    rw [hrest]
    exact (placeChange_layout _ .unfolded _ _).trans ((if_pos rfl).trans (if_pos (Option.isSome_iff_ne_none.mpr hsome)))
  · exact decided_refused h (edit_none hnamed hretire hcopy (placeChange_bad hbad base))
  · refine decided_refused h (edit_none hnamed hretire hcopy (placeChange_bad (fun layout bytes hbytes => ⟨?_, ?_⟩) base))
    · rintro rfl
      exact hremove layout hbytes
    · refine Option.eq_none_iff_forall_ne_some.mpr fun p hp => ?_
      obtain ⟨hadmitted, rfl⟩ := partField_eq hp
      exact hother layout p hadmitted hbytes
  · exact decided_answered h (edit_some hnamed hretire hcopy (attributesChange_any he hany base))
  · refine decided_refused h (edit_none hnamed hretire hcopy (attributesChange_bad (fun e' he' => ?_) base))
    rw [he, Option.some_inj] at he'
    rwa [← he']
  · refine decided_refused h (edit_none hnamed hretire hcopy (attributesChange_bad (fun e' he' => ?_) base))
    rw [hnone] at he'
    cases he'
  · refine decided_refused h (edit_none hnamed hretire hcopy (attributesChange_bad (fun e he => ?_) base))
    obtain ⟨hrange, hbytes⟩ := attributeBlock_iff.mp he
    rw [← Bool.not_eq_true]
    exact fun hany => hother e hrange hany hbytes

/-! ## REGION RETIRE and REGION DISCARD -/

theorem regionRetire_ok {ps : List Byte} (h : s.namedSlot ps = .ok (i, rest)) : regionRetire ps s =
    if rest.isEmpty then if (s.record i).lifecycle = .staged then taken (s.enterQuarantine i)
      else answered (s.updRecord i Record.retiring)
    else refused .badParam s := by
  rw [regionRetire, h]

theorem regionDiscard_ok {ps : List Byte} (h : s.namedSlot ps = .ok (i, rest)) : regionDiscard ps s =
    if rest.isEmpty then if (s.record i).lifecycle = .staged then taken (s.enterQuarantine i)
      else answered (s.updRecord i Record.discarded)
    else refused .badParam s := by
  rw [regionDiscard, h]

theorem updRecord_id (s : State) (i : Slot) : s.updRecord i (fun r => r) = s := by
  have hset : Vec.modify s.table.slots i (fun r => r) = s.table.slots := Vector.set_getElem_self _
  rw [State.updRecord, hset]

/-- Settles O15: a STAGED record enters QUARANTINE, an IN_SERVICE one has its flags changed. -/
theorem retireAndDiscard : Obligations.RetireAndDiscard := by
  intro s rid i hi hbuild
  have hnamed (rest : List Byte) (hused : (s.record i).lifecycle = .staged ∨ (s.record i).lifecycle = .inService) :
      s.namedSlot (rid :: rest) = .ok (i, rest) := namedSlot_free hi hused hbuild
  refine ⟨fun hstaged => ⟨fun h => ?_, fun h => ?_⟩, fun hlife => ?_, fun b rest hused => ⟨fun h => ?_, fun h => ?_⟩⟩
  · exact decided_taken h ((regionRetire_ok (hnamed [] (.inl hstaged))).trans (if_pos hstaged))
  · exact decided_taken h ((regionDiscard_ok (hnamed [] (.inl hstaged))).trans (if_pos hstaged))
  · have hnot : (s.record i).lifecycle ≠ .staged := by
      rw [hlife]
      nofun
    refine ⟨fun h hretire => ?_, fun h hretire => ?_, fun h => ?_⟩
    · refine decided_answered h (((regionRetire_ok (hnamed [] (.inr hlife))).trans (if_neg hnot)).trans ?_)
      rw [updRecord_congr (f := Record.retiring) (g := fun r => r) (if_pos hretire), updRecord_id]
    · refine decided_answered h (((regionRetire_ok (hnamed [] (.inr hlife))).trans (if_neg hnot)).trans ?_)
      exact congrArg answered (updRecord_congr (if_neg (Bool.eq_false_iff.mp hretire)))
    · exact decided_answered h ((regionDiscard_ok (hnamed [] (.inr hlife))).trans (if_neg hnot))
  · exact decided_refused h (regionRetire_ok (hnamed (b :: rest) hused))
  · exact decided_refused h (regionDiscard_ok (hnamed (b :: rest) hused))

/-! ## REGION READ, TABLE SET and MAP READ -/

theorem regionRead_slot (h : slotOf rid.toNat = some i) : regionRead (rid :: rest) s =
    if rest.isEmpty then reported (.region (i.val + 1) (s.record i)) s else refused .badParam s := by
  rw [regionRead, h]
  rfl

theorem regionRead_outside (h : rid.toNat = 0 ∨ 32 < rid.toNat) : regionRead (rid :: rest) s = refused .badRegion s := by
  rw [regionRead, slotOf_outside h]

theorem tableSet_bad {ps : List Byte} (h : tableSetParams ps = none) : tableSet ps s = refused .badParam s := by
  rw [tableSet, h]

theorem tableSet_good {ps : List Byte} {len : Option Nat} {retain : Option Bool}
    (h : tableSetParams ps = some (len, retain)) : tableSet ps s = answered { s with table := { s.table with
      quarantineLength := len.getD s.table.quarantineLength, retain := retain.getD s.table.retain } } := by
  rw [tableSet, h]

theorem tableSetBytes_length (n : Nat) : tableSetBytes (some n) none = [0x01, byteOf n] :=
  congrArg (· :: [byteOf n]) (by decide : bitByte true 0 ||| bitByte false 1 = 0x01)

theorem tableSetBytes_retain (r : Bool) : tableSetBytes none (some r) = [0x02, boolByte r] :=
  congrArg (· :: [boolByte r]) (by decide : bitByte false 0 ||| bitByte true 1 = 0x02)

theorem tableSetBytes_both (n : Nat) (r : Bool) : tableSetBytes (some n) (some r) = [0x03, byteOf n, boolByte r] :=
  congrArg (· :: [byteOf n, boolByte r]) (by decide : bitByte true 0 ||| bitByte true 1 = 0x03)

theorem tableSetParams_length {n : Byte} (h : 1 ≤ n.toNat) (h' : n.toNat ≤ 15) :
    tableSetParams [0x01, n] = some (some n.toNat, none) :=
  tableSetParams_iff.mpr ⟨⟨rfl, fun k hk => by cases hk; exact ⟨h, h'⟩⟩, by
    rw [tableSetBytes_length, byteOf_of_toNat]⟩

theorem tableSetParams_retain (r : Bool) : tableSetParams [0x02, boolByte r] = some (none, some r) :=
  tableSetParams_iff.mpr ⟨⟨rfl, nofun⟩, (tableSetBytes_retain r).symm⟩

theorem tableSetParams_both {n : Byte} (h : 1 ≤ n.toNat) (h' : n.toNat ≤ 15) (r : Bool) :
    tableSetParams [0x03, n, boolByte r] = some (some n.toNat, some r) :=
  tableSetParams_iff.mpr ⟨⟨rfl, fun k hk => by cases hk; exact ⟨h, h'⟩⟩, by
    rw [tableSetBytes_both, byteOf_of_toNat]⟩

theorem tableSetParams_eq_none {ps : List Byte} (h : ∀ (n : Byte) (r : Bool),
      (ps = [0x01, n] ∨ ps = [0x03, n, boolByte r] → ¬ (1 ≤ n.toNat ∧ n.toNat ≤ 15)) ∧ ps ≠ [0x02, boolByte r]) :
    tableSetParams ps = none := by
  refine Option.eq_none_iff_forall_ne_some.mpr fun ⟨len, retain⟩ hsome => ?_
  obtain ⟨⟨hgiven, hrange⟩, rfl⟩ := tableSetParams_iff.mp hsome
  cases len with
  | none =>
    cases retain with
    | none => cases hgiven
    | some r => exact (h 0 r).2 (tableSetBytes_retain r)
  | some n =>
    have hn := hrange n rfl
    have hbyte : (byteOf n).toNat = n := byteOf_toNat (by omega)
    have hbad : ∀ r, ¬ (tableSetBytes (some n) retain = [0x01, byteOf n]
        ∨ tableSetBytes (some n) retain = [0x03, byteOf n, boolByte r]) :=
      fun r hbytes => (h (byteOf n) r).1 hbytes (by rwa [hbyte])
    cases retain with
    | none => exact hbad false (.inl (tableSetBytes_length n))
    | some r => exact hbad r (.inr (tableSetBytes_both n r))

theorem mapReadParams_tile {col row : Byte} (hcol : col.toNat ≤ 127) (hrow : row.toNat ≤ 111) :
    mapReadParams [col, row] = some (128 * row.toNat + col.toNat) := by
  refine (if_pos ⟨Nat.lt_succ_of_le hcol, Nat.lt_succ_of_le hrow⟩).trans ?_
  rw [tileAt, Config.tileColumns, Nat.mul_comm]

theorem mapReadParams_eq_none {ps : List Byte}
    (h : ∀ col row : Byte, ps = [col, row] → ¬ (col.toNat ≤ 127 ∧ row.toNat ≤ 111)) : mapReadParams ps = none := by
  unfold mapReadParams
  split
  next col row => exact if_neg fun hin => h col row rfl ⟨Nat.le_of_lt_succ hin.1, Nat.le_of_lt_succ hin.2⟩
  next => rfl

theorem mapRead_bad {ps : List Byte} (h : mapReadParams ps = none) : mapRead ps s = refused .badParam s := by
  rw [mapRead, h]

theorem mapRead_good {ps : List Byte} {t : Nat} (h : mapReadParams ps = some t) :
    mapRead ps s = reported (.map (s.mapReport t)) s := by
  rw [mapRead, h]

theorem mapRead_answers {col row : Byte} (h : s.Holds 0x31 [col, row]) (hcol : col.toNat ≤ 127) (hrow : row.toNat ≤ 111) :
    exec .mapRead s = .next (s.responds 0x31 .ok (.map (s.mapReport (128 * row.toNat + col.toNat)))) :=
  decided_reported h (mapRead_good (mapReadParams_tile hcol hrow))

/-- Settles O16: the parameters are tested, and the answer is the held state. -/
theorem tableAndMapReads : Obligations.TableAndMapReads := by
  refine ⟨fun s => ⟨fun rid i h hi => ?_, fun rid rest h hout => ?_, fun h => ?_, fun rid b rest h hlow hhigh => ?_,
    fun n hlow hhigh h => ?_, fun r h => ?_, fun n r hlow hhigh h => ?_, fun ps h hbad => ?_⟩,
    fun s => ⟨fun col row h hcol hrow => ?_, fun ps h hbad => ?_⟩⟩
  · exact decided_reported h (regionRead_slot (slotOf_id hi))
  · exact decided_refused h (regionRead_outside hout)
  · exact decided_refused h rfl
  · obtain ⟨i, hi⟩ := slotOf_inside hlow hhigh
    exact decided_refused h (regionRead_slot hi)
  · exact decided_answered h (tableSet_good (tableSetParams_length hlow hhigh))
  · exact decided_answered h (tableSet_good (tableSetParams_retain r))
  · exact decided_answered h (tableSet_good (tableSetParams_both hlow hhigh r))
  · exact decided_refused h (tableSet_bad (tableSetParams_eq_none hbad))
  · rw [mapRead_answers h hcol hrow, State.mapReport]
    cases s.engine.active.owner (128 * row.toNat + col.toNat) <;> rfl
  · exact decided_refused h (mapRead_bad (mapReadParams_eq_none hbad))

/-! ## Generations -/

theorem exec_moves {c : Instr} {t : State} (h : exec c s = .next t) (i : Slot) : RecordMoves c (s.record i) (t.record i) :=
  (exec_settles h).chain.keeps (law := fun u => RecordMoves c (s.record i) (u.record i))
    (fun _ _ h hs => hs.trans (h.moves i)) .refl

/-- Where no slot is claimed, a Generation stands or RESETN has set it to 0 (R24, R42). -/
theorem RecordMoves.generation {c : Instr} {r q : Record} (hc : c ≠ .regionCreate) (h : RecordMoves c r q) :
    q.generation = r.generation ∨ (c = .resetnAssert ∧ q.generation = 0) := by
  refine h.keeps (P := fun q => q.generation = r.generation ∨ (c = .resetnAssert ∧ q.generation = 0)) ?_ (.inl rfl)
  intro p q hmove hp
  cases hmove with
  | claimed x hcreate => exact absurd hcreate hc
  | cleared hreset => exact .inr ⟨hreset, rfl⟩
  | retiring =>
    unfold Record.retiring
    split <;> exact hp
  | tick =>
    unfold Record.quarantineTick
    repeat' split
    all_goals exact hp
  | settled length excluded =>
    unfold Record.settled
    repeat' split
    all_goals exact hp
  | given showing owned =>
    unfold Record.given
    repeat' split
    all_goals exact hp
  | restart retain =>
    unfold Record.restart
    repeat' split
    all_goals exact hp
  | _ => exact hp

/-- REGION CREATE answers without a change of the records, or claims a FREE slot (R24). -/
theorem exec_regionCreate_table {t : State} (h : exec .regionCreate s = .next t) : t.table = s.table
    ∨ ∃ (j : Slot) (x : Content), (s.record j).lifecycle = .free ∧ t.table = (s.updRecord j (Record.claimed x)).table := by
  by_cases hheld : ∃ ps, s.Holds 0x20 ps
  · obtain ⟨ps, hps⟩ := hheld
    cases hx : regionCreateParams s.geometry ps with
    | none =>
      have hanswer : exec .regionCreate s = _ := decided_refused hps (regionCreate_bad hx)
      cases hanswer.symm.trans h
      exact .inl rfl
    | some x =>
      cases hslot : s.freeSlot with
      | none =>
        have hdecide : Machine.regionCreate ps s = refused .noSlot s := by
          rw [Machine.regionCreate, hx]
          dsimp only
          rw [hslot]
        have hanswer : exec .regionCreate s = _ := decided_refused hps hdecide
        cases hanswer.symm.trans h
        exact .inl rfl
      | some j =>
        have hdecide : Machine.regionCreate ps s =
            reported (.created (regionId j) (nextGeneration (s.record j).generation)) (s.updRecord j (Record.claimed x)) := by
          rw [Machine.regionCreate, hx]
          dsimp only
          rw [hslot]
        have hanswer : exec .regionCreate s = _ := decided_reported hps hdecide
        cases hanswer.symm.trans h
        exact .inr ⟨j, x, freeSlot_free hslot, rfl⟩
  · have hanswer : exec .regionCreate s = .next s := decideRequest_else (not_exists.mp hheld)
    cases hanswer.symm.trans h
    exact .inl rfl

/-- Settles O17: of what happens to a record, a claim and RESETN alone write its Generation. -/
theorem generationsHold : Obligations.GenerationsHold := by
  intro c s t i h hne
  by_cases hc : c = .regionCreate
  · subst hc
    rcases exec_regionCreate_table h with htable | ⟨j, x, hfree, htable⟩
    · rw [State.record, htable] at hne
      exact absurd rfl hne
    · have hrecord : t.record i = (s.updRecord j (Record.claimed x)).record i := by rw [State.record, htable, State.record]
      by_cases hij : j = i
      · subst hij
        rw [record_updRecord_self] at hrecord
        rw [hrecord]
        exact .inl ⟨rfl, hfree, rfl, nextGeneration_ne_zero _, rfl⟩
      · rw [record_updRecord_ne _ _ _ _ hij] at hrecord
        rw [hrecord] at hne
        exact absurd rfl hne
  · exact .inr (((exec_moves h i).generation hc).resolve_left hne)

end Sys2Proof.Machine

/-! CLAIM. The Placement Engine: COMMIT, the snapshot of a build, the claims, and the completion of a build (R32, R33,
R35, R49 to R56, R58, R63, R101, R130, R131). -/

namespace Sys2Proof.Machine

variable {s : State}

/-! ## COMMIT -/

theorem anyCommittable_iff (s : State) :
    s.anyCommittable = true ↔ ∃ i : Slot, (s.record i).commitPending = true ∧ (s.record i).inBuild = false := by
  simp [State.anyCommittable, Record.committable, slotList]

theorem anyCommittable_eq_false (s : State) :
    s.anyCommittable = false ↔ ∀ i : Slot, ¬ ((s.record i).commitPending = true ∧ (s.record i).inBuild = false) := by
  rw [← Bool.not_eq_true, anyCommittable_iff, not_exists]

theorem commit_busy (h : s.transition.state = .building ∨ s.transition.state = .blanking
      ∨ s.transition.state = .holding ∨ s.transition.state = .settling) : Machine.commit [] s = refused .busy s := by
  rw [Machine.commit, withoutParams_nil]
  rcases h with h | h | h | h <;> rw [h]

theorem commit_prepare (h : s.transition.state = .prepare) : Machine.commit [] s =
    { state := s.updTransition fun q => { q with commitJoined := true }, result := .accepted, data := .empty } := by
  rw [Machine.commit, withoutParams_nil, h]

theorem commit_steady (h : s.transition.state = .steady) : Machine.commit [] s = s.commitSteady := by
  rw [Machine.commit, withoutParams_nil, h]

theorem commitSteady_latched (h : s.engine.claims.commitLatch = true) :
    s.commitSteady = { state := s, result := .accepted, data := .empty } := if_pos h

theorem commitSteady_nothing (h : s.engine.claims.commitLatch = false) (hnone : s.anyCommittable = false) :
    s.commitSteady = answered s := by
  rw [State.commitSteady, h, hnone]
  rfl

theorem commitSteady_build (h : s.engine.claims.commitLatch = false) (hany : s.anyCommittable = true)
    (hidle : s.engine.phase = .idle) : s.commitSteady =
      { state := s.startBuild .commit s.engine.active.layout, result := .accepted, data := .empty } := by
  have hengine : s.engineIdle = true := decide_eq_true hidle
  rw [State.commitSteady, h, hany, hengine]
  rfl

theorem commitSteady_latch (h : s.engine.claims.commitLatch = false) (hany : s.anyCommittable = true)
    (hbusy : s.engine.phase ≠ .idle) : s.commitSteady =
      { state := s.updClaims fun c => { c with commitLatch := true }, result := .accepted, data := .empty } := by
  have hengine : s.engineIdle = false := decide_eq_false hbusy
  rw [State.commitSteady, h, hany, hengine]
  rfl

theorem decided_accepted {code : Byte} {d : List Byte → State → Decision} {t : State} {ps : List Byte}
    (h : s.Holds code ps) (hx : d ps s = { state := t, result := .accepted, data := .empty }) :
    decideRequest code d s = .next (t.responds code .accepted .empty) := decided h hx

/-- Settles O19: by the Transition State, the latch, the committable records and the engine. -/
theorem PlacementEngine.commit : Obligations.Commit := by
  refine fun s h => ⟨fun hstate => ?_, fun hstate => ?_, fun hstate => ⟨fun hlatch => ?_, fun hlatch => ⟨fun hnone => ?_,
    fun hany => ⟨fun hidle => ?_, fun hbusy => ?_⟩⟩⟩⟩
  · exact decided_refused h (commit_busy hstate)
  · exact decided_accepted h (commit_prepare hstate)
  · exact decided_accepted h ((commit_steady hstate).trans (commitSteady_latched hlatch))
  · exact decided_answered h
      ((commit_steady hstate).trans (commitSteady_nothing hlatch ((anyCommittable_eq_false s).mpr hnone)))
  · exact decided_accepted h
      ((commit_steady hstate).trans (commitSteady_build hlatch ((anyCommittable_iff s).mpr hany) hidle))
  · exact decided_accepted h
      ((commit_steady hstate).trans (commitSteady_latch hlatch ((anyCommittable_iff s).mpr hany) hbusy))

/-! ## What a slot contributes -/

variable {r : Record} {x : Content}

theorem pendingContribution_leaving (h : r.retirePending = true) : r.pendingContribution = .leaving := if_pos h

theorem pendingContribution_taken (h : r.retirePending = false) (hpending : r.pending = some x) :
    r.pendingContribution = .taken x true := by
  rw [Record.pendingContribution, h, hpending]
  rfl

theorem liveContribution_taken (h : r.live = some x) : r.liveContribution = .taken x false := by
  rw [Record.liveContribution, h]

theorem contribution_unused (h : r.lifecycle = .free ∨ r.lifecycle = .quarantine) (kind : BuildKind) (joined : Bool) :
    r.contribution kind joined = .absent := by
  rcases h with h | h <;> cases kind <;>
    simp [Record.contribution, Record.commitContribution, Record.targetContribution, Record.restoreContribution,
      Record.excluded, h]

theorem commitContribution_pending (hlife : r.lifecycle = .staged ∨ r.lifecycle = .inService)
    (hpending : r.commitPending = true) : r.commitContribution = r.pendingContribution := by
  rcases hlife with h | h <;> rw [Record.commitContribution, h]
  exact if_pos hpending

theorem commitContribution_live (hlife : r.lifecycle = .inService) (hpending : r.commitPending = false)
    (hlive : r.live = some x) :
    r.commitContribution = if r.showing = .suppressed then .carried x else .taken x false := by
  rw [Record.commitContribution, hlife, hpending, Record.liveContribution, hlive]
  cases r.showing <;> rfl

theorem targetContribution_excluded {joined : Bool} (hlife : r.lifecycle = .inService) (hlive : r.live = some x)
    (hshown : r.showing = .shown) (hephemeral : x.attributes.ephemeral = true) :
    r.targetContribution joined = .excluded := by
  have hexcluded : r.excluded = true := by simp [Record.excluded, hlife, hshown, hlive, hephemeral]
  rw [Record.targetContribution, hexcluded]
  rfl

theorem excluded_eq_false (hlive : r.live = some x) (h : ¬ (r.showing = .shown ∧ x.attributes.ephemeral = true)) :
    r.excluded = false := by
  rw [← Bool.not_eq_true]
  intro hexcluded
  simp only [Record.excluded, hlive, Option.any_some, Bool.and_eq_true, decide_eq_true_eq] at hexcluded
  exact h ⟨hexcluded.1.2, hexcluded.2⟩

theorem committable_iff : r.committable = true ↔ r.commitPending = true ∧ r.inBuild = false := by
  simp [Record.committable]

theorem targetContribution_joins (hlife : r.lifecycle = .inService) (hexcluded : r.excluded = false)
    (h : r.commitPending = true ∧ r.inBuild = false) : r.targetContribution true = r.pendingContribution := by
  rw [Record.targetContribution, hexcluded, hlife, committable_iff.mpr h]
  rfl

theorem targetContribution_stays {joined : Bool} (hlife : r.lifecycle = .inService) (hexcluded : r.excluded = false)
    (h : ¬ (joined = true ∧ r.commitPending = true ∧ r.inBuild = false)) :
    r.targetContribution joined = r.liveContribution := by
  have hnot : ¬ (joined && r.committable) = true := by
    rw [Bool.and_eq_true, committable_iff]
    exact h
  rw [Record.targetContribution, hexcluded, hlife]
  exact if_neg hnot

theorem targetContribution_staged {joined : Bool} (hlife : r.lifecycle = .staged) (hpending : r.pending = some x)
    (hcommit : r.commitPending = true) (hbuild : r.inBuild = false) (hretire : r.retirePending = false) :
    r.targetContribution joined = if joined then .taken x true else .absent := by
  have hexcluded : r.excluded = false := by simp [Record.excluded, hlife]
  rw [Record.targetContribution, hexcluded, hlife, committable_iff.mpr ⟨hcommit, hbuild⟩,
    pendingContribution_taken hretire hpending]
  cases joined <;> rfl

/-- The build that a start makes (R49, R54, R55, R56). -/
def State.startedBuild (s : State) (kind : BuildKind) (layout : Layout) : Build :=
  { kind, layout, snapshot := Vec.tabulate fun i => (s.record i).contribution kind s.transition.commitJoined,
    geometry := s.geometry, reference := s.engine.active }

theorem startedBuild_snapshot (s : State) (kind : BuildKind) (layout : Layout) (i : Slot) :
    (s.startedBuild kind layout).snapshot[i] = (s.record i).contribution kind s.transition.commitJoined :=
  snapshot_startBuild s kind i

/-- Settles O20: each slot contributes by its record, the kind and Commit Joined. -/
theorem buildTakesSnapshot : Obligations.BuildTakesSnapshot := by
  refine fun s kind layout => ⟨s.startedBuild kind layout, rfl, rfl, rfl, rfl, rfl, fun i => ?_⟩
  rw [startedBuild_snapshot]
  generalize s.record i = r
  refine ⟨fun h => contribution_unused h _ _, fun hkind hcommit hlife => ?_, fun x hkind hcommit hlife hlive => ?_,
    fun x hkind hlife hlive => ⟨fun hshown hephemeral => ?_, fun hnot => ⟨fun hjoined hcommit hbuild => ?_,
      fun hstays => ?_⟩⟩, fun x hkind hlife hpending hcommit hbuild hretire => ?_, fun hkind hlife => ?_,
    fun x hkind hlife hlive => ?_⟩ <;> subst hkind
  · have h : r.contribution .commit s.transition.commitJoined = r.pendingContribution :=
      commitContribution_pending hlife hcommit
    rw [h]
    exact ⟨pendingContribution_leaving, fun x => pendingContribution_taken⟩
  · exact commitContribution_live hlife hcommit hlive
  · exact targetContribution_excluded hlife hlive hshown hephemeral
  · have h : r.contribution .target s.transition.commitJoined = r.pendingContribution := by
      rw [hjoined]
      exact targetContribution_joins hlife (excluded_eq_false hlive hnot) ⟨hcommit, hbuild⟩
    rw [h]
    exact ⟨pendingContribution_leaving, fun x => pendingContribution_taken⟩
  · exact (targetContribution_stays hlife (excluded_eq_false hlive hnot) hstays).trans (liveContribution_taken hlive)
  · exact targetContribution_staged hlife hpending hcommit hbuild hretire
  · rw [Record.contribution, Record.restoreContribution, hlife]
  · rw [Record.contribution, Record.restoreContribution, hlife]
    exact liveContribution_taken hlive

/-! ## Claims -/

theorem takeClaim_restore (hidle : s.engine.phase = .idle) (h : s.engine.claims.restore = true) :
    s.takeClaim = (s.updClaims fun c => { c with restore := false }).startBuild .restore s.engine.active.layout := by
  rw [State.takeClaim, hidle]
  exact if_pos h

theorem takeClaim_target {layout : Layout} (hidle : s.engine.phase = .idle) (h : s.engine.claims.restore = false)
    (htarget : s.engine.claims.target = some layout) : s.takeClaim = s.takeTarget layout := by
  rw [State.takeClaim, hidle]
  refine (if_neg (Bool.eq_false_iff.mp h)).trans ?_
  rw [htarget]

theorem takeClaim_latch (hidle : s.engine.phase = .idle) (h : s.engine.claims.restore = false)
    (htarget : s.engine.claims.target = none) (hlatch : s.engine.claims.commitLatch = true) :
    s.takeClaim = s.takeLatch := by
  rw [State.takeClaim, hidle]
  refine (if_neg (Bool.eq_false_iff.mp h)).trans ?_
  rw [htarget]
  exact if_pos hlatch

theorem takeLatch_builds (h : s.anyCommittable = true) : s.takeLatch =
    (s.updClaims fun c => { c with commitLatch := false }).startBuild .commit s.engine.active.layout := by
  rw [State.takeLatch]
  exact if_pos h

theorem takeLatch_done (h : s.anyCommittable = false) : s.takeLatch =
    (s.updClaims fun c => { c with commitLatch := false }).setFlag .commitDone := by
  rw [State.takeLatch]
  exact if_neg (Bool.eq_false_iff.mp h)

/-- Settles O22: RESTORE, then TARGET, then COMMIT. -/
theorem claimPrecedence : Obligations.ClaimPrecedence := by
  refine fun s hreset hidle => ⟨takeClaim_restore hidle, fun layout => takeClaim_target hidle,
    fun hrestore htarget hlatch => ⟨fun hany => ?_, fun hnone => ?_⟩, fun hrestore htarget hlatch => ?_⟩
  · rw [takeClaim_latch hidle hrestore htarget hlatch, takeLatch_builds ((anyCommittable_iff s).mpr hany)]
    rfl
  · rw [takeClaim_latch hidle hrestore htarget hlatch, takeLatch_done ((anyCommittable_eq_false s).mpr hnone),
      setFlag_eq _ _ (by exact hreset)]
    rfl
  · refine takeClaim_none s ?_
    rw [Claims.waits, hrestore, htarget, hlatch]
    rfl

/-! ## BUILD_COMPLETE -/

theorem exec_buildComplete {b : Build} (h : s.engine.phase = .building b) :
    exec .buildComplete s = .next (s.completeBuild b) := by
  change execBuildComplete s = _
  rw [execBuildComplete, h]

theorem exec_buildComplete_else (h : ∀ b : Build, s.engine.phase ≠ .building b) : exec .buildComplete s = .next s := by
  change execBuildComplete s = _
  unfold execBuildComplete
  split
  next b hb => exact absurd hb (h b)
  · rfl
  · rfl
  · rfl

theorem completeBuild_ready {b : Build} (h : (b.kind = .commit ∧ b.conflict = none) ∨ b.kind = .restore) :
    s.completeBuild b = s.becomeReady b := by
  rcases h with ⟨hkind, hconflict⟩ | hkind
  · rw [State.completeBuild, hkind]
    dsimp only
    rw [hconflict]
  · rw [State.completeBuild, hkind]

theorem completeBuild_fails {b : Build} {pair : Slot × Slot} (hkind : b.kind = .commit) (hconflict : b.conflict = some pair) :
    s.completeBuild b = s.failBuild pair := by
  rw [State.completeBuild, hkind]
  dsimp only
  rw [hconflict]

theorem completeBuild_target {b : Build} (hkind : b.kind = .target) :
    s.completeBuild b = ((s.becomeReady b).beginBlanking).finish := by
  rw [State.completeBuild, hkind]

theorem failBuild_eq (hreset : s.inReset = false) (i j : Slot) : s.failBuild (i, j) = State.takeClaim { s with
    engine := { s.engine with phase := .idle, conflict := (i.val + 1, j.val + 1) }
    table := { s.table with slots := Vec.tabulate fun n => { s.record n with inBuild := false } }
    port := { s.port with flags := s.port.flags ||| EventFlag.commitFailed.bit } } := by
  rw [State.failBuild, setFlag_eq _ _ (by exact hreset)]
  rfl

/-- While BLANKING is on with a TARGET map READY, the tiles Changed in it are held back (R131). -/
theorem heldBack_blanking {b : Build} {m : Map} (hphase : s.engine.phase = .ready b m) (hkind : b.kind = .target)
    (hstate : s.transition.state = .blanking) (t : Nat) : s.heldBack t = m.changed t := by
  rw [State.heldBack, State.blankingOn, hstate, State.targetMap, hphase]
  dsimp only
  rw [if_pos hkind]
  rfl

theorem beginBlanking_eq {b : Build} (hkind : b.kind = .target) : (s.becomeReady b).beginBlanking =
    { s with
      engine := { s.engine with phase := .ready b b.map }
      transition := { s.transition with state := .blanking }
      link := { s.link with
        streamWaiting := s.link.streamWaiting.filter fun w => !b.map.changed w.tile
        flight := match s.link.flight with
          | some (.tile w) => if w.kind = .stream ∧ b.map.changed w.tile = true then none else some (.tile w)
          | f => f }
      router := { s.router with handing := s.router.handing.filter fun w => !b.map.changed w.tile }
      fill := { s.fill with queue := .blank :: s.fill.queue.filter fun k => k ≠ .blank } } := by
  have hheld : State.heldBack ((s.becomeReady b).updTransition fun q => { q with state := .blanking }) = b.map.changed :=
    funext (heldBack_blanking (b := b) rfl hkind rfl)
  rw [State.beginBlanking, State.dropHeldBack, hheld]
  rfl

/-- Settles O21: by the kind of the build, and of a COMMIT build by its conflict. -/
theorem buildComplete : Obligations.BuildComplete := by
  refine ⟨fun s b _ hphase hkind => ?_, fun s hreset => ⟨fun b hphase => ⟨fun i j hkind hconflict => ?_, fun h => ?_,
    fun hkind => ?_⟩, exec_buildComplete_else⟩⟩
  · rw [exec_buildComplete hphase, completeBuild_ready (.inr hkind)]
    rfl
  · rw [exec_buildComplete hphase, completeBuild_fails hkind hconflict, failBuild_eq hreset]
  · rw [exec_buildComplete hphase, completeBuild_ready h]
    rfl
  · exact (exec_buildComplete hphase).trans (congrArg Host.Outcome.next
      ((completeBuild_target hkind).trans (congrArg State.finish (beginBlanking_eq hkind))))

end Sys2Proof.Machine

/-! CLAIM. Conflicts, suppression and the map of a build (R8, R46, R57 to R62). -/

namespace Sys2Proof.Machine

/-! ## The first of a sorted list -/

/-- In a sorted list the first entry that passes is the one that comes before all others that pass. -/
theorem find?_sorted {α : Type} {R : α → α → Prop} {p : α → Bool} {l : List α} (hl : l.Pairwise R)
    (hasymm : ∀ x y, R x y → ¬ R y x) (x : α) :
    l.find? p = some x ↔ x ∈ l ∧ p x = true ∧ ∀ y ∈ l, p y = true → x = y ∨ R x y := by
  have first {z : α} (hz : l.find? p = some z) : z ∈ l ∧ p z = true ∧ ∀ y ∈ l, p y = true → z = y ∨ R z y := by
    obtain ⟨hp, before, after, rfl, hbefore⟩ := List.find?_eq_some_iff_append.mp hz
    refine ⟨List.mem_append_right _ List.mem_cons_self, hp, fun y hy hpy => ?_⟩
    rcases List.mem_append.mp hy with hy | hy
    · exact absurd hpy (by simpa using hbefore y hy)
    · rcases List.mem_cons.mp hy with rfl | hy
      · exact .inl rfl
      · exact .inr (List.rel_of_pairwise_cons (List.pairwise_append.mp hl).2.1 hy)
  refine ⟨first, fun ⟨hx, hpx, hfirst⟩ => ?_⟩
  cases hfound : l.find? p with
  | none => exact absurd hpx (List.find?_eq_none.mp hfound x hx)
  | some z =>
    obtain ⟨hz, hpz, hzfirst⟩ := first hfound
    rcases hfirst z hz hpz with rfl | hxz
    · rfl
    · rcases hzfirst x hx hpx with rfl | hzx
      · rfl
      · exact absurd hzx (hasymm _ _ hxz)

/-! ## Conflicts -/

theorem meets_iff (a b : Rect) : a.meets b = true ↔
    a.baseCol ≤ b.limitCol ∧ b.baseCol ≤ a.limitCol ∧ a.baseRow ≤ b.limitRow ∧ b.baseRow ≤ a.limitRow := by
  rw [Rect.meets, decide_eq_true_eq]

theorem overlaps_iff (p q : Part) : p.overlaps q = true ↔ p.face = q.face ∧ p.zLevel = q.zLevel
    ∧ p.rect.baseCol ≤ q.rect.limitCol ∧ q.rect.baseCol ≤ p.rect.limitCol
    ∧ p.rect.baseRow ≤ q.rect.limitRow ∧ q.rect.baseRow ≤ p.rect.limitRow := by
  rw [Part.overlaps, Bool.and_eq_true, Bool.and_eq_true, decide_eq_true_eq, decide_eq_true_eq, meets_iff, and_assoc]

variable {b : Build}

/-- The candidates of two slots overlap in one of the layouts (R57, R58). -/
def Build.Clash (b : Build) (i j : Slot) : Prop :=
  ∃ (layout : Layout) (p q : Part), b.snapshot[i].candidate layout = some p ∧
    b.snapshot[j].candidate layout = some q ∧ p.overlaps q = true

theorem overlapIn_iff (b : Build) (layout : Layout) (i j : Slot) : b.overlapIn layout i j = true ↔
    ∃ p q, b.snapshot[i].candidate layout = some p ∧ b.snapshot[j].candidate layout = some q
      ∧ p.overlaps q = true := by
  unfold Build.overlapIn
  cases b.snapshot[i].candidate layout <;> cases b.snapshot[j].candidate layout <;> simp

theorem clash_iff (b : Build) (i j : Slot) :
    (b.overlapIn .folded i j || b.overlapIn .unfolded i j) = true ↔ b.Clash i j := by
  rw [Bool.or_eq_true, overlapIn_iff, overlapIn_iff]
  constructor
  · rintro (h | h)
    · exact ⟨.folded, h⟩
    · exact ⟨.unfolded, h⟩
  · rintro ⟨layout, h⟩
    cases layout with
    | folded => exact .inl h
    | unfolded => exact .inr h

/-- The order of the pairs: by the lower, then by the higher Region ID (R58). -/
def PairBefore (a b : Slot × Slot) : Prop := a.1 < b.1 ∨ (a.1 = b.1 ∧ a.2 < b.2)

theorem pairBefore_asymm (a b : Slot × Slot) (h : PairBefore a b) : ¬ PairBefore b a := by
  rcases h with h | ⟨he, h⟩
  · rintro (h' | ⟨he', -⟩)
    · exact h.asymm h'
    · exact h.ne' he'
  · rintro (h' | ⟨-, h'⟩)
    · exact h'.ne' he
    · exact h.asymm h'

theorem mem_slotPairs (a : Slot × Slot) : a ∈ slotPairs ↔ a.1 < a.2 := by
  obtain ⟨i, j⟩ := a
  simp [slotPairs, slotList]

theorem slotPairs_sorted : slotPairs.Pairwise PairBefore := by
  refine List.pairwise_flatMap.mpr ⟨fun i _ => ?_, slotList_pairwise.imp fun {i k} hik a ha c hc => ?_⟩
  · exact List.pairwise_map.mpr ((slotList_pairwise.filter _).imp fun h => .inr ⟨rfl, h⟩)
  · obtain ⟨_, _, rfl⟩ := List.mem_map.mp ha
    obtain ⟨_, _, rfl⟩ := List.mem_map.mp hc
    exact .inl hik

/-- The conflict pair is the first of the pairs that clash (R58). -/
theorem conflict_eq_some (b : Build) (i j : Slot) : b.conflict = some (i, j) ↔
    i < j ∧ b.Clash i j ∧ ∀ k l : Slot, k < l → b.Clash k l → i < k ∨ (i = k ∧ j ≤ l) := by
  rw [Build.conflict, find?_sorted slotPairs_sorted pairBefore_asymm, mem_slotPairs, clash_iff]
  refine and_congr_right fun _ => and_congr_right fun _ => ⟨fun h k l hkl hclash => ?_, fun h y hy hclash => ?_⟩
  · rcases h (k, l) ((mem_slotPairs _).mpr hkl) ((clash_iff b k l).mpr hclash) with heq | hik | ⟨hik, hjl⟩
    · cases heq
      exact .inr ⟨rfl, le_refl _⟩
    · exact .inl hik
    · exact .inr ⟨hik, hjl.le⟩
  · obtain ⟨k, l⟩ := y
    rcases h k l ((mem_slotPairs _).mp hy) ((clash_iff b k l).mp hclash) with hik | ⟨rfl, hjl⟩
    · exact .inr (.inl hik)
    · rcases hjl.eq_or_lt with rfl | hjl
      · exact .inl rfl
      · exact .inr (.inr ⟨rfl, hjl⟩)

theorem conflict_eq_none (b : Build) : b.conflict = none ↔ ∀ i j : Slot, i < j → ¬ b.Clash i j := by
  rw [Build.conflict, List.find?_eq_none]
  exact ⟨fun h i j hij hclash => h (i, j) ((mem_slotPairs _).mpr hij) ((clash_iff b i j).mpr hclash),
    fun h a ha hclash => h a.1 a.2 ((mem_slotPairs a).mp ha) ((clash_iff b a.1 a.2).mp hclash)⟩

/-! ## Suppression -/

/-- Candidates in ascending Region ID. -/
abbrev Ascending (l : List (Slot × Part)) : Prop := l.Pairwise fun x y => x.1 < y.1

theorem keepFree_sublist (kept l : List (Slot × Part)) : (keepFree kept l).Sublist (kept ++ l) := by
  induction l generalizing kept with
  | nil => exact (List.append_nil kept).symm ▸ List.Sublist.refl kept
  | cons x rest ih =>
    rw [keepFree]
    split
    · exact (ih kept).trans ((List.Sublist.refl kept).append (List.sublist_cons_self x rest))
    · have h := ih (kept ++ [x])
      rwa [List.append_assoc] at h

theorem subset_keepFree {kept l : List (Slot × Part)} {x : Slot × Part} (h : x ∈ kept) : x ∈ keepFree kept l := by
  induction l generalizing kept with
  | nil => exact h
  | cons y rest ih =>
    rw [keepFree]
    split
    · exact ih h
    · exact ih (List.mem_append_left _ h)

/-- Of candidates in ascending Region ID each one is kept that overlaps no lower-numbered kept one (R59). -/
theorem mem_keepFree_iff {kept l : List (Slot × Part)} (hsorted : Ascending (kept ++ l)) (x : Slot × Part) :
    x ∈ keepFree kept l ↔
      x ∈ kept ∨ (x ∈ l ∧ ∀ k ∈ keepFree kept l, k.1 < x.1 → k.2.overlaps x.2 = false) := by
  induction l generalizing kept with
  | nil => simp [keepFree]
  | cons y rest ih =>
    have hbelow : ∀ k ∈ kept, k.1 < y.1 := fun k hk => (List.pairwise_append.mp hsorted).2.2 k hk y List.mem_cons_self
    have habove : ∀ k ∈ rest, y.1 < k.1 :=
      fun k hk => List.rel_of_pairwise_cons (List.pairwise_append.mp hsorted).2.1 hk
    rw [keepFree]
    split
    next hany =>
      have hrest : Ascending (kept ++ rest) :=
        hsorted.sublist ((List.Sublist.refl kept).append (List.sublist_cons_self y rest))
      rw [ih hrest]
      refine or_congr_right ⟨fun ⟨hx, hfree⟩ => ⟨List.mem_cons_of_mem _ hx, hfree⟩, fun ⟨hx, hfree⟩ => ⟨?_, hfree⟩⟩
      rcases List.mem_cons.mp hx with rfl | hx
      · obtain ⟨k, hk, hoverlaps⟩ := List.any_eq_true.mp hany
        exact absurd hoverlaps (Bool.eq_false_iff.mp (hfree k (subset_keepFree hk) (hbelow k hk)))
      · exact hx
    next hany =>
      have hrest : Ascending ((kept ++ [y]) ++ rest) := by rwa [List.append_assoc]
      have hfree : ∀ k ∈ keepFree (kept ++ [y]) rest, k.1 < y.1 → k.2.overlaps y.2 = false := by
        intro k hk hlt
        rcases List.mem_append.mp ((keepFree_sublist _ _).subset hk) with hk | hk
        · rcases List.mem_append.mp hk with hk | hk
          · rw [← Bool.not_eq_true]
            exact fun hoverlaps => hany (List.any_eq_true.mpr ⟨k, hk, hoverlaps⟩)
          · rw [List.mem_singleton.mp hk] at hlt
            exact absurd hlt (lt_irrefl _)
        · exact absurd (hlt.trans (habove k hk)) (lt_irrefl _)
      rw [ih hrest, List.mem_append, List.mem_singleton, List.mem_cons]
      constructor
      · rintro ((hx | rfl) | ⟨hx, h⟩)
        · exact .inl hx
        · exact .inr ⟨.inl rfl, hfree⟩
        · exact .inr ⟨.inr hx, h⟩
      · rintro (hx | ⟨rfl | hx, h⟩)
        · exact .inl (.inl hx)
        · exact .inl (.inr rfl)
        · exact .inr ⟨hx, h⟩

theorem candidates_ascending (b : Build) (layout : Layout) : Ascending (b.candidates layout) := by
  refine List.pairwise_filterMap.mpr (slotList_pairwise.imp fun {i j} hij x hx y hy => ?_)
  obtain ⟨_, _, rfl⟩ := Option.map_eq_some_iff.mp hx
  obtain ⟨_, _, rfl⟩ := Option.map_eq_some_iff.mp hy
  exact hij

theorem kept_commit (h : b.kind = .commit) : b.kept = b.candidates b.layout := by rw [Build.kept, h]

theorem kept_else (h : b.kind ≠ .commit) : b.kept = keepFree [] (b.candidates b.layout) := by
  rw [Build.kept]
  cases hkind : b.kind with
  | commit => exact absurd hkind h
  | target => rfl
  | restore => rfl

theorem kept_ascending (b : Build) : Ascending b.kept := by
  by_cases hkind : b.kind = .commit
  · rw [kept_commit hkind]
    exact candidates_ascending b _
  · rw [kept_else hkind]
    exact (candidates_ascending b _).sublist (keepFree_sublist [] _)

theorem mem_kept_commit (h : b.kind = .commit) (i : Slot) (p : Part) :
    (i, p) ∈ b.kept ↔ b.snapshot[i].candidate b.layout = some p := by
  rw [kept_commit h, mem_candidates]

theorem mem_kept_else (h : b.kind ≠ .commit) (i : Slot) (p : Part) : (i, p) ∈ b.kept ↔
    b.snapshot[i].candidate b.layout = some p ∧ ∀ k ∈ b.kept, k.1 < i → k.2.overlaps p = false := by
  rw [kept_else h]
  refine (mem_keepFree_iff (candidates_ascending b _) (i, p)).trans ?_
  rw [mem_candidates]
  exact or_iff_right List.not_mem_nil

theorem isKept_iff (b : Build) (i : Slot) : b.isKept i = true ↔ ∃ p, (i, p) ∈ b.kept := by
  simp only [Build.isKept, List.any_eq_true, decide_eq_true_eq]
  constructor
  · rintro ⟨⟨_, p⟩, hk, rfl⟩
    exact ⟨p, hk⟩
  · rintro ⟨p, hp⟩
    exact ⟨(i, p), hp, rfl⟩

theorem suppressedNow_iff (b : Build) (i : Slot) : b.suppressedNow i = true ↔
    (∃ p, b.snapshot[i].candidate b.layout = some p) ∧ ∀ p, (i, p) ∉ b.kept := by
  rw [Build.suppressedNow, Bool.and_eq_true, Option.isSome_iff_exists, Bool.not_eq_true', ← Bool.not_eq_true,
    isKept_iff, not_exists]

/-- Settles O23: the pairs are tried in their order, and each candidate against the kept ones below it. -/
theorem conflictsAndSuppression : Obligations.ConflictsAndSuppression := by
  refine ⟨fun b => ?_, fun b => ⟨kept_ascending b, mem_kept_else, fun hkind i => ⟨?_, mem_kept_commit hkind i⟩,
    suppressedNow_iff b⟩⟩
  · simp only [← overlaps_iff]
    exact ⟨conflict_eq_some b, conflict_eq_none b⟩
  · rw [← Bool.not_eq_true, suppressedNow_iff]
    rintro ⟨⟨p, hp⟩, hnone⟩
    exact hnone p ((mem_kept_commit hkind i p).mpr hp)

/-! ## The map -/

/-- The choice of the highest Z Level, from a best one so far (R60). -/
def topOf (best : Option (Slot × Part)) (ps : List (Slot × Part)) : Option (Slot × Part) :=
  ps.foldl (fun best x =>
    match best with
    | none => some x
    | some t => if t.2.zLevel < x.2.zLevel then some x else some t) best

theorem topOf_cons (best : Option (Slot × Part)) (x : Slot × Part) (ps : List (Slot × Part)) :
    topOf best (x :: ps) = topOf (some (match best with
      | none => x
      | some t => if t.2.zLevel < x.2.zLevel then x else t)) ps := by
  cases best with
  | none => rfl
  | some t =>
    refine congrArg (topOf · ps) ?_
    dsimp only
    split <;> rfl

/-- None is chosen below the best so far or below one of the list (R60). -/
theorem topOf_highest (ps : List (Slot × Part)) (t : Slot × Part) : ∃ x, topOf (some t) ps = some x
    ∧ t.2.zLevel ≤ x.2.zLevel ∧ ∀ k ∈ ps, k.2.zLevel ≤ x.2.zLevel := by
  induction ps generalizing t with
  | nil => exact ⟨t, rfl, le_refl _, by simp⟩
  | cons y rest ih =>
    rw [topOf_cons]
    dsimp only
    obtain ⟨x, hx, hbest, hrest⟩ := ih (if t.2.zLevel < y.2.zLevel then y else t)
    refine ⟨x, hx, ?_, fun k hk => ?_⟩
    · split at hbest <;> omega
    · rcases List.mem_cons.mp hk with rfl | hk
      · split at hbest <;> omega
      · exact hrest k hk

theorem pickTop_cons (x : Slot × Part) (ps : List (Slot × Part)) : pickTop (x :: ps) = topOf (some x) ps := rfl

theorem pickTop_highest {ps : List (Slot × Part)} {x : Slot × Part} (h : pickTop ps = some x) :
    ∀ k ∈ ps, k.2.zLevel ≤ x.2.zLevel := by
  cases ps with
  | nil => simp
  | cons y rest =>
    obtain ⟨z, hz, hbest, hrest⟩ := topOf_highest rest y
    rw [pickTop_cons, hz, Option.some_inj] at h
    rw [← h]
    exact List.forall_mem_cons.mpr ⟨hbest, hrest⟩

theorem pickTop_eq_none {ps : List (Slot × Part)} : pickTop ps = none ↔ ps = [] := by
  cases ps with
  | nil => exact iff_of_true rfl rfl
  | cons y rest =>
    obtain ⟨z, hz, -⟩ := topOf_highest rest y
    rw [pickTop_cons, hz]
    simp

/-- The owner of a tile is a kept candidate that covers it, of the highest Z Level (R60). -/
theorem ownerAt_highest {t : Nat} {i : Slot} (h : b.ownerAt t = some i) : ∃ p, (i, p) ∈ b.kept
    ∧ b.geometry.coversTile p t = true
    ∧ ∀ k ∈ b.kept, b.geometry.coversTile k.2 t = true → k.2.zLevel ≤ p.zLevel := by
  obtain ⟨⟨j, p⟩, hpick, rfl⟩ := Option.map_eq_some_iff.mp h
  obtain ⟨hkept, hcovers⟩ := List.mem_filter.mp (mem_of_pickTop hpick)
  exact ⟨p, hkept, hcovers, fun k hk hk' => pickTop_highest hpick k (List.mem_filter.mpr ⟨hk, hk'⟩)⟩

theorem ownerAt_eq_none {t : Nat} :
    b.ownerAt t = none ↔ ∀ k ∈ b.kept, b.geometry.coversTile k.2 t = false := by
  rw [Build.ownerAt, Option.map_eq_none_iff, pickTop_eq_none, List.filter_eq_nil_iff]
  simp only [Bool.not_eq_true]
  rfl

theorem map_beyond {t : Nat} (h : 14336 ≤ t) : b.map.entry t = TileEntry.empty := by
  exact (Build.map_entry b t).trans (if_neg (Nat.not_lt.mpr h))

theorem binding_eq (g : Geometry) (n : Fin 8) (k : Slot × Part) : k.2.binding g n k.1 =
    match k.2.source with
    | .stream m oc orow =>
      if m = n then
        some { region := k.1, originCol := oc, originRow := orow, width := k.2.rect.limitCol + 1 - k.2.rect.baseCol,
               height := k.2.rect.limitRow + 1 - k.2.rect.baseRow, baseCol := k.2.rect.baseCol,
               baseRow := k.2.rect.baseRow, translation := g.translation k.2.face }
      else none
    | .fill _ => none := by
  rw [Part.binding]
  cases k.2.source <;> rfl

/-- Settles O24: the map is the one of the kept candidates. -/
theorem builtMap : Obligations.BuiltMap := by
  refine fun b => ⟨Build.map_layout b, fun t ht => ⟨fun i hi => ?_, ?_, ?_⟩, fun t ht => ⟨?_, ?_⟩, fun n => ?_⟩
  · rw [Build.map_owner b t ht] at hi
    exact ownerAt_highest hi
  · rw [Build.map_owner b t ht]
    exact ownerAt_eq_none
  · rw [Build.map_owner b t ht, Build.map_changed b t ht]
    simp
  · rw [Map.owner, map_beyond ht]
    rfl
  · rw [Map.changed, map_beyond ht]
    rfl
  · refine (Build.map_bindings b n).trans (List.filterMap_congr fun k _ => ?_)
    exact (binding_eq b.geometry n k).trans (by cases k.2.source <;> rfl)

end Sys2Proof.Machine

/-! SUPPORT. What the end of an event may do: the link settles, SETTLING may end, packets that waited are taken. Of the
engine it changes no more than an end of a drain and a claim taken from IDLE, of a record no more than Stale and In
Build; no flag is cleared, and no fill job is lost (R52, R69, R87, R88, R97, R137). -/

namespace Sys2Proof.Machine

/-! ## The link's part -/

/-- The key waits in the fill queue or its job is in progress (R101). -/
def State.HasJob (s : State) (k : Key) : Prop := k ∈ s.fill.queue ∨ ∃ j, s.fill.job = some j ∧ j.key = k

/-- A zone that no table, request, fault or timer touches: at most an activity turns it from DIM to ON (R155, R156). -/
structure ZoneState.Stays (r q : ZoneState) : Prop where
  mode : r.mode ≠ .dim → q.mode = r.mode
  idleLimit : q.idleLimit = r.idleLimit
  activityMask : q.activityMask = r.activityMask
  dimLevel : q.dimLevel = r.dimLevel

/-- What offers, hand-over and grants leave alone: the table, the engine, the transition, the port, the scan timer, the
stale counts, the fill jobs, the zones (R96, R97). -/
structure Pumps (s t : State) : Prop where
  placing : t.placing = s.placing
  port : t.port = s.port
  pins : t.pins = s.pins
  timer : t.link.timer = s.link.timer
  interval : t.link.interval = s.link.interval
  counts : t.router.staleCounts = s.router.staleCounts
  jobs : ∀ k, s.HasJob k → t.HasJob k
  zones : ∀ z, (s.zoneState z).Stays (t.zoneState z)

variable {s t u : State}

theorem ZoneState.Stays.refl (q : ZoneState) : q.Stays q := ⟨fun _ => rfl, rfl, rfl, rfl⟩

theorem ZoneState.Stays.trans {p q r : ZoneState} (h : p.Stays q) (h' : q.Stays r) : p.Stays r where
  mode hp := by
    have hq := h.mode hp
    exact (h'.mode (hq ▸ hp)).trans hq
  idleLimit := h'.idleLimit.trans h.idleLimit
  activityMask := h'.activityMask.trans h.activityMask
  dimLevel := h'.dimLevel.trans h.dimLevel

theorem Pumps.refl (s : State) : Pumps s s := ⟨rfl, rfl, rfl, rfl, rfl, rfl, fun _ => id, fun _ => .refl _⟩

theorem Pumps.trans (h : Pumps s t) (h' : Pumps t u) : Pumps s u where
  placing := h'.placing.trans h.placing
  port := h'.port.trans h.port
  pins := h'.pins.trans h.pins
  timer := h'.timer.trans h.timer
  interval := h'.interval.trans h.interval
  counts := h'.counts.trans h.counts
  jobs k := h'.jobs k ∘ h.jobs k
  zones z := (h.zones z).trans (h'.zones z)

/-- Work on the link and the fill jobs alone. -/
theorem pumps_link {l : Link} {f : Fill} {r : Router} (htimer : l.timer = s.link.timer)
    (hinterval : l.interval = s.link.interval) (hqueue : r.linkQueue = s.router.linkQueue)
    (hcounts : r.staleCounts = s.router.staleCounts)
    (hjobs : ∀ k, s.HasJob k → State.HasJob { s with link := l, fill := f, router := r } k) :
    Pumps s { s with link := l, fill := f, router := r } where
  placing := by rw [State.placing, State.placing, hqueue]
  port := rfl
  pins := rfl
  timer := htimer
  interval := hinterval
  counts := hcounts
  jobs := hjobs
  zones _ := .refl _

theorem pumps_abortTest (s : State) : Pumps s s.abortTest := by
  unfold State.abortTest
  split
  · split
    · exact pumps_link rfl rfl rfl rfl fun _ => id
    · exact .refl s
  · exact .refl s

theorem pumps_startJob (s : State) : Pumps s s.startJob := by
  unfold State.startJob
  split
  next k rest hjob hqueue =>
    refine pumps_link rfl rfl rfl rfl fun q hq => ?_
    rcases hq with hq | ⟨j, hj, -⟩
    · rw [hqueue] at hq
      rcases List.mem_cons.mp hq with rfl | hq
      · exact .inr ⟨_, rfl, rfl⟩
      · exact .inl hq
    · rw [hjob] at hj
      cases hj
  next => exact .refl s

theorem pumps_offerTile (s : State) : Pumps s s.offerTile := by
  unfold State.offerTile
  split
  next j hjob _ =>
    refine pumps_link rfl rfl rfl rfl fun q hq => hq.imp_right ?_
    rintro ⟨i, hi, rfl⟩
    rw [hjob] at hi
    cases hi
    exact ⟨_, rfl, rfl⟩
  next => exact .refl s

theorem pumps_handWrite (s : State) : Pumps s s.handWrite := by
  unfold State.handWrite
  split
  · exact pumps_link rfl rfl rfl rfl fun _ => id
  · exact .refl s

theorem pumps_endRun (s : State) : Pumps s s.endRun := by
  unfold State.endRun
  split
  · split
    · exact pumps_link rfl rfl rfl rfl fun _ => id
    · exact .refl s
  · exact .refl s

theorem pumps_offerAll (s : State) : Pumps s s.offerAll :=
  (((pumps_startJob s).trans (pumps_offerTile _)).trans (pumps_handWrite _)).trans (pumps_endRun _)

theorem pumps_advanceJob (s : State) : Pumps s s.advanceJob := by
  refine pumps_link rfl rfl rfl rfl fun q hq => hq.imp_right ?_
  rintro ⟨i, hi, rfl⟩
  exact ⟨{ i with position := i.position + 1 }, by rw [hi]; rfl, rfl⟩

theorem pumps_messages (s : State) (slots : PerZone (Option Message)) :
    Pumps s { s with link := { s.link with slots } } := pumps_link rfl rfl rfl rfl fun _ => id

theorem pumps_placeMessage (s : State) (z : Zone) : Pumps s (s.placeMessage z) := by
  obtain ⟨slots, h⟩ := placeMessage_writes s z
  rw [h]
  exact pumps_messages s slots

theorem pumps_turnOn {z : Zone} (h : (s.zoneState z).mode = .on ∨ (s.zoneState z).mode = .dim) :
    Pumps s (s.updZone z ZoneState.turnOn) where
  placing := rfl
  port := rfl
  pins := rfl
  timer := rfl
  interval := rfl
  counts := rfl
  jobs _ := id
  zones y := by
    by_cases hy : z = y
    · subst hy
      rw [zoneState_updZone_self]
      exact ⟨fun hdim => (h.resolve_right hdim).symm, rfl, rfl, rfl⟩
    · rw [zoneState_updZone_ne _ _ _ _ hy]
      exact .refl _

theorem pumps_activity (s : State) (a : Activity) (z : Zone) : Pumps s (s.activity a z) := by
  unfold State.activity
  split
  · exact .refl s
  · split
    next hmode => exact pumps_turnOn (.inl hmode)
    next hmode => exact (pumps_turnOn (.inr hmode)).trans (pumps_placeMessage _ z)
    · exact .refl s
    · exact .refl s

theorem pumps_grantStream (s : State) (w : TileWrite) : Pumps s (s.grantStream w) := by
  unfold State.grantStream
  split
  · exact pumps_link rfl rfl rfl rfl fun _ => id
  · refine Pumps.trans ?_ (pumps_activity _ _ _)
    exact pumps_link rfl rfl rfl rfl fun _ => id

theorem pumps_grantFill (s : State) (w : TileWrite) : Pumps s (s.grantFill w) := by
  unfold State.grantFill
  split
  · refine Pumps.trans ?_ (pumps_advanceJob _)
    exact pumps_link rfl rfl rfl rfl fun _ => id
  · refine Pumps.trans (Pumps.trans ?_ (pumps_advanceJob _)) (pumps_activity _ _ _)
    exact pumps_link rfl rfl rfl rfl fun _ => id

theorem pumps_arbitrate (h : s.arbitrate = some t) : Pumps s t := by
  obtain ⟨z, m, rfl⟩ | ⟨w, rfl⟩ | ⟨w, rfl⟩ := arbitrate_cases h
  · exact pumps_link rfl rfl rfl rfl fun _ => id
  · exact pumps_grantStream s w
  · exact pumps_grantFill s w

theorem pumps_pump (n : Nat) (s : State) : Pumps s (s.pump n) := by
  induction n generalizing s with
  | zero => exact pumps_offerAll s
  | succ n ih =>
    unfold State.pump
    split
    next t h => exact ((pumps_offerAll s).trans (pumps_arbitrate h)).trans (ih t)
    next => exact pumps_offerAll s

/-! ## Records, and the whole end of an event -/

/-- A record at the end of an event: Stale may clear where it is IN_SERVICE, In Build may set where it is committable
(R33, R54, R55, R88). -/
structure Record.Ends (r q : Record) : Prop where
  rest : q = { r with stale := q.stale, inBuild := q.inBuild }
  stale : q.stale = r.stale ∨ (q.stale = false ∧ r.lifecycle = .inService)
  inBuild : q.inBuild = r.inBuild
    ∨ (q.inBuild = true ∧ (r.lifecycle = .staged ∨ (r.lifecycle = .inService ∧ r.commitPending = true)))

theorem Record.Ends.refl (r : Record) : r.Ends r := ⟨rfl, .inl rfl, .inl rfl⟩

theorem Record.Ends.lifecycle {r q : Record} (h : r.Ends q) : q.lifecycle = r.lifecycle := by rw [h.rest]

theorem Record.Ends.commitPending {r q : Record} (h : r.Ends q) : q.commitPending = r.commitPending := by rw [h.rest]

theorem Record.Ends.trans {p q r : Record} (h : p.Ends q) (h' : q.Ends r) : p.Ends r where
  rest := by
    have hr := h'.rest
    rw [h.rest] at hr
    exact hr
  stale := by
    rcases h'.stale with hr | ⟨hr, hlife⟩
    · rw [hr]
      exact h.stale
    · exact .inr ⟨hr, h.lifecycle ▸ hlife⟩
  inBuild := by
    rcases h'.inBuild with hr | ⟨hr, hlife⟩
    · rw [hr]
      exact h.inBuild
    · rw [h.lifecycle, h.commitPending] at hlife
      exact .inr ⟨hr, hlife⟩

/-- A slot that is FREE or in QUARANTINE has nothing to change (R88). -/
theorem Record.Ends.unused {r q : Record} (h : r.Ends q) (hlife : r.lifecycle = .free ∨ r.lifecycle = .quarantine) :
    q = r := by
  have hstale : q.stale = r.stale := h.stale.resolve_right fun ⟨_, hin⟩ => by
    rcases hlife with hl | hl <;> rw [hl] at hin <;> cases hin
  have hbuild : q.inBuild = r.inBuild := h.inBuild.resolve_right fun ⟨_, hin⟩ => by
    rcases hlife with hl | hl <;> rw [hl] at hin <;> rcases hin with hin | ⟨hin, -⟩ <;> cases hin
  rw [h.rest, hstale, hbuild]

/-- What the end of an event, from s to t, may do to all but the transition. -/
structure Closes (s t : State) : Prop where
  epoch : t.engine.epoch = s.engine.epoch
  active : t.engine.active = s.engine.active
  conflict : t.engine.conflict = s.engine.conflict
  undrained : (∀ m e, s.engine.phase ≠ .draining m e) → ∀ m e, t.engine.phase ≠ .draining m e
  pins : t.pins = s.pins
  timer : t.link.timer = s.link.timer
  interval : t.link.interval = s.link.interval
  records : ∀ i, (s.record i).Ends (t.record i)
  quarantineLength : t.table.quarantineLength = s.table.quarantineLength
  counts : ∀ i : Slot, t.router.staleCounts[i] = s.router.staleCounts[i] ∨ t.router.staleCounts[i] = 0
  flags : ∀ f, s.flag f = true → t.flag f = true
  jobs : ∀ k, s.HasJob k → t.HasJob k
  zones : ∀ z, (s.zoneState z).Stays (t.zoneState z)

/-- What the end of an event, from s to t, may do: SETTLING ends where no fill job is left, for good where no Waiting
Target has been set. -/
structure Ends (s t : State) : Prop extends Closes s t where
  transition : (s.transition.state ≠ .settling ∨ ∃ k, s.HasJob k) → t.transition = s.transition
  settling : s.inReset = false → s.transition.waitingTarget = none → t.transition = s.transition ∨
    (t.transition = { s.transition with state := .steady, target := none } ∧ t.flag .transitionDone = true)

theorem Closes.inReset (h : Closes s t) : t.inReset = s.inReset := by rw [State.inReset, State.inReset, h.pins]

theorem Closes.refl (s : State) : Closes s s :=
  ⟨rfl, rfl, rfl, id, rfl, rfl, rfl, fun _ => .refl _, rfl, fun _ => .inl rfl, fun _ => id, fun _ => id, fun _ => .refl _⟩

theorem Closes.trans (h : Closes s t) (h' : Closes t u) : Closes s u where
  epoch := h'.epoch.trans h.epoch
  active := h'.active.trans h.active
  conflict := h'.conflict.trans h.conflict
  undrained hs := h'.undrained (h.undrained hs)
  pins := h'.pins.trans h.pins
  timer := h'.timer.trans h.timer
  interval := h'.interval.trans h.interval
  records i := (h.records i).trans (h'.records i)
  quarantineLength := h'.quarantineLength.trans h.quarantineLength
  counts i := by
    rcases h'.counts i with hu | hu
    · rw [hu]
      exact h.counts i
    · exact .inr hu
  flags f := h'.flags f ∘ h.flags f
  jobs k := h'.jobs k ∘ h.jobs k
  zones z := (h.zones z).trans (h'.zones z)

/-- Work that leaves the transition alone. -/
theorem Closes.ends (h : Closes s t) (htransition : t.transition = s.transition) : Ends s t :=
  { h with transition := fun _ => htransition, settling := fun _ _ => .inl htransition }

theorem Ends.refl (s : State) : Ends s s := (Closes.refl s).ends rfl

theorem Ends.trans (h : Ends s t) (h' : Ends t u) : Ends s u where
  toCloses := h.toCloses.trans h'.toCloses
  transition hs := by
    have ht := h.transition hs
    have hstill : t.transition.state ≠ .settling ∨ ∃ k, t.HasJob k := by
      rw [ht]
      exact hs.imp_right fun ⟨k, hk⟩ => ⟨k, h.jobs k hk⟩
    exact (h'.transition hstill).trans ht
  settling hreset hwaiting := by
    rcases h.settling hreset hwaiting with ht | ⟨ht, hdone⟩
    · have hu := h'.settling (h.inReset.trans hreset) (by rw [ht]; exact hwaiting)
      rwa [ht] at hu
    · have hsteady : t.transition.state ≠ .settling := by
        rw [ht]
        nofun
      exact .inr ⟨(h'.transition (.inl hsteady)).trans ht, h'.flags _ hdone⟩

theorem Pumps.ends (h : Pumps s t) : Ends s t := by
  have htable : t.table = s.table := congrArg Placing.table h.placing
  have hengine : t.engine = s.engine := congrArg Placing.engine h.placing
  refine Closes.ends ⟨by rw [hengine], by rw [hengine], by rw [hengine], by rw [hengine]; exact id, h.pins, h.timer,
    h.interval, fun i => ?_, by rw [htable], fun i => .inl ?_, fun f => ?_, h.jobs, h.zones⟩
    (congrArg Placing.transition h.placing)
  · rw [State.record, State.record, htable]
    exact .refl _
  · rw [h.counts]
  · rw [State.flag, State.flag, h.port]
    exact id

/-! ## Flags and claims -/

theorem flag_setFlag_of (f g : EventFlag) (h : s.flag g = true) : (s.setFlag f).flag g = true := by
  cases hreset : s.inReset with
  | true => rwa [setFlag_of_inReset s f hreset]
  | false => rw [flag_setFlag s f g hreset, h, Bool.true_or]

theorem flag_setFlag_self (f : EventFlag) (h : s.inReset = false) : (s.setFlag f).flag f = true := by
  rw [flag_setFlag s f f h, decide_eq_true rfl, Bool.or_true]

/-- A change of flags, with none cleared. -/
theorem ends_flags {p : Port} (h : ∀ f, s.flag f = true → State.flag f { s with port := p } = true) :
    Ends s { s with port := p } := Closes.ends { Closes.refl s with flags := h } rfl

theorem ends_setFlag (s : State) (f : EventFlag) : Ends s (s.setFlag f) := by
  have hflags (g : EventFlag) := flag_setFlag_of (s := s) f g
  obtain ⟨flags, h⟩ := setFlag_writes s f
  rw [h] at hflags ⊢
  exact ends_flags hflags

/-- A record that a build includes is STAGED, or IN_SERVICE with Commit Pending set (R54, R55, R56). -/
theorem included_pending {r : Record} {k : BuildKind} {joined : Bool} (h : (r.contribution k joined).included = true) :
    r.lifecycle = .staged ∨ (r.lifecycle = .inService ∧ r.commitPending = true) := by
  have hlive : r.liveContribution.included = false := by
    rw [Record.liveContribution]
    cases r.live <;> rfl
  cases hlife : r.lifecycle with
  | free =>
    rw [contribution_unused (.inl hlife)] at h
    cases h
  | quarantine =>
    rw [contribution_unused (.inr hlife)] at h
    cases h
  | staged => exact .inl rfl
  | inService =>
    refine .inr ⟨rfl, ?_⟩
    by_contra hpending
    have hpending : r.commitPending = false := Bool.eq_false_iff.mpr hpending
    cases k with
    | commit =>
      rw [Record.contribution, Record.commitContribution, hlife, hpending] at h
      cases hshowing : r.showing <;> cases hl : r.live <;>
        simp [hshowing, hl, Contribution.included, Record.liveContribution] at h
    | target =>
      rw [Record.contribution, Record.targetContribution] at h
      split at h
      · cases h
      · rw [hlife] at h
        simp [Record.committable, hpending, hlive] at h
    | restore =>
      rw [Record.contribution, Record.restoreContribution, hlife] at h
      exact absurd h (Bool.eq_false_iff.mp hlive)

theorem marked_ends (r : Record) (k : BuildKind) (joined : Bool) : r.Ends (r.marked k joined) := by
  refine ⟨rfl, .inl rfl, ?_⟩
  change (r.inBuild || _) = r.inBuild ∨ _
  cases hincluded : (r.contribution k joined).included with
  | false => exact .inl (Bool.or_false _)
  | true => exact .inr ⟨by simp [Record.marked, hincluded], included_pending hincluded⟩

theorem takeClaim_flags (f : EventFlag) (h : s.flag f = true) : s.takeClaim.flag f = true := by
  rcases takeClaim_cases s with ⟨he, -⟩ | ⟨-, -, he⟩ | ⟨l, -, -, -, he⟩ | ⟨-, -, -, he⟩ | ⟨-, -, -, he⟩ <;> rw [he]
  · exact h
  · exact h
  · exact h
  · exact h
  · exact flag_setFlag_of _ _ (by exact h)

theorem takeClaim_undrained (h : ∀ m e, s.engine.phase ≠ .draining m e) :
    ∀ m e, s.takeClaim.engine.phase ≠ .draining m e := by
  intro m e
  rcases takeClaim_cases s with ⟨he, -⟩ | ⟨-, -, he⟩ | ⟨l, -, -, -, he⟩ | ⟨-, -, -, he⟩ | ⟨-, -, -, he⟩ <;> rw [he]
  · exact h m e
  · nofun
  · nofun
  · nofun
  · rw [setFlag_engine]
    exact h m e

theorem ends_takeClaim (s : State) : Ends s s.takeClaim := by
  have hflags (f : EventFlag) := takeClaim_flags (s := s) f
  have hundrained := takeClaim_undrained (s := s)
  have hrecords (i : Slot) : (s.record i).Ends (s.takeClaim.record i) := by
    rcases takeClaim_record s i with h | ⟨k, h⟩ <;> rw [h]
    · exact .refl _
    · exact marked_ends _ _ _
  obtain ⟨flags, phase, claims, slots, h⟩ := takeClaim_writes s
  rw [h] at hflags hundrained hrecords ⊢
  exact Closes.ends { Closes.refl s with flags := hflags, undrained := hundrained, records := hrecords } rfl

theorem ends_enterIdle (s : State) : Ends s s.enterIdle :=
  Ends.trans (t := { s with engine := { s.engine with phase := .idle } })
    (Closes.ends { Closes.refl s with undrained := fun _ => nofun } rfl) (ends_takeClaim _)

theorem ends_drainTest (s : State) : Ends s s.drainTest := by
  unfold State.drainTest
  split
  · split
    · exact .refl s
    · exact ends_enterIdle s
  · exact .refl s
  · exact .refl s
  · exact .refl s

/-! ## The end of SETTLING -/

theorem closes_claims (s : State) (f : Claims → Claims) : Closes s (s.updClaims f) := { Closes.refl s with }

theorem closes_transition (s : State) (f : Transition → Transition) : Closes s (s.updTransition f) :=
  { Closes.refl s with }

theorem closes_raiseTarget (s : State) : Closes s s.raiseTarget :=
  ((closes_transition s _).trans (closes_claims _ _)).trans (ends_takeClaim _).toCloses

theorem closes_callStart (s : State) (l : Layout) : Closes s (s.callStart l) := by
  unfold State.callStart
  split
  · have started : Closes s ((s.updTransition fun q =>
        { q with state := .prepare, target := some l, waitingTarget := none, commitJoined := false,
                 holdCount := 0, prepareTimer := some q.prepareWindow }).setFlag .transitionStarted) :=
      (closes_transition s _).trans (ends_setFlag _ _).toCloses
    dsimp only
    split
    · exact started.trans (closes_raiseTarget _)
    · exact started
  · exact .refl s

theorem fillIdle_iff (s : State) : s.fillIdle = true ↔ ∀ k, ¬ s.HasJob k := by
  rw [State.fillIdle, Bool.and_eq_true, Option.isNone_iff_eq_none, List.isEmpty_iff]
  constructor
  · rintro ⟨hjob, hqueue⟩ k (hk | ⟨j, hj, -⟩)
    · rw [hqueue] at hk
      cases hk
    · rw [hjob] at hj
      cases hj
  · intro h
    refine ⟨Option.eq_none_iff_forall_ne_some.mpr fun j hj => h j.key (.inr ⟨j, hj, rfl⟩),
      List.eq_nil_iff_forall_not_mem.mpr fun k hk => h k (.inl hk)⟩

/-- SETTLING ends at once in STEADY where no Waiting Target has been set (R137). -/
theorem settleTest_done (hstate : s.transition.state = .settling) (hidle : s.fillIdle = true)
    (hwaiting : s.transition.waitingTarget = none) : s.settleTest = (s.updTransition fun q =>
      { q with state := .steady, target := none, waitingTarget := none }).setFlag .transitionDone := by
  rw [State.settleTest, if_pos ⟨hstate, hidle⟩]
  dsimp only
  rw [hwaiting]

theorem settleTest_busy (h : s.fillIdle = false) : s.settleTest = s :=
  if_neg fun ⟨_, hidle⟩ => Bool.eq_false_iff.mp h hidle

theorem closes_settleTest (s : State) : Closes s s.settleTest := by
  unfold State.settleTest
  split
  · have settled : Closes s ((s.updTransition fun q =>
        { q with state := .steady, target := none, waitingTarget := none }).setFlag .transitionDone) :=
      (closes_transition s _).trans (ends_setFlag _ _).toCloses
    dsimp only
    split
    · exact settled.trans (closes_callStart _ _)
    · exact settled
  · exact .refl s

theorem ends_settleTest (s : State) : Ends s s.settleTest := by
  have hcloses := closes_settleTest s
  by_cases hstate : s.transition.state = .settling
  · cases hidle : s.fillIdle with
    | false =>
      rw [settleTest_busy hidle]
      exact .refl s
    | true =>
      refine { hcloses with
        transition := fun h => h.elim (absurd hstate) fun ⟨k, hk⟩ => absurd hk ((fillIdle_iff s).mp hidle k),
        settling := fun hreset hwaiting => .inr ?_ }
      rw [settleTest_done hstate hidle hwaiting]
      refine ⟨?_, flag_setFlag_self _ (by exact hreset)⟩
      rw [setFlag_transition, updTransition_transition, ← hwaiting]
  · rw [settleTest_of_not_settling s hstate]
    exact .refl s

theorem ends_settleLink (s : State) : Ends s s.settleLink :=
  ((pumps_abortTest s).trans (pumps_pump _ _)).ends.trans (ends_settleTest _)

/-! ## Packets -/

theorem ends_router (s : State) (r : Router) (h : ∀ i : Slot, r.staleCounts[i] = s.router.staleCounts[i]
    ∨ r.staleCounts[i] = 0) : Ends s { s with router := r } := Closes.ends { Closes.refl s with counts := h } rfl

theorem ends_updStream (s : State) (n : Fin 8) (f : Stream → Stream) : Ends s (s.updStream n f) :=
  ends_router s _ fun _ => .inl rfl

theorem ends_closeFrame (s : State) (n : Fin 8) (r : FrameResult) : Ends s (s.closeFrame n r) :=
  (ends_updStream s n _).trans (ends_drainTest _)

theorem ends_takeFrameBegin (s : State) (n : Fin 8) (w h : Nat) : Ends s (s.takeFrameBegin n w h) := by
  unfold State.takeFrameBegin
  split
  · split
    · exact (((ends_updStream s n _).trans (ends_setFlag _ _)).trans (ends_updStream _ n _)).trans (ends_drainTest _)
    · exact ends_updStream s n _
  · exact ends_updStream s n _

theorem ends_dropRun (s : State) (n : Fin 8) (tiles : List Pixels) : Ends s (s.dropRun n tiles) := by
  unfold State.dropRun
  split
  · exact .refl s
  · exact ends_router s _ fun _ => .inl rfl

theorem ends_takeTileRun (s : State) (n : Fin 8) (start count : Nat) (tiles : List Pixels) :
    Ends s (s.takeTileRun n start count tiles) := by
  unfold State.takeTileRun
  split
  · exact (ends_updStream s n _).trans (ends_dropRun _ n tiles)
  · split
    · exact (ends_updStream s n _).trans (ends_dropRun _ n tiles)
    · refine Ends.trans ?_ (ends_updStream _ n _)
      exact ends_router s _ fun _ => .inl rfl

/-- A COMPLETE frame clears a SHOWN record's Stale and its stale count (R88). -/
theorem ends_cleared {i : Slot} (h : s.isShown i = true) :
    Ends s ((s.updRecord i fun r => { r with stale := false }).setStaleCount i 0) := by
  refine Closes.ends { Closes.refl s with records := fun j => ?_, counts := fun j => ?_ } rfl
  · change (s.record j).Ends ((s.updRecord i fun r => { r with stale := false }).record j)
    by_cases hij : i = j
    · subst hij
      rw [record_updRecord_self]
      exact ⟨rfl, .inr ⟨rfl, isShown_inService h⟩, .inl rfl⟩
    · rw [record_updRecord_ne _ _ _ _ hij]
      exact .refl _
  · by_cases hij : i = j
    · subst hij
      exact .inr (Vec.modify_get_self _ i _)
    · exact .inl (Vec.modify_get_ne _ i j _ hij)

theorem ends_clearStale (bs : List Binding) (s : State) : Ends s (s.clearStale bs) := by
  unfold State.clearStale
  induction bs generalizing s with
  | nil => exact .refl s
  | cons b rest ih =>
    rw [List.foldl_cons]
    refine Ends.trans ?_ (ih _)
    split
    next h => exact ends_cleared h
    next => exact .refl s

theorem ends_takeFrameEnd (s : State) (n : Fin 8) : Ends s (s.takeFrameEnd n) := by
  unfold State.takeFrameEnd
  split
  · exact ends_updStream s n _
  · split
    · exact ends_closeFrame s n _
    · split
      · exact ends_closeFrame s n _
      · exact ((ends_clearStale _ s).trans (ends_updStream _ n _)).trans (ends_closeFrame _ n _)

theorem ends_takePacket (s : State) (p : Packet) : Ends s (s.takePacket p) := by
  unfold State.takePacket
  split
  · split
    · exact ends_takeFrameBegin s _ _ _
    · exact .refl s
  · split
    · split
      · exact ends_takeTileRun s _ _ _ _
      · exact .refl s
    · exact .refl s
  · split
    · exact ends_takeFrameEnd s _
    · exact .refl s
  · exact .refl s

theorem ends_takePackets (n : Nat) (s : State) : Ends s (s.takePackets n) := by
  induction n generalizing s with
  | zero => exact .refl s
  | succ n ih =>
    unfold State.takePackets
    split
    · split
      · exact .refl s
      · refine Ends.trans (Ends.trans ?_ (ends_takePacket _ _)) (ih _)
        exact ends_router s _ fun _ => .inl rfl
    · exact .refl s

/-- What the end of an event may do. -/
theorem ends_finish (s : State) : Ends s s.finish := (ends_settleLink s).trans (ends_takePackets _ _)

/-! ## The end of an event on a link on which no packet waits -/

/-- Without packets that wait the stale counts, Stale and a drain stand as well. -/
structure Quiet (s t : State) : Prop where
  counts : t.router.staleCounts = s.router.staleCounts
  stale : ∀ i, (t.record i).stale = (s.record i).stale
  draining : ∀ m e, s.engine.phase = .draining m e → t.engine.phase = .draining m e

theorem Quiet.refl (s : State) : Quiet s s := ⟨rfl, fun _ => rfl, fun _ _ => id⟩

theorem Quiet.trans (h : Quiet s t) (h' : Quiet t u) : Quiet s u :=
  ⟨h'.counts.trans h.counts, fun i => (h'.stale i).trans (h.stale i), fun m e hs => h'.draining m e (h.draining m e hs)⟩

theorem Pumps.quiet (h : Pumps s t) : Quiet s t := by
  have htable : t.table = s.table := congrArg Placing.table h.placing
  have hengine : t.engine = s.engine := congrArg Placing.engine h.placing
  refine ⟨h.counts, fun i => by rw [State.record, State.record, htable], fun m e => ?_⟩
  rw [hengine]
  exact id

theorem quiet_setFlag (s : State) (f : EventFlag) : Quiet s (s.setFlag f) := by
  refine ⟨?_, fun i => ?_, fun m e => ?_⟩
  · rw [setFlag_router]
  · rw [State.record, setFlag_table, State.record]
  · rw [setFlag_engine]
    exact id

theorem quiet_takeClaim (s : State) : Quiet s s.takeClaim := by
  refine ⟨?_, fun i => ?_, fun m e hphase => ?_⟩
  · obtain ⟨flags, phase, claims, slots, h⟩ := takeClaim_writes s
    rw [h]
  · rcases takeClaim_record s i with h | ⟨k, h⟩
    · rw [h]
    · rw [h]
      rfl
  · rw [takeClaim_busy s (by rw [hphase]; nofun)]
    exact hphase

theorem quiet_transition (s : State) (f : Transition → Transition) : Quiet s (s.updTransition f) :=
  ⟨rfl, fun _ => rfl, fun _ _ => id⟩

theorem quiet_claims (s : State) (f : Claims → Claims) : Quiet s (s.updClaims f) :=
  ⟨rfl, fun _ => rfl, fun _ _ => id⟩

theorem quiet_callStart (s : State) (l : Layout) : Quiet s (s.callStart l) := by
  unfold State.callStart
  split
  · have started : Quiet s ((s.updTransition fun q =>
        { q with state := .prepare, target := some l, waitingTarget := none, commitJoined := false,
                 holdCount := 0, prepareTimer := some q.prepareWindow }).setFlag .transitionStarted) :=
      (quiet_transition s _).trans (quiet_setFlag _ _)
    dsimp only
    split
    · exact started.trans (((quiet_transition _ _).trans (quiet_claims _ _)).trans (quiet_takeClaim _))
    · exact started
  · exact .refl s

theorem quiet_settleTest (s : State) : Quiet s s.settleTest := by
  unfold State.settleTest
  split
  · have settled : Quiet s ((s.updTransition fun q =>
        { q with state := .steady, target := none, waitingTarget := none }).setFlag .transitionDone) :=
      (quiet_transition s _).trans (quiet_setFlag _ _)
    dsimp only
    split
    · exact settled.trans (quiet_callStart _ _)
    · exact settled
  · exact .refl s

theorem takePackets_empty (n : Nat) (h : s.router.linkQueue = []) : s.takePackets n = s := by
  cases n with
  | zero => rfl
  | succ n =>
    rw [State.takePackets, h]
    exact ite_self s

/-- Where no packet waits the link's settling is all of the end of an event. -/
theorem finish_empty (h : s.router.linkQueue = []) : s.finish = s.settleLink := by rw [State.finish, h]; rfl

theorem quiet_finish (h : s.router.linkQueue = []) : Quiet s s.finish := by
  rw [finish_empty h]
  exact ((pumps_abortTest s).trans (pumps_pump _ _)).quiet.trans (quiet_settleTest _)

end Sys2Proof.Machine

/-! CLAIM. A scan start without a swap: the counts of QUARANTINE, of HOLDING and of the counted regions, and what
becomes of a region at its Stale Limit (R38, R86, R87, R99, R133). -/

namespace Sys2Proof.Machine

variable {s t : State}

/-! ## Keys joining the queue -/

/-- A key joins the back of a queue, unless it already waits (R101). -/
def joinKey (q : List Key) (k : Key) : List Key := if k ∈ q then q else q ++ [k]

theorem queueJob_join (s : State) (k : Key) :
    s.queueJob k = { s with fill := { s.fill with queue := joinKey s.fill.queue k } } := queueJob_eq s k

theorem mem_joinKey {q : List Key} {k j : Key} : j ∈ joinKey q k ↔ j ∈ q ∨ j = k := by
  unfold joinKey
  split
  next h => exact ⟨.inl, fun hj => hj.elim id fun e => e ▸ h⟩
  next => simp

theorem mem_foldl_joinKey {l q : List Key} {j : Key} : j ∈ l.foldl joinKey q ↔ j ∈ q ∨ j ∈ l := by
  induction l generalizing q with
  | nil => simp
  | cons k rest ih => rw [List.foldl_cons, ih, mem_joinKey, List.mem_cons, or_assoc]

/-! ## Counted regions -/

/-- The region turns Stale at a count (R87). -/
def State.turnsStale (s : State) (i : Slot) : Bool :=
  s.counted i && decide (s.staleLimit i ≤ s.router.staleCounts[i] + 1)

/-- The region turns Stale with a FILL job (R87). -/
def State.queuesFill (s : State) (i : Slot) : Bool :=
  s.turnsStale i && (s.record i).live.any fun d => d.attributes.staleAction = .fill

theorem hasStreamSource_iff (s : State) (i : Slot) : s.hasStreamSource i = true ↔ ∃ d p n oc orow,
    (s.record i).live = some d ∧ d.part s.engine.active.layout = some p ∧ p.source = .stream n oc orow := by
  rw [State.hasStreamSource, State.activePart, Record.livePart, State.activeLayout]
  cases (s.record i).live with
  | none => simp
  | some d =>
    rw [Option.bind_some]
    cases hp : d.part s.engine.active.layout with
    | none => simp [hp]
    | some p => cases hsource : p.source <;> simp [hp, hsource]

/-- A region is counted where it is SHOWN, not Stale, and shows a stream under a Stale Limit (R86). -/
theorem counted_iff (s : State) (i : Slot) : s.counted i = true ↔
    s.isShown i = true ∧ (s.record i).stale = false ∧ ∃ d p n oc orow, (s.record i).live = some d
      ∧ 1 ≤ d.attributes.staleLimit ∧ d.part s.engine.active.layout = some p ∧ p.source = .stream n oc orow := by
  rw [State.counted, Bool.and_eq_true, Bool.and_eq_true, Bool.and_eq_true, hasStreamSource_iff, decide_eq_true_eq,
    Bool.not_eq_true', State.staleLimit]
  constructor
  · rintro ⟨⟨⟨hshown, hlimit⟩, d, p, n, oc, orow, hlive, hpart, hsource⟩, hstale⟩
    rw [hlive] at hlimit
    exact ⟨hshown, hstale, d, p, n, oc, orow, hlive, hlimit, hpart, hsource⟩
  · rintro ⟨hshown, hstale, d, p, n, oc, orow, hlive, hlimit, hpart, hsource⟩
    refine ⟨⟨⟨hshown, ?_⟩, d, p, n, oc, orow, hlive, hpart, hsource⟩, hstale⟩
    rw [hlive]
    exact hlimit

theorem counted_congr {i : Slot} (hrecord : t.record i = s.record i)
    (hlayout : t.engine.active.layout = s.engine.active.layout) : t.counted i = s.counted i := by
  rw [Bool.eq_iff_iff, counted_iff, counted_iff, isShown_iff, isShown_iff, hrecord, hlayout]

theorem staleLimit_of_live {i : Slot} {d : Content} (h : (s.record i).live = some d) :
    s.staleLimit i = d.attributes.staleLimit := by rw [State.staleLimit, h]

theorem turnsStale_congr {i : Slot} (hrecord : t.record i = s.record i)
    (hlayout : t.engine.active.layout = s.engine.active.layout)
    (hcount : t.router.staleCounts[i] = s.router.staleCounts[i]) : t.turnsStale i = s.turnsStale i := by
  rw [State.turnsStale, State.turnsStale, counted_congr hrecord hlayout, hcount, State.staleLimit, State.staleLimit,
    hrecord]

theorem queuesFill_congr {i : Slot} (hrecord : t.record i = s.record i)
    (hlayout : t.engine.active.layout = s.engine.active.layout)
    (hcount : t.router.staleCounts[i] = s.router.staleCounts[i]) : t.queuesFill i = s.queuesFill i := by
  rw [State.queuesFill, State.queuesFill, turnsStale_congr hrecord hlayout hcount, hrecord]

/-! ## The count of the regions given -/

/-- What the count of the regions of a list makes of a state (R86, R87). -/
structure Ticked (l : List Slot) (s t : State) : Prop where
  writes : ∃ flags slots staleCounts queue, t = { s with
    port := { s.port with flags }, table := { s.table with slots }, router := { s.router with staleCounts }
    fill := { s.fill with queue } }
  record : ∀ j, t.record j = if j ∈ l ∧ s.turnsStale j = true then { s.record j with stale := true } else s.record j
  count : ∀ j : Slot, t.router.staleCounts[j] =
    if j ∈ l ∧ s.counted j = true then s.router.staleCounts[j] + 1 else s.router.staleCounts[j]
  queue : t.fill.queue = ((l.filter s.queuesFill).map Key.region).foldl joinKey s.fill.queue
  flags : ∀ f, s.flag f = true → t.flag f = true
  raised : s.inReset = false → ∀ j ∈ l, s.turnsStale j = true → t.flag .regionStale = true

theorem staleCounts_setStaleCount (s : State) (i j : Slot) (n : Nat) :
    (s.setStaleCount i n).router.staleCounts[j] = if j = i then n else s.router.staleCounts[j] := by
  split
  next h =>
    subst h
    exact Vec.modify_get_self _ _ _
  next h => exact Vec.modify_get_ne _ _ _ _ (Ne.symm h)

theorem becomeStale_writes (s : State) (i : Slot) : ∃ flags queue, s.becomeStale i =
    { s.updRecord i fun r => { r with stale := true } with
      port := { s.port with flags }, fill := { s.fill with queue } } := by
  unfold State.becomeStale
  obtain ⟨flags, h⟩ := setFlag_writes (s.updRecord i fun r => { r with stale := true }) .regionStale
  rw [h]
  dsimp only
  split
  · rw [queueJob_join]
    exact ⟨flags, _, rfl⟩
  · exact ⟨flags, s.fill.queue, rfl⟩

theorem becomeStale_queue (s : State) (i : Slot) : (s.becomeStale i).fill.queue =
    if (s.record i).live.any (fun d => d.attributes.staleAction = .fill) then joinKey s.fill.queue (.region i)
    else s.fill.queue := by
  unfold State.becomeStale
  obtain ⟨flags, h⟩ := setFlag_writes (s.updRecord i fun r => { r with stale := true }) .regionStale
  rw [h]
  dsimp only
  split
  · rw [queueJob_join]
    rfl
  · rfl

theorem becomeStale_flag (s : State) (i : Slot) (f : EventFlag) : (s.becomeStale i).flag f =
    ((s.updRecord i fun r => { r with stale := true }).setFlag .regionStale).flag f := by
  unfold State.becomeStale
  dsimp only
  split
  · rw [State.flag, queueJob_port, State.flag]
  · rfl

theorem ticked_at (s : State) (i : Slot) : Ticked [i] s (s.staleTickAt i) := by
  unfold State.staleTickAt
  split
  next hcounted =>
    dsimp only
    split
    next hlimit =>
      have hturns : s.turnsStale i = true := by rw [State.turnsStale, hcounted, decide_eq_true hlimit]; rfl
      obtain ⟨flags, queue, h⟩ := becomeStale_writes (s.setStaleCount i (s.router.staleCounts[i] + 1)) i
      refine ⟨⟨flags, _, _, queue, h⟩, fun j => ?_, fun j => ?_, ?_, fun f hf => ?_, fun hreset j hj _ => ?_⟩
      · have hrecord : (State.becomeStale i (s.setStaleCount i (s.router.staleCounts[i] + 1))).record j =
            (s.updRecord i fun r => { r with stale := true }).record j := by rw [h]; rfl
        rw [hrecord]
        by_cases hij : i = j
        · subst hij
          rw [record_updRecord_self, if_pos ⟨List.mem_singleton_self _, hturns⟩]
        · rw [record_updRecord_ne _ _ _ _ hij, if_neg]
          exact fun hj => hij (List.mem_singleton.mp hj.1).symm
      · have hcount : (State.becomeStale i (s.setStaleCount i (s.router.staleCounts[i] + 1))).router =
            (s.setStaleCount i (s.router.staleCounts[i] + 1)).router := by rw [h]; rfl
        rw [hcount, staleCounts_setStaleCount]
        by_cases hij : j = i
        · subst hij
          rw [if_pos rfl, if_pos ⟨List.mem_singleton_self _, hcounted⟩]
        · rw [if_neg hij, if_neg]
          exact fun hj => hij (List.mem_singleton.mp hj.1)
      · rw [becomeStale_queue]
        change (if ((s.record i).live.any fun d => d.attributes.staleAction = .fill) = true then _ else s.fill.queue) = _
        cases hfill : (s.record i).live.any fun d => d.attributes.staleAction = .fill <;>
          simp [State.queuesFill, hturns, hfill]
      · rw [becomeStale_flag]
        exact flag_setFlag_of _ _ hf
      · rw [becomeStale_flag]
        exact flag_setFlag_self _ hreset
    next hlimit =>
      have hstays : ∀ j, j ∈ [i] → s.turnsStale j = false := by
        intro j hj
        rw [List.mem_singleton.mp hj, State.turnsStale, decide_eq_false hlimit, Bool.and_false]
      refine ⟨⟨s.port.flags, s.table.slots, _, s.fill.queue, rfl⟩, fun j => ?_, fun j => ?_, ?_, fun f hf => hf,
        fun _ j hj hturns => ?_⟩
      · rw [if_neg]
        · rfl
        · exact fun hj => Bool.eq_false_iff.mp (hstays j hj.1) hj.2
      · rw [staleCounts_setStaleCount]
        by_cases hij : j = i
        · subst hij
          rw [if_pos rfl, if_pos ⟨List.mem_singleton_self _, hcounted⟩]
        · rw [if_neg hij, if_neg]
          exact fun hj => hij (List.mem_singleton.mp hj.1)
      · have hnone : [i].filter s.queuesFill = [] := by
          simp [State.queuesFill, hstays i (List.mem_singleton_self i)]
        rw [hnone]
        rfl
      · exact absurd hturns (Bool.eq_false_iff.mp (hstays j hj))
  next hcounted =>
    have hcounted : s.counted i = false := Bool.eq_false_iff.mpr hcounted
    have hstays : s.turnsStale i = false := by rw [State.turnsStale, hcounted, Bool.false_and]
    refine ⟨⟨s.port.flags, s.table.slots, s.router.staleCounts, s.fill.queue, rfl⟩, fun j => ?_, fun j => ?_, ?_,
      fun f hf => hf, fun _ j hj hturns => ?_⟩
    · rw [if_neg]
      rintro ⟨hj, hturns⟩
      rw [List.mem_singleton.mp hj, hstays] at hturns
      cases hturns
    · rw [if_neg]
      rintro ⟨hj, hturns⟩
      rw [List.mem_singleton.mp hj, hcounted] at hturns
      cases hturns
    · have hnone : [i].filter s.queuesFill = [] := by simp [State.queuesFill, hstays]
      rw [hnone]
      rfl
    · rw [List.mem_singleton.mp hj, hstays] at hturns
      cases hturns

theorem Ticked.engine {l : List Slot} (h : Ticked l s t) : t.engine = s.engine := by
  obtain ⟨flags, slots, counts, queue, rfl⟩ := h.writes
  rfl

theorem Ticked.inReset {l : List Slot} (h : Ticked l s t) : t.inReset = s.inReset := by
  obtain ⟨flags, slots, counts, queue, rfl⟩ := h.writes
  rfl

theorem ticked_foldl {l : List Slot} (hl : l.Nodup) (s : State) : Ticked l s (l.foldl (fun u i => u.staleTickAt i) s) := by
  induction l generalizing s with
  | nil =>
    exact ⟨⟨s.port.flags, s.table.slots, s.router.staleCounts, s.fill.queue, rfl⟩, fun j => by simp, fun j => by simp,
      rfl, fun _ => id, fun _ j hj => absurd hj List.not_mem_nil⟩
  | cons i rest ih =>
    obtain ⟨hi, hrest⟩ := List.nodup_cons.mp hl
    have hat := ticked_at s i
    rw [List.foldl_cons]
    generalize s.staleTickAt i = v at hat
    have hgo := ih hrest v
    generalize rest.foldl (fun u i => u.staleTickAt i) v = w at hgo
    have hlayout : v.engine.active.layout = s.engine.active.layout := by rw [hat.engine]
    have hother {j : Slot} (hj : j ≠ i) : v.record j = s.record j ∧ v.router.staleCounts[j] = s.router.staleCounts[j] := by
      have hnot {p : Prop} : ¬ (j ∈ [i] ∧ p) := fun h => hj (List.mem_singleton.mp h.1)
      rw [hat.record j, hat.count j, if_neg hnot, if_neg hnot]
      exact ⟨rfl, rfl⟩
    have hne {j : Slot} (hj : j ∈ rest) : j ≠ i := fun e => hi (e ▸ hj)
    have hturns {j : Slot} (hj : j ≠ i) : v.turnsStale j = s.turnsStale j :=
      turnsStale_congr (hother hj).1 hlayout (hother hj).2
    refine ⟨?_, fun j => ?_, fun j => ?_, ?_, fun f hf => hgo.flags f (hat.flags f hf), fun hreset j hj hj' => ?_⟩
    · obtain ⟨flags, slots, counts, queue, rfl⟩ := hat.writes
      obtain ⟨flags', slots', counts', queue', rfl⟩ := hgo.writes
      exact ⟨flags', slots', counts', queue', rfl⟩
    · rw [hgo.record j]
      by_cases hj : j = i
      · subst hj
        rw [if_neg fun h => hi h.1, hat.record j]
        simp
      · rw [hturns hj, (hother hj).1]
        simp [hj]
    · rw [hgo.count j]
      by_cases hj : j = i
      · subst hj
        rw [if_neg fun h => hi h.1, hat.count j]
        simp
      · rw [counted_congr (hother hj).1 hlayout, (hother hj).2]
        simp [hj]
    · have hfilter : rest.filter v.queuesFill = rest.filter s.queuesFill :=
        List.filter_congr fun j hj => queuesFill_congr (hother (hne hj)).1 hlayout (hother (hne hj)).2
      rw [hgo.queue, hfilter, hat.queue, ← List.foldl_append, ← List.map_append, ← List.filter_append]
      rfl
    · rcases List.mem_cons.mp hj with rfl | hj
      · exact hgo.flags _ (hat.raised hreset j (List.mem_singleton_self j) hj')
      · exact hgo.raised (hat.inReset.trans hreset) j hj (by rwa [hturns (hne hj)])

theorem ticked_staleTick (s : State) (eligible : Slot → Bool) :
    Ticked (slotList.filter eligible) s (s.staleTick eligible) :=
  ticked_foldl ((List.nodup_finRange 32).filter _) s

/-! ## The scan start -/

/-- A state with its substitute timer restarted and the flags given (R99, R100). -/
def State.scanned (s : State) (flags : BitVec 14) : State :=
  { s with link := { s.link with timer := some s.link.interval }, port := { s.port with flags } }

/-- A scan start, real or substitute, is that of the restarted timer, and a substitute one sets its flag (R99). -/
theorem exec_scan {c : Instr} (hreset : s.inReset = false)
    (hc : c = .scanStart ∨ (c = .substituteScanStart ∧ s.link.timer ≠ none)) :
    ∃ flags, exec c s = .next (s.scanned flags).scanStart := by
  rcases hc with rfl | ⟨rfl, htimer⟩
  · refine ⟨s.port.flags, ?_⟩
    change execScanStart s = _
    rw [execScanStart, hreset]
    rfl
  · refine ⟨s.port.flags ||| EventFlag.scanSubstituted.bit, ?_⟩
    change execSubstituteScanStart s = _
    rw [execSubstituteScanStart, if_pos (Option.isSome_iff_ne_none.mpr htimer), setFlag_eq _ _ (by exact hreset)]
    rfl

theorem quarantineTick_record (s : State) (i : Slot) : s.quarantineTick.record i = (s.record i).quarantineTick :=
  record_mapRecords s _ i

theorem quarantineTick_freed {r : Record} (h : r.lifecycle = .quarantine) (hcount : r.quarantineCount ≤ 1) :
    r.quarantineTick = Record.free r.generation := by
  rw [Record.quarantineTick, if_pos h, if_pos hcount]

theorem quarantineTick_counts {r : Record} (h : r.lifecycle = .quarantine) (hcount : 1 < r.quarantineCount) :
    r.quarantineTick = { r with quarantineCount := r.quarantineCount - 1 } := by
  rw [Record.quarantineTick, if_pos h, if_neg (Nat.not_le.mpr hcount)]

/-- A slot in QUARANTINE stays in it or becomes FREE (R38). -/
theorem quarantineTick_unused {r : Record} (h : r.lifecycle = .quarantine) :
    r.quarantineTick.lifecycle = .free ∨ r.quarantineTick.lifecycle = .quarantine := by
  rcases Nat.lt_or_ge 1 r.quarantineCount with hcount | hcount
  · rw [quarantineTick_counts h hcount]
    exact .inr h
  · rw [quarantineTick_freed h hcount]
    exact .inl rfl

theorem quarantineTick_isShown (s : State) (i : Slot) : s.quarantineTick.isShown i = s.isShown i := by
  by_cases h : (s.record i).lifecycle = .quarantine
  · have hunused := quarantineTick_unused h
    rw [Bool.eq_iff_iff, isShown_iff, isShown_iff, quarantineTick_record, h]
    refine iff_of_false (fun hshown => ?_) (by simp)
    rcases hunused with hl | hl <;> rw [hl] at hshown <;> cases hshown.1
  · rw [State.isShown, State.isShown, quarantineTick_record, quarantineTick_else h]

theorem advanceHold_writes (s : State) : ∃ q, s.advanceHold = { s with transition := q } := by
  unfold State.advanceHold
  split
  · exact ⟨_, rfl⟩
  · exact ⟨s.transition, rfl⟩

theorem advanceHold_holding (hstate : s.transition.state = .holding)
    (hcount : s.transition.holdCount ≠ s.transition.blankHold) :
    s.advanceHold = s.updTransition fun q => { q with holdCount := q.holdCount + 1 } := by
  have hordered : s.swapOrdered = false := by
    rw [State.swapOrdered, decide_eq_false hcount, Bool.and_false]
  rw [State.advanceHold, hordered, hstate]
  rfl

/-- No map swaps where none is READY but a TARGET map that is not ordered (R64, R133). -/
theorem dueSwap_none (h : ∀ b m, s.engine.phase = .ready b m → b.kind = .target ∧
      ¬ (s.transition.state = .holding ∧ s.transition.holdCount = s.transition.blankHold)) : s.dueSwap = none := by
  unfold State.dueSwap
  split
  next b m hphase =>
    obtain ⟨hkind, hnot⟩ := h b m hphase
    rw [hkind]
    exact if_neg fun hordered => hnot ((swapOrdered_iff s).mp hordered)
  · rfl
  · rfl
  · rfl

theorem scanStart_plain (h : s.quarantineTick.dueSwap = none) :
    s.scanStart = (s.quarantineTick.advanceHold.staleTick fun _ => true).finish := by
  rw [State.scanStart]
  dsimp only
  rw [h]

/-- The state at a scan start without a swap as the count of the regions finds it. -/
def State.scanCounted (s : State) (flags : BitVec 14) : State := (s.scanned flags).quarantineTick.advanceHold

theorem scanCounted_record (s : State) (flags : BitVec 14) (i : Slot) :
    (s.scanCounted flags).record i = (s.record i).quarantineTick := by
  obtain ⟨q, h⟩ := advanceHold_writes (s.scanned flags).quarantineTick
  rw [State.scanCounted, h]
  exact quarantineTick_record (s.scanned flags) i

theorem scanCounted_eq (s : State) (flags : BitVec 14) : ∃ q, s.scanCounted flags =
    { (s.scanned flags).quarantineTick with transition := q } := advanceHold_writes _

theorem scanCounted_counted (s : State) (flags : BitVec 14) (i : Slot) :
    (s.scanCounted flags).counted i = s.counted i := by
  have hrecord := scanCounted_record s flags i
  have hlayout : (s.scanCounted flags).engine.active.layout = s.engine.active.layout := by
    obtain ⟨q, h⟩ := scanCounted_eq s flags
    rw [h]
    rfl
  by_cases hlife : (s.record i).lifecycle = .quarantine
  · have hnot {v : State} (h : (v.record i).lifecycle ≠ .inService) : v.counted i = false := by
      rw [← Bool.not_eq_true, counted_iff, isShown_iff]
      exact fun hv => h hv.1.1
    rw [hnot (v := s) (by rw [hlife]; nofun), hnot]
    rw [hrecord]
    rcases quarantineTick_unused hlife with hl | hl <;> rw [hl] <;> nofun
  · exact counted_congr (hrecord.trans (quarantineTick_else hlife)) hlayout

/-- A region that turns Stale is IN_SERVICE (R87). -/
theorem turnsStale_inService {i : Slot} (h : s.turnsStale i = true) : (s.record i).lifecycle = .inService := by
  rw [State.turnsStale, Bool.and_eq_true, counted_iff, isShown_iff] at h
  exact h.1.1.1

theorem mem_eligible (j : Slot) : j ∈ slotList.filter fun _ => true := List.mem_filter.mpr ⟨mem_slotList j, rfl⟩

/-- What a scan start without a swap does to a record (R38, R87). -/
theorem scan_record {flags : BitVec 14} (i : Slot) (w : State)
    (htick : Ticked (slotList.filter fun _ => true) (s.scanCounted flags) w) (hends : Ends w t) :
    ((s.record i).lifecycle = .quarantine → t.record i = (s.record i).quarantineTick)
    ∧ ((s.record i).lifecycle ≠ .quarantine → t.record i =
      { s.record i with stale := (t.record i).stale, inBuild := (t.record i).inBuild }) := by
  have hrest := hends.records i
  have hw := htick.record i
  rw [scanCounted_record] at hw
  constructor
  · intro hlife
    have hunused := quarantineTick_unused hlife
    rw [if_neg] at hw
    · rw [hw] at hrest
      exact hrest.unused hunused
    · rintro ⟨-, hturns⟩
      have hin := turnsStale_inService hturns
      rw [scanCounted_record] at hin
      rcases hunused with hl | hl <;> rw [hl] at hin <;> cases hin
  · intro hlife
    rw [quarantineTick_else hlife] at hw
    have heq := hrest.rest
    split at hw <;> rw [hw] at heq <;> exact heq

/-- Settles O27: the counts of the ticked state, and what the end of the event leaves of them. -/
theorem scanCounts : Obligations.ScanCounts := by
  refine ⟨fun s => ⟨fun hreset htimer => ?_, fun hreset => ?_, fun htimer => ?_⟩, fun c s hreset hc hnone => ?_⟩
  · have hport : State.inReset { s with port := { s.port with flags := s.port.flags ||| EventFlag.scanSubstituted.bit } } =
        false := hreset
    change execSubstituteScanStart s = execScanStart _
    rw [execSubstituteScanStart, if_pos (Option.isSome_iff_ne_none.mpr htimer), setFlag_eq _ _ (by exact hreset),
      execScanStart, hport]
    rfl
  · exact if_pos hreset
  · change execSubstituteScanStart s = _
    rw [execSubstituteScanStart, htimer]
    rfl
  obtain ⟨flags, hexec⟩ := exec_scan hreset hc
  have hdue : (s.scanned flags).quarantineTick.dueSwap = none := dueSwap_none hnone
  have htick := ticked_staleTick (s.scanCounted flags) fun _ => true
  rw [scanStart_plain hdue] at hexec
  change exec c s = .next ((s.scanCounted flags).staleTick fun _ => true).finish at hexec
  have hends := ends_finish ((s.scanCounted flags).staleTick fun _ => true)
  have hquiet := quiet_finish (s := (s.scanCounted flags).staleTick fun _ => true)
  generalize (s.scanCounted flags).staleTick (fun _ => true) = w at htick hends hquiet hexec
  obtain ⟨q, hcounted⟩ := scanCounted_eq s flags
  have hwengine : w.engine = s.engine := by
    rw [htick.engine, hcounted]
    rfl
  have hwlink : w.link = (s.scanned flags).link := by
    obtain ⟨flags', slots, counts, queue, h⟩ := htick.writes
    rw [h, hcounted]
    rfl
  refine ⟨w.finish, hexec, ?_, ?_, ?_, fun hstate hcount => ?_, fun i => ?_, fun hempty i => ?_⟩
  · rw [hends.epoch, hwengine]
  · rw [hends.active, hwengine]
  · rw [hends.timer, hwlink]
    rfl
  · have hw : w.transition = { s.transition with holdCount := s.transition.holdCount + 1 } := by
      obtain ⟨flags', slots, counts, queue, h⟩ := htick.writes
      rw [h, State.scanCounted, advanceHold_holding (by exact hstate) (by exact hcount)]
      rfl
    rw [hends.transition (.inl (by rw [hw]; exact hstate ▸ nofun)), hw]
  · obtain ⟨hquarantine, helse⟩ := scan_record i w htick hends
    exact ⟨fun hlife hcount => (hquarantine hlife).trans (quarantineTick_freed hlife hcount),
      fun hlife hcount => (hquarantine hlife).trans (quarantineTick_counts hlife hcount), helse⟩
  · have hrouter : w.router.linkQueue = [] := by
      obtain ⟨flags', slots, counts, queue, h⟩ := htick.writes
      rw [h, hcounted]
      exact hempty
    have hq := hquiet hrouter
    have hcount := htick.count i
    have hrecord := htick.record i
    have hstale := hq.stale i
    have hwcounts : (s.scanCounted flags).router.staleCounts[i] = s.router.staleCounts[i] := by
      rw [hcounted]
      rfl
    rw [scanCounted_counted, hwcounts] at hcount
    rw [hq.counts]
    simp only [mem_eligible, true_and] at hcount hrecord
    intro counted
    have hiff : s.counted i = true ↔ counted := counted_iff s i
    refine ⟨fun hnot => ?_, fun d hyes hlive => ?_⟩
    · rw [← hiff] at hnot
      rw [if_neg hnot] at hcount
      refine ⟨hcount, fun hlife => ?_⟩
      rw [if_neg, scanCounted_record, quarantineTick_else hlife] at hrecord
      · rw [hstale, hrecord]
      · rw [State.turnsStale, scanCounted_counted, Bool.eq_false_iff.mpr hnot]
        nofun
    · rw [← hiff] at hyes
      rw [if_pos hyes] at hcount
      have hlife : (s.record i).lifecycle ≠ .quarantine := by
        rw [((isShown_iff s i).mp ((counted_iff s i).mp hyes).1).1]
        nofun
      have hsame : (s.scanCounted flags).record i = s.record i :=
        (scanCounted_record s flags i).trans (quarantineTick_else hlife)
      have hturns : (s.scanCounted flags).turnsStale i = true ↔ d.attributes.staleLimit ≤ s.router.staleCounts[i] + 1 := by
        rw [State.turnsStale, scanCounted_counted, hyes, hwcounts, staleLimit_of_live (by rw [hsame]; exact hlive)]
        simp
      have hiffstale : (w.finish.record i).stale = true ↔ (s.scanCounted flags).turnsStale i = true := by
        rw [hstale, hrecord]
        split
        next h => exact iff_of_true rfl h
        next h =>
          rw [hsame, ((counted_iff s i).mp hyes).2.1]
          exact iff_of_false Bool.false_ne_true h
      refine ⟨hcount, hiffstale.trans hturns, fun h => ?_, fun h hfill => ?_⟩
      · refine hends.flags _ (htick.raised ?_ i (mem_eligible i) (hiffstale.mp h))
        rw [hcounted]
        exact hreset
      · refine hends.jobs _ (.inl ?_)
        rw [htick.queue, mem_foldl_joinKey]
        refine .inr (List.mem_map.mpr ⟨i, List.mem_filter.mpr ⟨mem_eligible i, ?_⟩, rfl⟩)
        rw [State.queuesFill, hiffstale.mp h, hsame, hlive]
        simpa using hfill

end Sys2Proof.Machine

/-! CLAIM. The pixel input link: frames, runs and their closing (O28, O29). -/

namespace Sys2Proof.Machine

variable {s t u : State}

/-! ## Changes of a stream -/

theorem Vec.ext_fin {α : Type} {n : Nat} {v w : Vector α n} (h : ∀ i : Fin n, v[i] = w[i]) : v = w :=
  Vector.ext fun i hi => h ⟨i, hi⟩

theorem Vec.modify_modify {α : Type} {n : Nat} (v : Vector α n) (i : Fin n) (f g : α → α) :
    Vec.modify (Vec.modify v i f) i g = Vec.modify v i fun x => g (f x) := by
  refine Vec.ext_fin fun j => ?_
  by_cases hij : i = j
  · subst hij
    rw [Vec.modify_get_self, Vec.modify_get_self, Vec.modify_get_self]
  · rw [Vec.modify_get_ne _ _ _ _ hij, Vec.modify_get_ne _ _ _ _ hij, Vec.modify_get_ne _ _ _ _ hij]

theorem Vec.modify_congr {α : Type} {n : Nat} {v : Vector α n} {i : Fin n} {f g : α → α} (h : f v[i] = g v[i]) :
    Vec.modify v i f = Vec.modify v i g := congrArg (v.set i) h

theorem updStream_updStream (s : State) (n : Fin 8) (f g : Stream → Stream) :
    (s.updStream n f).updStream n g = s.updStream n fun st => g (f st) :=
  congrArg (fun v => ({ s with router := { s.router with streams := v } } : State)) (Vec.modify_modify _ n f g)

theorem updStream_congr {n : Fin 8} {f g : Stream → Stream} (h : f s.router.streams[n] = g s.router.streams[n]) :
    s.updStream n f = s.updStream n g :=
  congrArg (fun v => ({ s with router := { s.router with streams := v } } : State)) (Vec.modify_congr h)

/-! ## A packet arrives -/

theorem streamOf_val {b : Byte} {n : Fin 8} (h : b.toNat = n.val) : streamOf b = some n := by
  rw [streamOf, dif_pos (h ▸ n.isLt)]
  exact congrArg some (Fin.ext h)

theorem streamOf_none {b : Byte} (h : 7 < b.toNat) : streamOf b = none := dif_neg (Nat.not_lt.mpr h)

/-- A packet is taken at once where the link is not held off and none waits before it (R74). -/
theorem packetArrives_open (p : Packet) (hreset : s.inReset = false) (hwaiting : s.link.streamWaiting = none)
    (hrun : s.router.run = none) (hqueue : s.router.linkQueue = []) : s.packetArrives p = s.takePacket p := by
  simp [State.packetArrives, State.linkOpen, hreset, hwaiting, hrun, hqueue]

theorem packetArrives_inReset (p : Packet) (hreset : s.inReset = true) : s.packetArrives p = s := if_pos hreset

/-- A packet waits on a link that is held off, or behind another (R74, R97). -/
theorem packetArrives_waits (p : Packet) (hreset : s.inReset = false)
    (hbusy : s.link.streamWaiting ≠ none ∨ s.router.run ≠ none ∨ s.router.linkQueue ≠ []) :
    s.packetArrives p = { s with router := { s.router with linkQueue := s.router.linkQueue ++ [p] } } := by
  have hopen : ¬ (s.linkOpen && s.router.linkQueue.isEmpty) = true := by
    rw [Bool.and_eq_true, linkOpen_iff, List.isEmpty_iff]
    rintro ⟨⟨hwaiting, hrun⟩, hqueue⟩
    exact hbusy.elim (absurd hwaiting) fun h => h.elim (absurd hrun) (absurd hqueue)
  rw [State.packetArrives, if_neg (by rw [hreset]; nofun), if_neg hopen]

/-- A packet that the router would not take changes nothing on an open link, in a reset or out of it (R74). -/
theorem packetArrives_unheeded {p : Packet} (hp : s.takePacket p = s) (hwaiting : s.link.streamWaiting = none)
    (hrun : s.router.run = none) (hqueue : s.router.linkQueue = []) : s.packetArrives p = s := by
  cases hreset : s.inReset with
  | true => exact packetArrives_inReset p hreset
  | false => exact (packetArrives_open p hreset hwaiting hrun hqueue).trans hp

theorem takePacket_frameBegin {b : Byte} {n : Fin 8} (w h : Byte) (hb : b.toNat = n.val) :
    s.takePacket (.frameBegin b w h) = s.takeFrameBegin n w.toNat h.toNat := by
  simp only [State.takePacket, streamOf_val hb]

theorem takePacket_tileRun {b : Byte} {n : Fin 8} {start : BitVec 16} {count : Byte} {tiles : List Pixels}
    (hb : b.toNat = n.val) (hlength : tiles.length = count.toNat) (hpixels : ∀ px ∈ tiles, px.length = 256) :
    s.takePacket (.tileRun b start count tiles) = s.takeTileRun n start.toNat count.toNat tiles := by
  have hall : tiles.all (fun t => t.length = 256) = true :=
    List.all_eq_true.mpr fun px hpx => decide_eq_true (hpixels px hpx)
  simp only [State.takePacket, streamOf_val hb, if_pos (And.intro hlength hall)]

theorem takePacket_frameEnd {b : Byte} {n : Fin 8} (hb : b.toNat = n.val) :
    s.takePacket (.frameEnd b) = s.takeFrameEnd n := by
  simp only [State.takePacket, streamOf_val hb]

/-- A packet of no stream is discarded (R74, R186). -/
theorem takePacket_noStream {b : Byte} (w h count : Byte) (start : BitVec 16) (tiles : List Pixels) (hb : 7 < b.toNat) :
    s.takePacket (.frameBegin b w h) = s ∧ s.takePacket (.tileRun b start count tiles) = s
      ∧ s.takePacket (.frameEnd b) = s := by
  simp only [State.takePacket, streamOf_none hb, and_self]

/-- A run of another length than its header gives is discarded (R74). -/
theorem takePacket_misfit {b count : Byte} {start : BitVec 16} {tiles : List Pixels}
    (h : tiles.length ≠ count.toNat ∨ ∃ px ∈ tiles, px.length ≠ 256) :
    s.takePacket (.tileRun b start count tiles) = s := by
  have hmisfit : ¬ (tiles.length = count.toNat ∧ tiles.all (fun t => t.length = 256) = true) := by
    rintro ⟨hlength, hall⟩
    rcases h with h | ⟨px, hpx, h⟩
    · exact h hlength
    · exact h (of_decide_eq_true (List.all_eq_true.mp hall px hpx))
  rw [State.takePacket]
  split
  · exact if_neg hmisfit
  · rfl

/-! ## Frames and runs -/

/-- The frame that a FRAME BEGIN opens (R76). -/
def State.newFrame (s : State) (w h : Nat) : Frame :=
  { stamp := s.engine.epoch, width := w, height := h, next := 0, malformed := false, timer := some s.router.frameTimeout }

theorem takeFrameBegin_malformed {n : Fin 8} {w h : Nat} (hsize : ¬ (1 ≤ w ∧ w ≤ 128 ∧ 1 ≤ h ∧ h ≤ 112)) :
    s.takeFrameBegin n w h = s.updStream n fun st => { st with last := .malformed } := if_neg hsize

theorem takeFrameBegin_closed {n : Fin 8} {w h : Nat} (hsize : 1 ≤ w ∧ w ≤ 128 ∧ 1 ≤ h ∧ h ≤ 112)
    (hframe : s.router.streams[n].frame = none) :
    s.takeFrameBegin n w h = s.updStream n fun st => { st with frame := some (s.newFrame w h) } := by
  rw [State.takeFrameBegin, if_pos hsize, hframe]
  rfl

/-- An open frame is closed as ABORTED by the next FRAME BEGIN (R76, R85). -/
theorem takeFrameBegin_open {n : Fin 8} {w h : Nat} (hreset : s.inReset = false)
    (hsize : 1 ≤ w ∧ w ≤ 128 ∧ 1 ≤ h ∧ h ≤ 112) (hframe : s.router.streams[n].frame ≠ none) :
    s.takeFrameBegin n w h = State.drainTest ({ s with port := { s.port with
        flags := s.port.flags ||| EventFlag.streamAborted.bit } }.updStream n
      fun st => { st with frame := some (s.newFrame w h), last := .aborted }) := by
  obtain ⟨f, hf⟩ := Option.ne_none_iff_exists'.mp hframe
  have haborts := setFlag_eq (s.updStream n fun st => { st with last := .aborted }) .streamAborted hreset
  rw [State.takeFrameBegin, if_pos hsize, hf]
  dsimp only
  rw [haborts]
  exact congrArg State.drainTest (updStream_updStream { s with port := { s.port with
    flags := s.port.flags ||| EventFlag.streamAborted.bit } } n _ _)

theorem dropRun_nil (s : State) (n : Fin 8) : s.dropRun n [] = s := rfl

theorem dropRun_tiles {n : Fin 8} {tiles : List Pixels} (h : tiles ≠ []) : s.dropRun n tiles =
    { s with router := { s.router with run := some { stream := n, tiles, routed := false } } } := by
  rw [State.dropRun, if_neg (by rwa [List.isEmpty_iff])]

theorem takeTileRun_orphan {n : Fin 8} (start count : Nat) (tiles : List Pixels)
    (hframe : s.router.streams[n].frame = none) : s.takeTileRun n start count tiles =
      (s.updStream n fun st => { st with last := .orphan }).dropRun n tiles := by
  rw [State.takeTileRun, hframe]
  rfl

theorem takeTileRun_malformed {n : Fin 8} {start count : Nat} {tiles : List Pixels} {f : Frame}
    (hframe : s.router.streams[n].frame = some f)
    (hbad : count = 0 ∨ 128 < count ∨ start ≠ f.next ∨ f.width * f.height < start + count) :
    s.takeTileRun n start count tiles = (s.updStream n fun st =>
        { st with frame := some { f with
          malformed := true, timer := if tiles.isEmpty then some s.router.frameTimeout else none } }).dropRun n tiles := by
  rw [State.takeTileRun, hframe]
  exact if_pos hbad

theorem takeTileRun_routed {n : Fin 8} {start count : Nat} {tiles : List Pixels} {f : Frame}
    (hframe : s.router.streams[n].frame = some f)
    (hgood : ¬ (count = 0 ∨ 128 < count ∨ start ≠ f.next ∨ f.width * f.height < start + count)) :
    s.takeTileRun n start count tiles =
      { s with router := { s.router with run := some { stream := n, tiles, routed := true } } }.updStream n
        fun st => { st with frame := some { f with timer := none } } := by
  rw [State.takeTileRun, hframe]
  exact if_neg hgood

/-- Settles O28, by the packet's kind and the state of the stream and of the link. -/
theorem framesAndRuns : Obligations.FramesAndRuns := by
  refine ⟨fun s b n hreset hwaiting hrun hqueue hb => ?_, fun s b w h count start tiles bytes => ?_⟩
  · have arrives (p : Packet) : Host.Outcome.next (φ := Fault) (ρ := Refusal) (s.packetArrives p) = .next (s.takePacket p) :=
      congrArg _ (packetArrives_open p hreset hwaiting hrun hqueue)
    refine ⟨fun w h => ?_, fun start count tiles hlength hpixels => ?_⟩
    · have begins : exec (.frameBegin b w h) s = .next (s.takeFrameBegin n w.toNat h.toNat) :=
        (arrives _).trans (congrArg _ (takePacket_frameBegin w h hb))
      exact ⟨fun hsize => begins.trans (congrArg _ (takeFrameBegin_malformed hsize)), fun hw hw' hh hh' =>
        ⟨fun hframe => begins.trans (congrArg _ (takeFrameBegin_closed ⟨hw, hw', hh, hh'⟩ hframe)),
          fun hframe => begins.trans (congrArg _ (takeFrameBegin_open hreset ⟨hw, hw', hh, hh'⟩ hframe))⟩⟩
    · have runs : exec (.tileRun b start count tiles) s = .next (s.takeTileRun n start.toNat count.toNat tiles) :=
        (arrives _).trans (congrArg _ (takePacket_tileRun hb hlength hpixels))
      refine ⟨fun hframe => ?_, fun f hframe => ⟨fun hbad => ?_, fun h1 h2 h3 h4 => ?_⟩⟩
      · rw [runs, takeTileRun_orphan _ _ _ hframe]
        refine ⟨fun htiles => ?_, fun htiles => ?_⟩
        · exact congrArg _ (dropRun_tiles htiles)
        · rw [htiles, dropRun_nil]
      · rw [runs, takeTileRun_malformed hframe hbad]
        refine ⟨fun htiles => ?_, fun htiles => ?_⟩
        · have hempty : ¬ tiles.isEmpty = true := by rwa [List.isEmpty_iff]
          rw [dropRun_tiles htiles, if_neg hempty]
        · rw [htiles, dropRun_nil]
          rfl
      · exact runs.trans (congrArg _ (takeTileRun_routed hframe (by omega)))
  · refine ⟨fun hreset => ?_, fun hreset hbusy => ?_, fun hwaiting hrun hqueue => ?_⟩
    · exact ⟨congrArg _ (packetArrives_inReset _ hreset), congrArg _ (packetArrives_inReset _ hreset),
        congrArg _ (packetArrives_inReset _ hreset), congrArg _ (packetArrives_inReset _ hreset)⟩
    · refine ⟨congrArg _ (packetArrives_waits _ hreset hbusy), congrArg _ (packetArrives_waits _ hreset hbusy),
        congrArg _ (packetArrives_waits _ hreset hbusy), fun hparse => ?_⟩
      refine Eq.trans ?_ (congrArg _ (packetArrives_waits .discarded hreset hbusy))
      exact congrArg (fun p => Host.Outcome.next (s.packetArrives (Option.getD p .discarded))) hparse
    · have unheeded {p : Packet} (hp : s.takePacket p = s) : Host.Outcome.next (φ := Fault) (ρ := Refusal)
          (s.packetArrives p) = .next s := congrArg _ (packetArrives_unheeded hp hwaiting hrun hqueue)
      refine ⟨fun hparse => ?_, fun hb => ?_, fun hmisfit => unheeded (takePacket_misfit hmisfit)⟩
      · refine Eq.trans ?_ (unheeded (p := .discarded) rfl)
        exact congrArg (fun p => Host.Outcome.next (s.packetArrives (Option.getD p .discarded))) hparse
      · obtain ⟨hbegin, hrun, hend⟩ := takePacket_noStream (s := s) w h count start tiles hb
        exact ⟨unheeded hbegin, unheeded hrun, unheeded hend⟩

/-! ## The closing of a frame -/

/-- Stale and the stale count cleared in some slots. -/
def State.cleared (p : Slot → Bool) (s : State) : State :=
  { s with
    table := { s.table with
      slots := Vec.tabulate (fun i => if p i = true then { s.record i with stale := false } else s.record i) }
    router := { s.router with
      staleCounts := Vec.tabulate (fun i => if p i = true then 0 else s.router.staleCounts[i]) } }

theorem cleared_record (p : Slot → Bool) (i : Slot) : (s.cleared p).record i =
    if p i = true then { s.record i with stale := false } else s.record i := Vec.tabulate_get _ i

theorem cleared_count (p : Slot → Bool) (i : Slot) : (s.cleared p).router.staleCounts[i] =
    if p i = true then 0 else s.router.staleCounts[i] := Vec.tabulate_get _ i

theorem cleared_isShown (p : Slot → Bool) (i : Slot) : (s.cleared p).isShown i = s.isShown i := by
  simp only [State.isShown, cleared_record]
  split <;> rfl

theorem cleared_of {v : State} {p : Slot → Bool} (h : v = { s with table := { s.table with slots := v.table.slots }
                                                                   router := { s.router with
                                                                     staleCounts := v.router.staleCounts } })
    (hrecord : ∀ i, v.record i = (s.cleared p).record i)
    (hcount : ∀ i : Slot, v.router.staleCounts[i] = (s.cleared p).router.staleCounts[i]) : v = s.cleared p := by
  have hslots : v.table.slots = (s.cleared p).table.slots := Vec.ext_fin hrecord
  have hcounts : v.router.staleCounts = (s.cleared p).router.staleCounts := Vec.ext_fin hcount
  rw [h, hslots, hcounts]
  rfl

theorem cleared_none (h : ∀ i, p i = false) : s.cleared p = s :=
  (cleared_of (v := s) rfl (fun i => by rw [cleared_record, h i]; rfl) fun i => by rw [cleared_count, h i]; rfl).symm

theorem cleared_cleared (p q : Slot → Bool) : (s.cleared p).cleared q = s.cleared fun i => p i || q i := by
  refine cleared_of rfl (fun i => ?_) fun i => ?_
  · rw [cleared_record, cleared_record, cleared_record]
    cases p i <;> cases q i <;> rfl
  · rw [cleared_count, cleared_count, cleared_count]
    cases p i <;> cases q i <;> rfl

/-- One binding's record is cleared where it is SHOWN (R88). -/
theorem clearOne_eq (s : State) (j : Slot) :
    (if s.isShown j then (s.updRecord j fun r => { r with stale := false }).setStaleCount j 0 else s) =
      s.cleared fun i => decide (j = i) && s.isShown i := by
  cases hshown : s.isShown j with
  | false =>
    refine (cleared_none fun i => ?_).symm
    by_cases hij : j = i
    · rw [← hij, hshown, Bool.and_false]
    · rw [decide_eq_false hij, Bool.false_and]
  | true =>
    refine cleared_of rfl (fun i => ?_) fun i => ?_
    · rw [cleared_record]
      by_cases hij : j = i
      · subst hij
        rw [decide_eq_true rfl, hshown]
        exact record_updRecord_self s j _
      · rw [decide_eq_false hij]
        exact record_updRecord_ne s j i _ hij
    · rw [cleared_count]
      by_cases hij : j = i
      · subst hij
        rw [decide_eq_true rfl, hshown]
        exact Vec.modify_get_self _ j _
      · rw [decide_eq_false hij]
        exact Vec.modify_get_ne _ j i _ hij

theorem clearStale_eq (bs : List Binding) (s : State) :
    s.clearStale bs = s.cleared fun i => bs.any (fun e => e.region = i) && s.isShown i := by
  unfold State.clearStale
  induction bs generalizing s with
  | nil => exact (cleared_none fun _ => rfl).symm
  | cons b rest ih =>
    rw [List.foldl_cons, clearOne_eq, ih, cleared_cleared]
    refine congrArg (s.cleared ·) (funext fun i => ?_)
    rw [cleared_isShown, List.any_cons, ← Bool.and_or_distrib_right]

/-- Settles O29, by the state of the frame that ends. -/
theorem framesClose : Obligations.FramesClose := by
  intro s b n hreset hb
  refine ⟨fun hwaiting hrun hqueue => ?_, fun f hframe htimer => ?_, fun htimer => ?_, fun m e hphase => ?_, ?_⟩
  · have ends : exec (.frameEnd b) s = .next (s.takeFrameEnd n) :=
      congrArg _ ((packetArrives_open _ hreset hwaiting hrun hqueue).trans (takePacket_frameEnd hb))
    refine ⟨fun hframe => ?_, fun f hframe => ⟨fun hbad => ?_, fun hgood hshort => ?_, fun hgood hfull => ?_⟩⟩ <;>
      rw [ends, State.takeFrameEnd, hframe]
    · rfl
    · exact congrArg _ (if_pos hbad)
    · exact congrArg _ ((if_neg (by rw [hgood]; nofun)).trans (if_pos hshort))
    · refine congrArg _ ((if_neg (by rw [hgood]; nofun)).trans ((if_neg (Nat.not_lt.mpr hfull)).trans ?_))
      rw [clearStale_eq]
      exact congrArg State.drainTest (updStream_updStream _ n _ _)
  · have hruns : s.router.streams[n].timerRuns = true := by
      rw [Stream.timerRuns, hframe]
      exact Option.isSome_iff_ne_none.mpr htimer
    exact if_pos hruns
  · have hstill : s.router.streams[n].timerRuns = false := by
      rw [Stream.timerRuns]
      cases hframe : s.router.streams[n].frame with
      | none => rfl
      | some f => exact congrArg Option.isSome (htimer f hframe)
    exact if_neg (by rw [hstill]; nofun)
  · refine ⟨fun hopen => ?_, fun hclosed => ?_⟩ <;> rw [drainTest_draining s m e hphase]
    · exact if_pos ((frameOpenWith_iff s e).mpr hopen)
    · refine if_neg fun hopen => ?_
      obtain ⟨k, f, hf, he⟩ := (frameOpenWith_iff s e).mp hopen
      exact hclosed k f hf he
  · exact drainTest_else s

end Sys2Proof.Machine

/-! CLAIM. STREAM_TILE: the writes of a routed tile, the tile of a dropped run, and the end of the run (O30). -/

namespace Sys2Proof.Machine

variable {s t u : State}

/-! ## What the link's work leaves of the router -/

@[simp] theorem activity_router (s : State) (a : Activity) (z : Zone) : (s.activity a z).router = s.router := by
  unfold State.activity
  split
  · rfl
  · split
    · rfl
    · rw [placeMessage_router, updZone_router]
    · rfl
    · rfl

theorem grantStream_router (s : State) (w : TileWrite) : (s.grantStream w).router = s.router := by
  unfold State.grantStream
  split
  · rfl
  · rw [activity_router]

theorem grantFill_router (s : State) (w : TileWrite) : (s.grantFill w).router = s.router := by
  unfold State.grantFill
  split
  · rfl
  · rw [activity_router, advanceJob_router]

theorem arbitrate_router (h : s.arbitrate = some t) : t.router = s.router := by
  obtain ⟨z, m, rfl⟩ | ⟨w, rfl⟩ | ⟨w, rfl⟩ := arbitrate_cases h
  · rfl
  · exact grantStream_router s w
  · exact grantFill_router s w

theorem startJob_router (s : State) : s.startJob.router = s.router := by
  unfold State.startJob
  split <;> rfl

theorem startJob_streamWaiting (s : State) : s.startJob.link.streamWaiting = s.link.streamWaiting := by
  unfold State.startJob
  split <;> rfl

theorem offerTile_router (s : State) : s.offerTile.router = s.router := by
  unfold State.offerTile
  split <;> rfl

theorem offerTile_streamWaiting (s : State) : s.offerTile.link.streamWaiting = s.link.streamWaiting := by
  unfold State.offerTile
  split <;> rfl

theorem abortTest_router (s : State) : s.abortTest.router = s.router := by
  unfold State.abortTest
  split
  · split <;> rfl
  · rfl

theorem abortTest_streamWaiting (s : State) : s.abortTest.link.streamWaiting = s.link.streamWaiting := by
  unfold State.abortTest
  split
  · split <;> rfl
  · rfl

theorem raiseTarget_router (s : State) : s.raiseTarget.router = s.router := by
  obtain ⟨flags, phase, claims, slots, h⟩ := takeClaim_writes
    ((s.updTransition fun q => { q with state := .building, prepareTimer := none }).updClaims fun c =>
      { c with target := s.transition.target })
  exact (congrArg State.router h).trans rfl

theorem callStart_router (s : State) (l : Layout) : (s.callStart l).router = s.router := by
  unfold State.callStart
  split
  · dsimp only
    split
    · rw [raiseTarget_router, setFlag_router, updTransition_router]
    · rw [setFlag_router, updTransition_router]
  · rfl

theorem settleTest_router (s : State) : s.settleTest.router = s.router := by
  unfold State.settleTest
  split
  · dsimp only
    split
    · rw [callStart_router, setFlag_router, updTransition_router]
    · rw [setFlag_router, updTransition_router]
  · rfl

/-- With nothing to hand over the router's part of the offers is the end of a run. -/
theorem offerAll_router (hhanding : s.router.handing = []) : s.offerAll.router = s.startJob.offerTile.endRun.router := by
  have hnothing : s.startJob.offerTile.router.handing = [] := by rw [offerTile_router, startJob_router, hhanding]
  have hhand : s.startJob.offerTile.handWrite = s.startJob.offerTile := by
    rw [State.handWrite, hnothing]
    split
    next h => cases h
    next => rfl
  rw [State.offerAll, hhand]

theorem endRun_none (hrun : s.router.run = none) : s.endRun = s := by
  rw [State.endRun, hrun]

theorem pump_router {n : Nat} (hrun : s.router.run = none) (hhanding : s.router.handing = []) :
    (s.pump n).router = s.router := by
  induction n generalizing s with
  | zero =>
    rw [State.pump, offerAll_router hhanding, endRun_none (by rw [offerTile_router, startJob_router, hrun]),
      offerTile_router, startJob_router]
  | succ n ih =>
    have hoffers : s.offerAll.router = s.router := by
      rw [offerAll_router hhanding, endRun_none (by rw [offerTile_router, startJob_router, hrun]),
        offerTile_router, startJob_router]
    unfold State.pump
    split
    next t h =>
      have ht : t.router = s.router := (arbitrate_router h).trans hoffers
      rw [ih (by rw [ht, hrun]) (by rw [ht, hhanding]), ht]
    next => exact hoffers

/-- The router after the last tile of a run on a stream (R78). -/
def Router.ended (n : Fin 8) (r : Router) : Router :=
  { r with run := none, streams := Vec.modify r.streams n (Stream.restartTimer r.frameTimeout) }

/-- The run whose last tile has been dealt with ends, and the frame timer restarts (R78). -/
theorem endRun_last {n : Fin 8} {routed : Bool} (hrun : s.router.run = some { stream := n, tiles := [], routed })
    (hhanding : s.router.handing = []) (hwaiting : s.link.streamWaiting = none) :
    s.endRun = { s with router := { s.router with run := none } }.updStream n
      (Stream.restartTimer s.router.frameTimeout) := by
  simp [State.endRun, hrun, hhanding, hwaiting]

theorem finish_lastTile {n : Fin 8} {routed : Bool} (hrun : s.router.run = some { stream := n, tiles := [], routed })
    (hhanding : s.router.handing = []) (hwaiting : s.link.streamWaiting = none) (hqueue : s.router.linkQueue = []) :
    s.finish.router = s.router.ended n := by
  have habort := abortTest_router s
  have hoffers : s.abortTest.offerAll.router = s.router.ended n := by
    have hrouter : s.abortTest.startJob.offerTile.router = s.router := by
      rw [offerTile_router, startJob_router, habort]
    rw [offerAll_router (by rw [habort, hhanding]), endRun_last (n := n) (routed := routed) (by rw [hrouter, hrun])
      (by rw [hrouter, hhanding])
      (by rw [offerTile_streamWaiting, startJob_streamWaiting, abortTest_streamWaiting, hwaiting])]
    change Router.ended n s.abortTest.startJob.offerTile.router = _
    rw [hrouter]
  rw [finish_empty hqueue, State.settleLink, settleTest_router, hhanding]
  change (State.pump 4 s.abortTest).router = _
  unfold State.pump
  split
  next t h =>
    have ht := (arbitrate_router h).trans hoffers
    rw [pump_router (by rw [ht]; rfl) (by rw [ht]; exact hhanding), ht]
  next => exact hoffers

/-! ## The tests of a tile -/

/-- The five tests of R80. -/
theorem routes_iff (s : State) (stamp : BitVec 16) (m : Map) (b : Binding) (x : Nat) :
    s.routes stamp m b x = true ↔ m.owner x = some b.region
      ∧ (stamp ≠ s.engine.epoch → s.engine.active.changed x = false)
      ∧ keptOut s.keepOuts s.sampler.bendApplied x = false
      ∧ (s.zoneState (s.geometry.zoneOfTile x)).mode ≠ .tripped ∧ s.heldBack x = false := by
  simp only [State.routes, Bool.and_eq_true, Bool.or_eq_true, decide_eq_true_eq, Bool.not_eq_true', Decidable.imp_iff_not_or, Decidable.not_not, and_assoc]
  exact Iff.rfl

theorem covers_iff (b : Binding) (col row : Nat) : b.covers col row = true ↔
    b.originCol ≤ col ∧ col < b.originCol + b.width ∧ b.originRow ≤ row ∧ row < b.originRow + b.height :=
  decide_eq_true_iff

theorem tile_eq (b : Binding) (col row : Nat) : b.tile col row =
    128 * (b.baseRow + row - b.originRow) + b.translation.physical (b.baseCol + col - b.originCol) :=
  congrArg (· + _) (Nat.mul_comm _ 128)

/-- A binding takes the next tile of a frame in a map (R79, R80). -/
def State.passes (s : State) (f : Frame) (m : Map) (b : Binding) : Bool :=
  b.covers (f.next % f.width) (f.next / f.width)
    && s.routes f.stamp m b (b.tile (f.next % f.width) (f.next / f.width))

theorem passes_iff (s : State) (f : Frame) (m : Map) (b : Binding) : s.passes f m b = true ↔
    b.originCol ≤ f.next % f.width ∧ f.next % f.width < b.originCol + b.width
      ∧ b.originRow ≤ f.next / f.width ∧ f.next / f.width < b.originRow + b.height
      ∧ m.owner (b.tile (f.next % f.width) (f.next / f.width)) = some b.region
      ∧ (f.stamp ≠ s.engine.epoch → s.engine.active.changed (b.tile (f.next % f.width) (f.next / f.width)) = false)
      ∧ keptOut s.keepOuts s.sampler.bendApplied (b.tile (f.next % f.width) (f.next / f.width)) = false
      ∧ (s.zoneState (s.geometry.zoneOfTile (b.tile (f.next % f.width) (f.next / f.width)))).mode ≠ .tripped
      ∧ s.heldBack (b.tile (f.next % f.width) (f.next / f.width)) = false := by
  rw [State.passes, Bool.and_eq_true, covers_iff, routes_iff]
  simp only [and_assoc]

/-- The map of a stamp is the ACTIVE map or that of the drain (R79). -/
theorem mapOf_iff (s : State) (stamp : BitVec 16) (m : Map) : s.mapOf stamp = some m ↔
    (stamp = s.engine.epoch ∧ m = s.engine.active)
      ∨ (stamp ≠ s.engine.epoch ∧ s.engine.phase = .draining m stamp) := by
  unfold State.mapOf
  by_cases hstamp : stamp = s.engine.epoch
  · rw [if_pos hstamp, Option.some_inj]
    exact ⟨fun h => .inl ⟨hstamp, h.symm⟩, fun h => h.elim (fun ⟨_, hm⟩ => hm.symm) fun ⟨hne, _⟩ => absurd hstamp hne⟩
  · rw [if_neg hstamp]
    have hsecond : ((stamp = s.engine.epoch ∧ m = s.engine.active)
        ∨ (stamp ≠ s.engine.epoch ∧ s.engine.phase = .draining m stamp)) ↔ s.engine.phase = .draining m stamp :=
      ⟨fun h => h.elim (fun ⟨he, _⟩ => absurd he hstamp) And.right, fun h => .inr ⟨hstamp, h⟩⟩
    rw [hsecond]
    cases s.engine.phase with
    | draining held e =>
      dsimp only
      by_cases he : stamp = e
      · subst he
        rw [if_pos rfl, Option.some_inj, EnginePhase.draining.injEq]
        exact ⟨fun h => ⟨h, rfl⟩, And.left⟩
      · rw [if_neg he, EnginePhase.draining.injEq]
        exact ⟨nofun, fun h => absurd h.2.symm he⟩
    | idle => exact ⟨nofun, nofun⟩
    | building b => exact ⟨nofun, nofun⟩
    | ready b x => exact ⟨nofun, nofun⟩

theorem filterMap_if {α β : Type} (p : α → Bool) (g : α → β) (l : List α) :
    (l.filterMap fun a => if p a = true then some (g a) else none) = (l.filter p).map g := by
  induction l with
  | nil => rfl
  | cons a rest ih => cases hp : p a <;> simp [hp, ih]

theorem tileWrites_some {n : Fin 8} {f : Frame} {px : Pixels} {m : Map} (h : s.mapOf f.stamp = some m) :
    s.tileWrites n f px = (m.bindings[n].filter (s.passes f m)).map fun b =>
      b.write (b.tile (f.next % f.width) (f.next / f.width)) px := by
  rw [State.tileWrites, h]
  dsimp only
  exact filterMap_if (s.passes f m) _ _

theorem tileWrites_none {n : Fin 8} {f : Frame} {px : Pixels} (h : s.mapOf f.stamp = none) :
    s.tileWrites n f px = [] := by rw [State.tileWrites, h]

/-! ## STREAM_TILE -/

theorem takeTile_routed {n : Fin 8} {px : Pixels} {rest : List Pixels} {f : Frame}
    (hrun : s.router.run = some { stream := n, tiles := px :: rest, routed := true })
    (hwaiting : s.link.streamWaiting = none) (hframe : s.router.streams[n].frame = some f) :
    s.takeTile = State.finish ({ s with router := { s.router with
      run := some { stream := n, tiles := rest, routed := true },
      handing := s.router.handing ++ s.tileWrites n f px } }.updStream n
        fun st => { st with frame := some { f with next := f.next + 1 } }) := by
  rw [State.takeTile, hrun, hwaiting]
  dsimp only
  rw [hframe]

theorem takeTile_dropped {n : Fin 8} {px : Pixels} {rest : List Pixels}
    (hrun : s.router.run = some { stream := n, tiles := px :: rest, routed := false })
    (hwaiting : s.link.streamWaiting = none) :
    s.takeTile = State.finish { s with router := { s.router with
      run := some { stream := n, tiles := rest, routed := false } } } := by
  rw [State.takeTile, hrun, hwaiting]

/-- Without a tile to take nothing changes (log entry 4). -/
theorem takeTile_else (h : ∀ (n : Fin 8) (px : Pixels) (rest : List Pixels) (routed : Bool),
      s.router.run = some { stream := n, tiles := px :: rest, routed } →
      (routed = true → s.router.streams[n].frame ≠ none) → s.link.streamWaiting ≠ none) : s.takeTile = s := by
  unfold State.takeTile
  split
  next n px rest hrun hwaiting =>
    split
    next f hframe => exact absurd hwaiting (h n px rest true hrun fun _ => by rw [hframe]; nofun)
    next => rfl
  next n px rest hrun hwaiting => exact absurd hwaiting (h n px rest false hrun nofun)
  next => rfl

/-- Settles O30, by the kind of the run. -/
theorem streamTile : Obligations.StreamTile := by
  refine fun s => ⟨fun n px rest f hrun hwaiting hframe => ?_, fun n px rest hrun hwaiting => ⟨?_, ?_⟩, ?_⟩
  · refine ⟨s.passes f, s.tileWrites n f px, ?_, fun m b => ?_, fun m hm => ?_, fun hm => ?_⟩
    · exact congrArg _ (takeTile_routed hrun hwaiting hframe)
    · rw [passes_iff, tile_eq]
    · rw [tileWrites_some ((mapOf_iff s f.stamp m).mpr hm)]
      refine congrArg (List.map · _) (funext fun b => ?_)
      rw [Binding.write, tile_eq]
    · exact tileWrites_none (Option.eq_none_iff_forall_ne_some.mpr fun m h => hm m ((mapOf_iff s f.stamp m).mp h))
  · exact congrArg _ (takeTile_dropped hrun hwaiting)
  · rintro rfl hhanding hqueue
    refine ⟨_, rfl, ?_⟩
    have hlast := finish_lastTile (s := { s with router := { s.router with
      run := some { stream := n, tiles := [], routed := false } } }) rfl hhanding hwaiting hqueue
    rw [takeTile_dropped hrun hwaiting, hlast]
    refine ⟨rfl, fun f hframe => ?_⟩
    refine (congrArg Stream.frame (Vec.modify_get_self s.router.streams n _)).trans ?_
    rw [Stream.restartTimer, hframe]
    rfl
  · exact fun h => congrArg _ (takeTile_else h)

end Sys2Proof.Machine

/-! CLAIM. The panel link's transfers, the arbiter's decisions, and the sets of the fill jobs (O31, O32, O33). -/

namespace Sys2Proof.Machine

variable {s t u : State}

/-! ## The panel -/

theorem ResetEffect.panel {c : Instr} (h : ResetEffect c s t) : t.panel = s.panel := by
  cases h with
  | restarted =>
    obtain ⟨_, _, _, _, h⟩ := claimRestore_writes s.restartBlocks
    exact (congrArg State.panel h).trans rfl
  | _ => rfl

/-- No effect but a completed transfer writes to the panel (R93, R96). -/
theorem Does.panel {c : Instr} (hc : c ≠ .transferComplete) (h : Does c s t) : t.panel = s.panel := by
  rcases h with h | h
  · cases h with
    | port h => obtain ⟨_, _, _, rfl⟩ := h.writes; rfl
    | link h =>
      cases h with
      | panel p htransfer => exact absurd htransfer hc
      | _ => rfl
    | zone h => obtain ⟨_, _, rfl⟩ := h.writes; rfl
    | frame h => obtain ⟨_, rfl⟩ := h.writes; rfl
    | record h => obtain ⟨_, rfl⟩ := h.writes; rfl
    | engine h => exact congrArg Beyond.panel h.beyond
    | transition h => obtain ⟨_, rfl⟩ := h.writes; rfl
    | sampler h => obtain ⟨_, rfl, -⟩ := h.writes; rfl
    | reset h => exact h.panel
  · cases h <;> rfl

theorem exec_panel {c : Instr} (h : exec c s = .next t) (hc : c ≠ .transferComplete) : t.panel = s.panel :=
  (exec_settles h).chain.keeps (law := fun v => v.panel = s.panel)
    (fun _ _ hdoes hv => (hdoes.panel hc).trans hv) rfl

theorem exec_transferComplete {f : Transfer} (hflight : s.link.flight = some f) :
    exec .transferComplete s = .next (s.completeTransfer f).finish := by
  have h : exec .transferComplete s = execTransferComplete s := rfl
  rw [h, execTransferComplete, hflight]

/-- Settles O31: a transfer reaches its tile or its zone, and no other command writes to the panel. -/
theorem transferComplete : Obligations.TransferComplete := by
  refine ⟨fun s w hflight => ?_, fun s z m hflight => ?_, fun s hflight => ?_,
    fun c s t h hc => exec_panel h hc⟩
  · have hpanel : (s.completeTransfer (.tile w)).finish.panel = s.panel.write w.tile w.pixels := finish_panel _
    refine ⟨_, exec_transferComplete hflight, ?_, ?_, ?_, fun x hx => ?_⟩ <;> rw [hpanel]
    · rfl
    · exact Panel.read_write_self _ _ _
    · rfl
    · exact Panel.read_write_ne _ _ _ _ hx
  · rw [exec_transferComplete hflight]
    rfl
  · have h : exec .transferComplete s = execTransferComplete s := rfl
    rw [h, execTransferComplete, hflight]

/-! ## The arbiter -/

theorem protectionFails_iff (s : State) (w : TileWrite) : s.protectionFails w = true ↔
    heldByHole s.keepOuts w.tile = true
      ∨ (s.sampler.bendApplied = true ∧ coveredByBend s.keepOuts w.tile = true ∧ w.darkens = false)
      ∨ (s.zoneState (s.geometry.zoneOfTile w.tile)).mode = .tripped := by
  rw [State.protectionFails, Bool.or_eq_true, Bool.or_eq_true, decide_eq_true_eq, Bool.and_eq_true, Bool.and_eq_true,
    Bool.not_eq_true', or_assoc, and_assoc]
  rfl

theorem targetMap_iff (s : State) (m : Map) :
    s.targetMap = some m ↔ ∃ b, s.engine.phase = .ready b m ∧ b.kind = .target := by
  unfold State.targetMap
  cases s.engine.phase with
  | ready b x =>
    dsimp only
    split
    next hkind =>
      refine ⟨fun h => ⟨b, by rw [Option.some.inj h], hkind⟩, fun ⟨y, h, _⟩ => ?_⟩
      rw [(EnginePhase.ready.inj h).2]
    next hkind => exact ⟨nofun, fun ⟨y, h, hy⟩ => absurd ((EnginePhase.ready.inj h).1 ▸ hy) hkind⟩
  | idle => exact ⟨nofun, nofun⟩
  | building b => exact ⟨nofun, nofun⟩
  | draining x e => exact ⟨nofun, nofun⟩

theorem blankingOn_iff (s : State) :
    s.blankingOn = true ↔ s.transition.state = .blanking ∨ s.transition.state = .holding := by
  rw [State.blankingOn, Bool.or_eq_true, decide_eq_true_eq, decide_eq_true_eq]

/-- The blanking test, by the target map that it reads (R131). -/
theorem heldBack_iff (s : State) (x : Nat) : s.heldBack x = true ↔
    (s.transition.state = .blanking ∨ s.transition.state = .holding)
      ∧ ∃ b m, s.engine.phase = .ready b m ∧ b.kind = .target ∧ m.changed x = true := by
  rw [State.heldBack, Bool.and_eq_true, blankingOn_iff, Option.any_eq_true]
  refine and_congr_right fun _ => ⟨fun ⟨m, hm, hx⟩ => ?_, fun ⟨b, m, hphase, hkind, hx⟩ => ?_⟩
  · obtain ⟨b, hphase, hkind⟩ := (targetMap_iff s m).mp hm
    exact ⟨b, m, hphase, hkind, hx⟩
  · exact ⟨m, (targetMap_iff s m).mpr ⟨b, hphase, hkind⟩, hx⟩

theorem grantFails_stream {w : TileWrite} (hkind : w.kind = .stream) : s.grantFails w = s.protectionFails w := by
  rw [State.grantFails, TileWrite.blankable, hkind, Bool.false_and, Bool.or_false]

theorem grantFails_fill {w : TileWrite} {k : Key} {d : Bool} (hkind : w.kind = .fill k d) :
    s.grantFails w = true ↔ s.protectionFails w = true ∨ (k ≠ .blank ∧ s.heldBack w.tile = true) := by
  rw [State.grantFails, TileWrite.blankable, hkind, Bool.or_eq_true, Bool.and_eq_true, decide_eq_true_eq]

theorem grantStream_discards {w : TileWrite} (h : s.grantFails w = true) :
    s.grantStream w = { s with link := { s.link with streamWaiting := none } } := if_pos h

theorem grantStream_grants {w : TileWrite} (h : s.grantFails w = false) : s.grantStream w =
    ({ s with link := { s.link with
        flight := some (.tile w), streamWaiting := none,
        fillWaitCount := if s.link.fillWaiting = none then s.link.fillWaitCount
                         else s.link.fillWaitCount + 1 } }.activity .stream (s.geometry.zoneOfTile w.tile)) := by
  rw [State.grantStream, if_neg (by rw [h]; nofun)]
  cases s.link.fillWaiting <;> rfl

theorem grantFill_discards {w : TileWrite} (h : s.grantFails w = true) :
    s.grantFill w = { s with link := { s.link with fillWaiting := none }, fill := { s.fill with
      job := s.fill.job.map fun j => { j with position := j.position + 1 } } } := if_pos h

theorem grantFill_grants {w : TileWrite} (h : s.grantFails w = false) : s.grantFill w =
    ({ s with link := { s.link with flight := some (.tile w), fillWaiting := none, fillWaitCount := 0 }
              fill := { s.fill with job := s.fill.job.map fun j : Job => { j with position := j.position + 1 } } }.activity
      .fill (s.geometry.zoneOfTile w.tile)) := if_neg (by rw [h]; nofun)

theorem arbitrate_busy (h : s.link.flight ≠ none) : s.arbitrate = none := by
  obtain ⟨f, hf⟩ := Option.ne_none_iff_exists'.mp h
  rw [State.arbitrate, hf]

theorem arbitrate_message {z : Zone} {m : Message} (hfree : s.link.flight = none) (h : s.messageFirst = some (z, m)) :
    s.arbitrate = some (s.grantMessage z m) := by rw [State.arbitrate, hfree, h]

theorem arbitrate_nothing (hfree : s.link.flight = none) (h : s.messageFirst = none)
    (hstream : s.link.streamWaiting = none) (hfill : s.link.fillWaiting = none) : s.arbitrate = none := by
  rw [State.arbitrate, hfree, h, hstream, hfill]

/-- A stream write goes before a fill write until eight have been granted while one waited (R96). -/
theorem arbitrate_stream {w : TileWrite} (hfree : s.link.flight = none) (h : s.messageFirst = none)
    (hstream : s.link.streamWaiting = some w) (hturn : s.link.fillWaiting = none ∨ s.link.fillWaitCount < 8) :
    s.arbitrate = some (s.grantStream w) := by
  rw [State.arbitrate, hfree, h, hstream]
  cases hfill : s.link.fillWaiting with
  | none => rfl
  | some f => exact if_pos (hturn.resolve_left (by rw [hfill]; nofun))

theorem arbitrate_fill {w : TileWrite} (hfree : s.link.flight = none) (h : s.messageFirst = none)
    (hfill : s.link.fillWaiting = some w) (hturn : s.link.streamWaiting = none ∨ 8 ≤ s.link.fillWaitCount) :
    s.arbitrate = some (s.grantFill w) := by
  rw [State.arbitrate, hfree, h, hfill]
  cases hstream : s.link.streamWaiting with
  | none => rfl
  | some f => exact if_neg (Nat.not_lt.mpr (hturn.resolve_left (by rw [hstream]; nofun)))

/-- Settles O32, by what waits. -/
theorem arbitration : Obligations.Arbitration := by
  refine fun s => ⟨arbitrate_busy, heldBack_iff s, fun hfree => ⟨fun m hrear => ?_, fun m hrear hspine => ?_,
    fun m hrear hspine hfront => ?_, fun hrear hspine hfront => ?_⟩⟩
  · exact arbitrate_message hfree (by rw [State.messageFirst, hrear])
  · exact arbitrate_message hfree (by rw [State.messageFirst, hrear, hspine])
  · exact arbitrate_message hfree (by rw [State.messageFirst, hrear, hspine, hfront])
  · have hnone : s.messageFirst = none := by rw [State.messageFirst, hrear, hspine, hfront]
    refine ⟨arbitrate_nothing hfree hnone, fun w hkind hstream hturn => ?_, fun w k d hkind hfill hturn => ?_⟩
    · refine ⟨_, arbitrate_stream hfree hnone hstream hturn, fun hfails => ?_, fun hpasses => ?_⟩
      · exact grantStream_discards ((grantFails_stream hkind).trans ((protectionFails_iff s w).mpr hfails))
      · refine grantStream_grants ((grantFails_stream hkind).trans (Bool.eq_false_iff.mpr fun h => ?_))
        exact hpasses ((protectionFails_iff s w).mp h)
    · refine ⟨_, arbitrate_fill hfree hnone hfill hturn, fun hfails => ?_, fun hpasses => ?_⟩
      · exact grantFill_discards ((grantFails_fill hkind).mpr (hfails.imp_left (protectionFails_iff s w).mpr))
      · refine grantFill_grants (Bool.eq_false_iff.mpr fun h => ?_)
        exact hpasses (((grantFails_fill hkind).mp h).imp_left (protectionFails_iff s w).mp)

/-! ## The sets of the fill jobs -/

theorem fillColour_iff (s : State) (i : Slot) (c : Colour) :
    s.fillColour i = some c ↔ ∃ p, s.activePart i = some p ∧ p.source = .fill c := by
  rw [State.fillColour, Option.bind_eq_some_iff]
  refine exists_congr fun p => and_congr_right fun _ => ?_
  cases p.source with
  | fill d =>
    dsimp only
    rw [Option.some_inj, Source.fill.injEq]
  | stream n oc orow => exact ⟨nofun, nofun⟩

/-- The colour of a region's tiles: its FILL colour, or its fallback where its stream is Stale (R103). -/
theorem regionColour_iff (s : State) (i : Slot) (c : Colour) : s.regionColour i = some c ↔
    s.isShown i = true ∧ ((∃ p, s.activePart i = some p ∧ p.source = .fill c)
      ∨ ∃ p n oc orow d, s.activePart i = some p ∧ p.source = .stream n oc orow ∧ (s.record i).stale = true
        ∧ (s.record i).live = some d ∧ d.attributes.staleAction = .fill ∧ c = d.attributes.fallback) := by
  unfold State.regionColour
  by_cases hshown : s.isShown i = true
  · rw [if_pos hshown, Option.bind_eq_some_iff]
    constructor
    · rintro ⟨p, hp, h⟩
      refine ⟨hshown, ?_⟩
      cases hsource : p.source with
      | fill d =>
        rw [hsource] at h
        exact .inl ⟨p, hp, hsource.trans (congrArg Source.fill (Option.some.inj h))⟩
      | stream n oc orow =>
        rw [hsource] at h
        obtain ⟨d, hd, h⟩ := Option.bind_eq_some_iff.mp h
        split at h
        next hstale =>
          rw [Bool.and_eq_true, decide_eq_true_eq] at hstale
          obtain ⟨hstale, haction⟩ := hstale
          exact .inr ⟨p, n, oc, orow, d, hp, hsource, hstale, hd, haction, (Option.some.inj h).symm⟩
        next => cases h
    · rintro ⟨-, ⟨p, hp, hsource⟩ | ⟨p, n, oc, orow, d, hp, hsource, hstale, hd, haction, rfl⟩⟩
      · exact ⟨p, hp, by rw [hsource]⟩
      · refine ⟨p, hp, ?_⟩
        rw [hsource, hd, hstale]
        exact if_pos (by rw [haction]; rfl)
  · rw [if_neg hshown]
    exact ⟨nofun, fun h => absurd h.1 hshown⟩

theorem repaint_iff (s : State) (x : Nat) (c : Colour) : s.repaint x = some c ↔
    (s.engine.active.owner x = none ∧ c = s.fill.background s.activeLayout)
      ∨ ∃ i, s.engine.active.owner x = some i ∧ ∃ p, s.activePart i = some p ∧ p.source = .fill c := by
  unfold State.repaint
  cases s.engine.active.owner x with
  | none =>
    dsimp only
    rw [Option.some_inj]
    exact ⟨fun h => .inl ⟨rfl, h.symm⟩, fun h => h.elim (fun h => h.2.symm) nofun⟩
  | some i =>
    dsimp only
    rw [fillColour_iff]
    refine ⟨fun h => .inr ⟨i, rfl, h⟩, fun h => h.elim (fun h => nomatch h.1) ?_⟩
    rintro ⟨j, hj, h⟩
    exact Option.some.inj hj ▸ h

theorem ite_some_iff {α : Type} {p : Prop} [Decidable p] {o : Option α} {a : α} :
    (if p then o else none) = some a ↔ p ∧ o = some a := by
  split <;> simp [*]

/-- Settles O33, one key at a time. -/
theorem fillJobSets : Obligations.FillJobSets := by
  intro s x c
  refine ⟨fun i => ?_, ?_, ?_, ?_, fun z => ?_⟩
  · refine ite_some_iff.trans ?_
    rw [regionColour_iff]
  · refine ite_some_iff.trans (and_congr_right fun _ => ?_)
    rw [Option.some_inj]
    exact eq_comm
  · cases htarget : s.targetMap with
    | none =>
      have hnone : s.jobColour .blank x = none := by rw [State.jobColour, htarget]
      rw [hnone]
      refine ⟨nofun, fun ⟨b, m, hphase, hkind, _⟩ => ?_⟩
      rw [(targetMap_iff s m).mpr ⟨b, hphase, hkind⟩] at htarget
      cases htarget
    | some m =>
      have hsome : s.jobColour .blank x = if m.changed x then some (s.fill.background m.layout) else none := by
        rw [State.jobColour, htarget]
      rw [hsome, ite_some_iff, Option.some_inj]
      constructor
      · rintro ⟨hchanged, rfl⟩
        obtain ⟨b, hphase, hkind⟩ := (targetMap_iff s m).mp htarget
        exact ⟨b, m, hphase, hkind, hchanged, rfl⟩
      · rintro ⟨b, m', hphase, hkind, hchanged, rfl⟩
        rw [(targetMap_iff s m').mpr ⟨b, hphase, hkind⟩] at htarget
        cases htarget
        exact ⟨hchanged, rfl⟩
  · refine ite_some_iff.trans ?_
    rw [Bool.and_eq_true, Bool.not_eq_true', and_assoc]
    refine and_congr_right fun _ => and_congr_right fun _ => ?_
    cases s.sampler.bendApplied with
    | true =>
      rw [if_pos rfl, Option.some_inj]
      exact ⟨fun h => .inl ⟨rfl, h.symm⟩, fun h => h.elim (fun h => h.2.symm) nofun⟩
    | false =>
      rw [if_neg nofun, repaint_iff]
      exact ⟨fun h => .inr ⟨rfl, h⟩, fun h => h.elim nofun And.right⟩
  · refine ite_some_iff.trans ?_
    rw [repaint_iff]
    rfl

end Sys2Proof.Machine

/-! CLAIM. The end of a fill job, and with it of SETTLING (O34). -/

namespace Sys2Proof.Machine

variable {s t u : State}

/-! ## An idle Fill Writer on a link that settles -/

@[simp] theorem activity_fill (s : State) (a : Activity) (z : Zone) : (s.activity a z).fill = s.fill := by
  unfold State.activity
  split
  · rfl
  · split
    · rfl
    · rw [placeMessage_fill, updZone_fill]
    · rfl
    · rfl

theorem grantStream_fill (s : State) (w : TileWrite) : (s.grantStream w).fill = s.fill := by
  unfold State.grantStream
  split
  · rfl
  · rw [activity_fill]

theorem grantFill_fill {w : TileWrite} (hjob : s.fill.job = none) : (s.grantFill w).fill = s.fill := by
  have hadvance : ({ s.fill with job := s.fill.job.map fun j => { j with position := j.position + 1 } } : Fill) =
      s.fill := by rw [hjob, Option.map_none, ← hjob]
  unfold State.grantFill
  split
  · exact hadvance
  · rw [activity_fill]
    exact hadvance

theorem arbitrate_fill_idle (h : s.arbitrate = some t) (hjob : s.fill.job = none) : t.fill = s.fill := by
  obtain ⟨z, m, rfl⟩ | ⟨w, rfl⟩ | ⟨w, rfl⟩ := arbitrate_cases h
  · rfl
  · exact grantStream_fill s w
  · exact grantFill_fill hjob

theorem handWrite_fill (s : State) : s.handWrite.fill = s.fill := by
  unfold State.handWrite
  split <;> rfl

theorem endRun_fill (s : State) : s.endRun.fill = s.fill := by
  unfold State.endRun
  split
  · split <;> rfl
  · rfl

theorem offerAll_fill_idle (hjob : s.fill.job = none) (hqueue : s.fill.queue = []) : s.offerAll.fill = s.fill := by
  have hstart : s.startJob = s := by rw [State.startJob, hjob, hqueue]
  have hoffer : s.offerTile = s := by rw [State.offerTile, hjob]
  rw [State.offerAll, hstart, hoffer, endRun_fill, handWrite_fill]

theorem pump_fill_idle {n : Nat} (hjob : s.fill.job = none) (hqueue : s.fill.queue = []) :
    (s.pump n).fill = s.fill := by
  induction n generalizing s with
  | zero => exact offerAll_fill_idle hjob hqueue
  | succ n ih =>
    have hoffers := offerAll_fill_idle hjob hqueue
    unfold State.pump
    split
    next t h =>
      have ht : t.fill = s.fill := (arbitrate_fill_idle h (by rw [hoffers, hjob])).trans hoffers
      rw [ih (by rw [ht, hjob]) (by rw [ht, hqueue]), ht]
    next => exact hoffers

theorem abortTest_fill (s : State) : s.abortTest.fill = s.fill := by
  unfold State.abortTest
  split
  · split <;> rfl
  · rfl

/-! ## A start that is called for -/

/-- The transition of a start, before PREPARE ends (R126). -/
def Transition.begun (l : Layout) (q : Transition) : Transition :=
  { q with state := .prepare, target := some l, waitingTarget := none, commitJoined := false, holdCount := 0,
           prepareTimer := some q.prepareWindow }

theorem callStart_begins {l : Layout} (hstate : s.transition.state = .steady) (hlayout : l ≠ s.activeLayout)
    (hpin : s.transition.allows l = true) : s.callStart l = if s.transition.prepareWindow = 0 then
      ((s.updTransition (Transition.begun l)).setFlag .transitionStarted).raiseTarget
    else (s.updTransition (Transition.begun l)).setFlag .transitionStarted := if_pos ⟨hstate, hlayout, hpin⟩

theorem takeClaim_transition (s : State) : s.takeClaim.transition = s.transition := by
  obtain ⟨flags, phase, claims, slots, h⟩ := takeClaim_writes s
  rw [h]

theorem raiseTarget_transition (s : State) :
    s.raiseTarget.transition = { s.transition with state := .building, prepareTimer := none } :=
  (takeClaim_transition _).trans rfl

/-- What a start makes of the transition, with the flag that it sets (R126, R127). -/
theorem callStart_started {l : Layout} (hreset : s.inReset = false) (hstate : s.transition.state = .steady)
    (hlayout : l ≠ s.activeLayout) (hpin : s.transition.allows l = true) :
    (s.callStart l).flag .transitionStarted = true ∧ (s.callStart l).transition.target = some l
      ∧ (s.callStart l).transition.waitingTarget = none
      ∧ (s.callStart l).transition.state = if s.transition.prepareWindow = 0 then .building else .prepare := by
  have hflag : ((s.updTransition (Transition.begun l)).setFlag .transitionStarted).flag .transitionStarted = true :=
    flag_setFlag_self _ (by exact hreset)
  have htransition : ((s.updTransition (Transition.begun l)).setFlag .transitionStarted).transition =
      s.transition.begun l := by rw [setFlag_transition, updTransition_transition]
  rw [callStart_begins hstate hlayout hpin]
  by_cases hwindow : s.transition.prepareWindow = 0
  · rw [if_pos hwindow, if_pos hwindow, raiseTarget_transition, htransition]
    exact ⟨(closes_raiseTarget _).flags _ hflag, rfl, rfl, rfl⟩
  · rw [if_neg hwindow, if_neg hwindow, htransition]
    exact ⟨hflag, rfl, rfl, rfl⟩

theorem allows_iff (q : Transition) (l : Layout) : q.allows l = true ↔ q.pin = none ∨ q.pin = some l := by
  unfold Transition.allows
  cases q.pin with
  | none => exact ⟨fun _ => .inl rfl, fun _ => rfl⟩
  | some p =>
    dsimp only
    rw [decide_eq_true_eq, Option.some_inj]
    exact ⟨.inr, fun h => h.resolve_left nofun⟩

/-! ## The end of SETTLING -/

/-- The transition at the end of SETTLING (R137). -/
def Transition.settled (q : Transition) : Transition :=
  { q with state := .steady, target := none, waitingTarget := none }

theorem settleTest_waiting {l : Layout} (hstate : s.transition.state = .settling) (hidle : s.fillIdle = true)
    (hwaiting : s.transition.waitingTarget = some l) :
    s.settleTest = ((s.updTransition Transition.settled).setFlag .transitionDone).callStart l := by
  rw [State.settleTest, if_pos ⟨hstate, hidle⟩]
  dsimp only
  rw [hwaiting]
  rfl

/-- With an idle Fill Writer SETTLING ends at the end of the event (R137, R138). -/
theorem finish_settles (hreset : s.inReset = false) (hstate : s.transition.state = .settling)
    (hjob : s.fill.job = none) (hqueue : s.fill.queue = []) :
    s.finish.flag .transitionDone = true
      ∧ (s.transition.waitingTarget = none → s.finish.transition = s.transition.settled)
      ∧ ∀ l, s.transition.waitingTarget = some l → l ≠ s.engine.active.layout → s.transition.allows l = true →
        s.finish.flag .transitionStarted = true ∧ s.finish.transition.target = some l
        ∧ s.finish.transition.waitingTarget = none
        ∧ s.finish.transition.state = if s.transition.prepareWindow = 0 then .building else .prepare := by
  obtain ⟨p, hp⟩ : ∃ p, s.abortTest.pump (s.router.handing.length + 4) = p := ⟨_, rfl⟩
  have hpumps : Pumps s p := hp ▸ (pumps_abortTest s).trans (pumps_pump _ _)
  have hfill : p.fill = s.fill := by
    rw [← hp, pump_fill_idle (by rw [abortTest_fill, hjob]) (by rw [abortTest_fill, hqueue]), abortTest_fill]
  have hidle : p.fillIdle = true := by rw [State.fillIdle, hfill, hjob, hqueue]; rfl
  have htransition : p.transition = s.transition := congrArg Placing.transition hpumps.placing
  have hactive : p.activeLayout = s.engine.active.layout := congrArg (·.engine.active.layout) hpumps.placing
  have hcalm : p.inReset = false := hpumps.ends.inReset.trans hreset
  have hsettling : p.transition.state = .settling := by rw [htransition, hstate]
  have hlink : s.settleLink = p.settleTest := congrArg State.settleTest hp
  have hends : Ends p.settleTest s.finish := by
    rw [← hlink]
    exact ends_takePackets _ _
  have hdone : ((p.updTransition Transition.settled).setFlag .transitionDone).flag .transitionDone = true :=
    flag_setFlag_self _ (by exact hcalm)
  have hsettled : ((p.updTransition Transition.settled).setFlag .transitionDone).transition = s.transition.settled := by
    rw [setFlag_transition, updTransition_transition, htransition]
  refine ⟨hends.flags _ ?_, fun hwaiting => ?_, fun l hwaiting hlayout hpin => ?_⟩
  · rw [← htransition] at hstate
    cases hwaiting : p.transition.waitingTarget with
    | none =>
      rw [settleTest_done hstate hidle hwaiting]
      exact hdone
    | some l =>
      rw [settleTest_waiting hstate hidle hwaiting]
      exact (closes_callStart _ _).flags _ hdone
  · rw [← htransition] at hwaiting
    have htest : p.settleTest.transition = s.transition.settled := by
      rw [settleTest_done hsettling hidle hwaiting]
      exact hsettled
    exact (hends.transition (.inl (by rw [htest]; nofun))).trans htest
  · rw [← htransition] at hwaiting
    have hstart := callStart_started (s := (p.updTransition Transition.settled).setFlag .transitionDone) (l := l)
      (by rw [setFlag_inReset]; exact hcalm) (by rw [hsettled]; rfl)
      (by rw [State.activeLayout, setFlag_engine]; exact fun h => hlayout (h.trans hactive)) (by rw [hsettled]; exact hpin)
    rw [hsettled, ← settleTest_waiting hsettling hidle hwaiting] at hstart
    obtain ⟨hflag, htarget, hnone, hstate'⟩ := hstart
    have hfinish : s.finish.transition = p.settleTest.transition := by
      refine hends.transition (.inl ?_)
      rw [hstate']
      split <;> nofun
    rw [hfinish]
    exact ⟨hends.flags _ hflag, htarget, hnone, hstate'⟩

/-! ## FILL_JOB_COMPLETE -/

theorem exec_fillJobComplete {j : Job} (hjob : s.fill.job = some j) (hpast : 14336 ≤ j.position)
    (hwaiting : s.link.fillWaiting = none) : exec .fillJobComplete s = .next (s.completeJob j).finish := by
  have hends : s.jobEnds j = true := by
    rw [State.jobEnds, hwaiting]
    exact (Bool.and_true _).trans (decide_eq_true hpast)
  have h : exec .fillJobComplete s = execFillJobComplete s := rfl
  rw [h, execFillJobComplete, hjob]
  exact if_pos hends

theorem exec_fillJobComplete_else (h : ∀ j : Job, s.fill.job = some j → j.position < 14336 ∨ s.link.fillWaiting ≠ none) :
    exec .fillJobComplete s = .next s := by
  have hexec : exec .fillJobComplete s = execFillJobComplete s := rfl
  rw [hexec, execFillJobComplete]
  cases hjob : s.fill.job with
  | none => rfl
  | some j =>
    refine if_neg ?_
    rw [State.jobEnds, Bool.and_eq_true, decide_eq_true_eq, Option.isNone_iff_eq_none]
    rintro ⟨hpast, hwaiting⟩
    exact (h j hjob).elim (Nat.not_lt.mpr hpast) (absurd hwaiting)

/-- The end of the BLANK job in BLANKING brings HOLDING (R132). -/
theorem completeJob_eq (s : State) (j : Job) : s.completeJob j = { s with
    fill := { s.fill with job := none }
    transition := if j.key = .blank ∧ s.transition.state = .blanking then
        { s.transition with state := .holding, holdCount := 0 }
      else s.transition } := by
  unfold State.completeJob State.reportJob
  dsimp only
  split <;> rfl

/-- Settles O34: a job ends past the last tile, and with the last job SETTLING ends. -/
theorem fillJobComplete : Obligations.FillJobComplete := by
  refine fun s => ⟨fun j hjob hpast hwaiting => ?_, exec_fillJobComplete_else,
    fun j hreset hjob hpast hwaiting hqueue hstate => ⟨_, exec_fillJobComplete hjob hpast hwaiting, ?_⟩⟩
  · rw [exec_fillJobComplete hjob hpast hwaiting, completeJob_eq]
  · have hcomplete : s.completeJob j = { s with fill := { s.fill with job := none } } := by
      rw [completeJob_eq, if_neg (by rw [hstate]; nofun)]
    rw [hcomplete]
    obtain ⟨hdone, hsteady, hnext⟩ := finish_settles (s := { s with fill := { s.fill with job := none } })
      hreset hstate rfl hqueue
    exact ⟨hdone, hsteady, fun l hl hlayout hpin => hnext l hl hlayout ((allows_iff _ l).mpr hpin)⟩

end Sys2Proof.Machine

/-! CLAIM. The settings of the streams, the fill, the scan, the transition and the sampler, and the measurements (O35,
O36). -/

namespace Sys2Proof.Machine

variable {s t u : State}

/-! ## One byte, and a layout with a colour -/

theorem oneByte_iff {lo hi n : Nat} {ps : List Byte} :
    oneByte lo hi ps = some n ↔ ∃ b : Byte, ps = [b] ∧ b.toNat = n ∧ lo ≤ n ∧ n ≤ hi := by
  unfold oneByte
  split
  next b =>
    rw [inRange_iff]
    refine ⟨fun h => ⟨b, rfl, h⟩, fun ⟨c, hc, h⟩ => ?_⟩
    rw [List.cons.injEq] at hc
    obtain ⟨rfl, -⟩ := hc
    exact h
  next hps => exact ⟨nofun, fun ⟨b, hb, _⟩ => absurd hb (hps b)⟩

theorem oneByte_byte {lo hi : Nat} {b : Byte} (h : lo ≤ b.toNat ∧ b.toNat ≤ hi) : oneByte lo hi [b] = some b.toNat :=
  oneByte_iff.mpr ⟨b, rfl, rfl, h⟩

theorem oneByte_none {lo hi : Nat} {ps : List Byte} (h : ∀ b : Byte, ps = [b] → ¬ (lo ≤ b.toNat ∧ b.toNat ≤ hi)) :
    oneByte lo hi ps = none := by
  refine Option.eq_none_iff_forall_ne_some.mpr fun n hn => ?_
  obtain ⟨b, hb, rfl, hrange⟩ := oneByte_iff.mp hn
  exact h b hb hrange

theorem backgroundParams_iff {ps : List Byte} {layout : Layout} {c : Colour} : backgroundParams ps = some (layout, c) ↔
    ∃ r g b : Byte, ps = [layoutByte layout, r, g, b] ∧ c = r ++ g ++ b := by
  unfold backgroundParams
  split
  next x r g b =>
    rw [Option.map_eq_some_iff]
    constructor
    · rintro ⟨l, hl, h⟩
      cases h
      exact ⟨r, g, b, by rw [layoutField_iff.mp hl], rfl⟩
    · rintro ⟨r', g', b', h, rfl⟩
      rw [List.cons.injEq, List.cons.injEq, List.cons.injEq, List.cons.injEq] at h
      obtain ⟨rfl, rfl, rfl, rfl, -⟩ := h
      exact ⟨layout, layoutField_iff.mpr rfl, rfl⟩
  next h =>
    refine ⟨nofun, ?_⟩
    rintro ⟨r, g, b, rfl, -⟩
    exact absurd rfl (h _ r g b)

/-! ## The decisions -/

theorem streamSet_good {ps : List Byte} {n : Nat} (h : oneByte 1 255 ps = some n) (s : State) :
    streamSet ps s = answered { s with router := { s.router with frameTimeout := n } } := by rw [streamSet, h]

theorem streamSet_bad {ps : List Byte} (h : oneByte 1 255 ps = none) (s : State) :
    streamSet ps s = refused .badParam s := by rw [streamSet, h]

theorem scanSet_good {ps : List Byte} {n : Nat} (h : oneByte 10 100 ps = some n) (s : State) :
    scanSet ps s = answered { s with link := { s.link with interval := n } } := by rw [scanSet, h]

theorem scanSet_bad {ps : List Byte} (h : oneByte 10 100 ps = none) (s : State) :
    scanSet ps s = refused .badParam s := by rw [scanSet, h]

theorem backgroundSet_good {ps : List Byte} {layout : Layout} {c : Colour}
    (h : backgroundParams ps = some (layout, c)) (s : State) : backgroundSet ps s =
      if s.fill.background layout = c then answered s
      else if layout = s.activeLayout then taken (State.queueJob .background { s with fill := s.fill.setBackground layout c })
      else answered { s with fill := s.fill.setBackground layout c } := by rw [backgroundSet, h]

theorem backgroundSet_bad {ps : List Byte} (h : backgroundParams ps = none) (s : State) :
    backgroundSet ps s = refused .badParam s := by rw [backgroundSet, h]

theorem transitionSet_good {ps : List Byte} {window hold : Option Nat}
    (h : transitionSetParams ps = some (window, hold)) (s : State) : transitionSet ps s =
      if s.transition.state = .steady then
        answered (s.updTransition fun q =>
          { q with prepareWindow := window.getD q.prepareWindow, blankHold := hold.getD q.blankHold })
      else refused .busy s := by rw [transitionSet, h]

theorem transitionSet_bad {ps : List Byte} (h : transitionSetParams ps = none) (s : State) :
    transitionSet ps s = refused .badParam s := by rw [transitionSet, h]

theorem postureSet_good {ps : List Byte} {e : PostureEdit} (h : postureSetParams ps = some e) (s : State) :
    postureSet ps s = if (e.apply s.sampler).foldLimit < (e.apply s.sampler).openLimit then answered (s.updSampler e.apply)
      else refused .badParam s := by rw [postureSet, h]

theorem postureSet_bad {ps : List Byte} (h : postureSetParams ps = none) (s : State) :
    postureSet ps s = refused .badParam s := by rw [postureSet, h]

/-! ## What POSTURE SET leaves in the sampler -/

/-- The sampler with the settings given, before the debounce run is cleared (R120). -/
def PostureEdit.written (e : PostureEdit) (p : Sampler) : Sampler :=
  { p with
    sampleInterval := e.sampleInterval.getD p.sampleInterval
    foldLimit := e.foldLimit.getD p.foldLimit, openLimit := e.openLimit.getD p.openLimit
    debounce := e.debounce.getD p.debounce, reportMode := e.reportMode.getD p.reportMode }

/-- The settings that an edit leaves the same keep the debounce run (R120). -/
def PostureEdit.Same (e : PostureEdit) (p : Sampler) : Prop :=
  (e.written p).foldLimit = p.foldLimit ∧ (e.written p).openLimit = p.openLimit ∧ (e.written p).debounce = p.debounce

theorem apply_same {e : PostureEdit} {p : Sampler} (h : e.Same p) : e.apply p = e.written p := if_pos h

theorem apply_changed {e : PostureEdit} {p : Sampler} (h : ¬ e.Same p) :
    e.apply p = { e.written p with runClass := none, runLength := 0 } := if_neg h

theorem apply_limits (e : PostureEdit) (p : Sampler) :
    (e.apply p).foldLimit = (e.written p).foldLimit ∧ (e.apply p).openLimit = (e.written p).openLimit := by
  by_cases h : e.Same p
  · rw [apply_same h]
    exact ⟨rfl, rfl⟩
  · rw [apply_changed h]
    exact ⟨rfl, rfl⟩

theorem postureSet_disordered {ps : List Byte} {e : PostureEdit} (h : postureSetParams ps = some e)
    (hlimits : (e.written s.sampler).openLimit ≤ (e.written s.sampler).foldLimit) :
    postureSet ps s = refused .badParam s := by
  obtain ⟨hfold, hopen⟩ := apply_limits e s.sampler
  rw [postureSet_good h, if_neg (by rw [hfold, hopen]; exact Nat.not_lt.mpr hlimits)]

theorem postureSet_ordered {ps : List Byte} {e : PostureEdit} (h : postureSetParams ps = some e)
    (hlimits : (e.written s.sampler).foldLimit < (e.written s.sampler).openLimit) :
    postureSet ps s = answered (s.updSampler e.apply) := by
  obtain ⟨hfold, hopen⟩ := apply_limits e s.sampler
  rw [postureSet_good h, if_pos (by rw [hfold, hopen]; exact hlimits)]

theorem updSampler_eq {f : Sampler → Sampler} {q : Sampler} (h : f s.sampler = q) :
    s.updSampler f = { s with sampler := q } := by rw [← h]; rfl

/-- Settles O35, one setting at a time. -/
theorem settings : Obligations.Settings := by
  refine ⟨fun s => ⟨fun n hheld hn => ?_, fun ps hheld hbad => ?_, fun n hheld hlo hhi => ?_, fun ps hheld hbad => ?_,
    fun layout r g b hheld => ?_, fun ps hheld hbad => ?_, fun window hold hrange hheld => ?_, fun ps hheld hbad => ?_⟩,
    fun s => ⟨fun e hrange hheld => ?_, fun ps hheld hbad => ?_⟩⟩
  · exact decided_answered hheld (streamSet_good (oneByte_byte ⟨hn, Nat.le_of_lt_succ n.isLt⟩) s)
  · refine decided_refused hheld (streamSet_bad (oneByte_none fun b hb hrange => ?_) s)
    rw [hbad b hb] at hrange
    exact absurd hrange.1 (by decide)
  · exact decided_answered hheld (scanSet_good (oneByte_byte ⟨hlo, hhi⟩) s)
  · exact decided_refused hheld (scanSet_bad (oneByte_none fun b hb => by have := hbad b hb; omega) s)
  · have hgood := backgroundSet_good (backgroundParams_iff.mpr ⟨r, g, b, rfl, rfl⟩ :
      backgroundParams [layoutByte layout, r, g, b] = some (layout, r ++ g ++ b)) s
    refine ⟨fun hsame => decided_answered hheld (hgood.trans (if_pos ?_)), fun hnew hactive => ?_, fun hnew hother => ?_⟩
    · cases layout <;> exact hsame
    · have hbackground : ¬ s.fill.background layout = r ++ g ++ b := by cases layout <;> exact hnew
      refine (decided_taken hheld (hgood.trans ((if_neg hbackground).trans (if_pos hactive)))).trans ?_
      cases layout <;> rfl
    · have hbackground : ¬ s.fill.background layout = r ++ g ++ b := by cases layout <;> exact hnew
      refine (decided_answered hheld (hgood.trans ((if_neg hbackground).trans (if_neg hother)))).trans ?_
      cases layout <;> rfl
  · refine decided_refused hheld (backgroundSet_bad (Option.eq_none_iff_forall_ne_some.mpr ?_) s)
    rintro ⟨layout, c⟩ hsome
    obtain ⟨r, g, b, hps, -⟩ := backgroundParams_iff.mp hsome
    exact hbad layout r g b hps
  · have hgood := transitionSet_good (transitionSetParams_iff.mpr ⟨hrange, rfl⟩) s
    exact ⟨fun hsteady => decided_answered hheld (hgood.trans (if_pos hsteady)),
      fun hbusy => decided_refused hheld (hgood.trans (if_neg hbusy))⟩
  · refine decided_refused hheld (transitionSet_bad (Option.eq_none_iff_forall_ne_some.mpr ?_) s)
    rintro ⟨window, hold⟩ hsome
    obtain ⟨hrange, hps⟩ := transitionSetParams_iff.mp hsome
    exact hbad window hold hrange hps
  · have hparams : postureSetParams e.bytes = some e := postureSetParams_iff.mpr ⟨hrange, rfl⟩
    refine ⟨fun hlimits => ?_, fun hlimits hsame => ?_, fun hlimits hchanged => ?_⟩
    · exact decided_refused hheld (postureSet_disordered hparams hlimits)
    · exact (decided_answered hheld (postureSet_ordered hparams hlimits)).trans
        (congrArg (fun v : State => Host.Outcome.next (v.responds 0x50 .ok .empty)) (updSampler_eq (apply_same hsame)))
    · exact (decided_answered hheld (postureSet_ordered hparams hlimits)).trans
        (congrArg (fun v : State => Host.Outcome.next (v.responds 0x50 .ok .empty)) (updSampler_eq (apply_changed hchanged)))
  · refine decided_refused hheld (postureSet_bad (Option.eq_none_iff_forall_ne_some.mpr fun e hsome => ?_) s)
    obtain ⟨hrange, hps⟩ := postureSetParams_iff.mp hsome
    exact hbad e hrange hps

/-! ## Measurements -/

theorem measure_silent {edges : List Nat} (h : ∀ e ∈ edges, 4095 ≤ e) : measure edges = (0, .noSignal) := by
  cases edges with
  | nil => rfl
  | cons e rest => exact if_pos (h e (List.mem_cons_self ..))

/-- The first rising edge in time and the fifth give the Sample (R111). -/
theorem measure_first {e : Nat} (rest : List Nat) (h : e < 4095) : measure (e :: rest) =
    match rest[3]? with
    | some f => if e < f ∧ f - e < 4095 then (f - e, .valid) else (4095, .saturated)
    | none => (4095, .saturated) := if_neg (Nat.not_le.mpr h)

theorem measure_valid {e a b c f : Nat} {more : List Nat} (h : e < 4095) (hrising : e < f) (hin : f - e < 4095) :
    measure (e :: a :: b :: c :: f :: more) = (f - e, .valid) := (measure_first _ h).trans (if_pos ⟨hrising, hin⟩)

theorem measure_saturated {e : Nat} {rest : List Nat} (h : e < 4095)
    (hout : ∀ a b c f more, rest = a :: b :: c :: f :: more → 4095 ≤ f - e) :
    measure (e :: rest) = (4095, .saturated) := by
  rw [measure_first rest h]
  match rest, hout with
  | [], _ => rfl
  | [_], _ => rfl
  | [_, _], _ => rfl
  | [_, _, _], _ => rfl
  | a :: b :: c :: f :: more, hout =>
    exact if_neg fun hin => Nat.not_le.mpr hin.2 (hout a b c f more rfl)

theorem exec_measurementComplete {edges : List Nat} (hphase : s.sampler.phase = .measuring) :
    exec (.measurementComplete edges) s = .next (s.takeSample (measure edges).1 (measure edges).2).finish := by
  have h : exec (.measurementComplete edges) s = execMeasurementComplete edges s := rfl
  rw [h, execMeasurementComplete, hphase]

theorem exec_measurementComplete_else {edges : List Nat} (hphase : s.sampler.phase ≠ .measuring) :
    exec (.measurementComplete edges) s = .next s := by
  have h : exec (.measurementComplete edges) s = execMeasurementComplete edges s := rfl
  rw [h, execMeasurementComplete]
  cases hp : s.sampler.phase with
  | measuring => exact absurd hp hphase
  | waiting n => rfl
  | still => rfl

theorem exec_intervalTimerExpiry {n : Nat} (hphase : s.sampler.phase = .waiting n) :
    exec .intervalTimerExpiry s = .next { s with sampler := { s.sampler with phase := .measuring } } := by
  have h : exec .intervalTimerExpiry s = execIntervalTimerExpiry s := rfl
  rw [h, execIntervalTimerExpiry, hphase]
  rfl

theorem exec_intervalTimerExpiry_else (hphase : ∀ n, s.sampler.phase ≠ .waiting n) :
    exec .intervalTimerExpiry s = .next s := by
  have h : exec .intervalTimerExpiry s = execIntervalTimerExpiry s := rfl
  rw [h, execIntervalTimerExpiry]
  cases hp : s.sampler.phase with
  | measuring => rfl
  | waiting n => exact absurd hp (hphase n)
  | still => rfl

/-- Settles O36, by the rising edges. -/
theorem measurements : Obligations.Measurements := by
  refine fun s => ⟨fun n => exec_intervalTimerExpiry, exec_intervalTimerExpiry_else, fun edges hrising =>
    ⟨exec_measurementComplete_else, fun hphase => ⟨_, exec_measurementComplete hphase, ?_⟩⟩⟩
  have hsampled := exec_measurementComplete_unjudged hphase (exec_measurementComplete (edges := edges) hphase)
  have hgives {d : Nat} {status : SampleStatus} (h : measure edges = (d, status)) :
      (s.takeSample (measure edges).1 (measure edges).2).finish.sampler.lastSample = d
        ∧ (s.takeSample (measure edges).1 (measure edges).2).finish.sampler.status = status :=
    ⟨(congrArg Unjudged.lastSample hsampled).trans (congrArg Prod.fst h),
      (congrArg Unjudged.status hsampled).trans (congrArg Prod.snd h)⟩
  refine ⟨congrArg Unjudged.phase hsampled, fun hsilent => hgives (measure_silent hsilent), fun e rest hedges he =>
    ⟨fun a b c f more hrest hin => ?_, fun hout => hgives (hedges ▸ measure_saturated he hout)⟩⟩
  subst hedges hrest
  have hlt : e < f := List.rel_of_pairwise_cons (Laws.Shape.pairwise_of_rising _ hrising) (by simp)
  obtain ⟨hsample, hstatus⟩ := hgives (measure_valid he hlt hin)
  exact ⟨hsample, hstatus, Nat.sub_pos_of_lt hlt⟩

end Sys2Proof.Machine

/-! CLAIM. What a Sample does: the debounce run, the posture with BEND Applied, the flag and the request, and the loss of
the sensor (O38). -/

namespace Sys2Proof.Machine

variable {s t u : State}

/-! ## BEND Applied -/

/-- The sampler with BEND Applied as the posture has it (R117). -/
def Sampler.bent (p : Sampler) : Sampler := { p with bendApplied := p.posture.bends }

theorem Sampler.bent_same {p : Sampler} (h : p.bendApplied = p.posture.bends) : p.bent = p := by
  rw [Sampler.bent, ← h]

/-- Outside the resets the BEND job is queued where BEND Applied changes (R117). -/
theorem followBend_out (hreset : s.inReset = false) : s.followBend =
    if s.sampler.bendApplied = s.sampler.posture.bends then { s with sampler := s.sampler.bent }
    else State.queueJob .bend { s with sampler := s.sampler.bent } := by
  unfold State.followBend
  by_cases hsame : s.sampler.bendApplied = s.sampler.posture.bends
  · rw [if_pos hsame, if_pos hsame, Sampler.bent_same hsame]
  · rw [if_neg hsame, if_neg hsame]
    exact if_neg (by change ¬ s.inReset = true; rw [hreset]; nofun)

/-- While a reset input is asserted a BEND job called for is deferred (R123). -/
theorem followBend_in (hreset : s.inReset = true) : s.followBend = { s with sampler := { s.sampler.bent with
    bendDeferred := s.sampler.bendDeferred || decide (s.sampler.bendApplied ≠ s.sampler.posture.bends) } } := by
  unfold State.followBend
  by_cases hsame : s.sampler.bendApplied = s.sampler.posture.bends
  · rw [if_pos hsame, Sampler.bent_same hsame, decide_eq_false (not_not.mpr hsame), Bool.or_false]
  · rw [if_neg hsame, decide_eq_true hsame, Bool.or_true]
    exact if_pos hreset

/-! ## A change of the posture -/

/-- The direction of a change, whatever it is where there is none (R115). -/
def turnDirection (p : Posture) (c : HingeClass) : Direction :=
  match p, c with
  | .unknown, _ => .resumed
  | .folded, _ => .opening
  | .partly, .unfolded => .opening
  | .partly, _ => .closing
  | .unfolded, _ => .closing

/-- A Report Mode that names one direction does not allow the other (R116). -/
def turnAdmitted (d : Direction) (m : ReportMode) : Bool :=
  match d, m with
  | .opening, .closing => false
  | .closing, .opening => false
  | _, _ => true

theorem changeDirection_eq {p : Posture} {c : HingeClass} (h : c.posture ≠ p) :
    changeDirection p c = turnDirection p c := by
  cases p with
  | unknown => rfl
  | folded =>
    cases c with
    | folded => exact absurd rfl h
    | partly => rfl
    | unfolded => rfl
  | partly =>
    cases c with
    | folded => rfl
    | partly => exact absurd rfl h
    | unfolded => rfl
  | unfolded =>
    cases c with
    | folded => rfl
    | partly => rfl
    | unfolded => exact absurd rfl h

theorem admits_eq {m : ReportMode} {d : Direction} (h : d ≠ .none) : m.admits d = turnAdmitted d m := by
  cases d with
  | none => exact absurd rfl h
  | opening => cases m <;> rfl
  | closing => cases m <;> rfl
  | resumed => cases m <;> rfl

theorem turnDirection_ne_none (p : Posture) (c : HingeClass) : turnDirection p c ≠ .none := by
  cases p with
  | partly => cases c <;> nofun
  | _ => nofun

/-- The sampler after a change of the posture (R113, R115, R117). -/
def Sampler.turned (p : Sampler) (c : HingeClass) (d : Direction) : Sampler :=
  { p with posture := c.posture, lastDirection := d, runClass := none, runLength := 0, bendApplied := c.posture.bends }

/-- The state after a change of the posture in a direction, before the request (R115 to R117). -/
def State.turned (s : State) (c : HingeClass) (d : Direction) : State :=
  if s.sampler.bendApplied = c.posture.bends then { s with sampler := s.sampler.turned c d }
  else State.queueJob .bend { s with sampler := s.sampler.turned c d }

theorem turned_inReset (s : State) (c : HingeClass) (d : Direction) : (s.turned c d).inReset = s.inReset := by
  unfold State.turned
  split
  · rfl
  · rw [State.inReset, queueJob_pins]
    rfl

/-- POSTURE_CHANGED, where the Report Mode admits the change (R116). -/
def State.told (s : State) (admitted : Bool) : State :=
  if admitted = true then { s with port := { s.port with
    flags := s.port.flags ||| EventFlag.postureChanged.bit } } else s

theorem told_inReset (s : State) (admitted : Bool) : (s.told admitted).inReset = s.inReset := by
  unfold State.told
  split <;> rfl

theorem changePosture_out {c : HingeClass} {d : Direction} {admitted : Bool} (hreset : s.inReset = false)
    (hd : changeDirection s.sampler.posture c = d) (hadmitted : s.sampler.reportMode.admits d = admitted) :
    s.changePosture c = State.raiseRequest c.posture ((s.turned c d).told admitted) := by
  subst hd hadmitted
  have hbend : (s.updSampler fun p => { p with
      posture := c.posture, lastDirection := changeDirection s.sampler.posture c, runClass := none, runLength := 0 }).followBend =
      s.turned c (changeDirection s.sampler.posture c) := followBend_out hreset
  unfold State.changePosture State.told
  dsimp only
  rw [hbend]
  rw [setFlag_eq _ _ ((turned_inReset s c _).trans hreset)]

theorem setFlag_in (f : EventFlag) (hreset : s.inReset = true) : s.setFlag f = s := setFlag_of_inReset s f hreset

theorem raiseRequest_in (p : Posture) (hreset : s.inReset = true) : s.raiseRequest p = s := if_pos hreset

/-- Outside the resets a posture raises its Implied Layout, if it has one (R118). -/
theorem raiseRequest_out (hreset : s.inReset = false) : s.raiseRequest .folded = s.layoutRequest .folded
    ∧ s.raiseRequest .unfolded = s.layoutRequest .unfolded ∧ s.raiseRequest .partly = s := by
  have hout : ¬ s.inReset = true := by rw [hreset]; nofun
  exact ⟨if_neg hout, if_neg hout, if_neg hout⟩

theorem changePosture_in {c : HingeClass} {d : Direction} (hreset : s.inReset = true)
    (hd : changeDirection s.sampler.posture c = d) : s.changePosture c = { s with
    sampler := { s.sampler.turned c d with
      bendDeferred := s.sampler.bendDeferred || decide (s.sampler.bendApplied ≠ c.posture.bends) } } := by
  subst hd
  have hbend : (s.updSampler fun p => { p with
      posture := c.posture, lastDirection := changeDirection s.sampler.posture c, runClass := none, runLength := 0 }).followBend =
      { s with sampler := { s.sampler.turned c (changeDirection s.sampler.posture c) with
        bendDeferred := s.sampler.bendDeferred || decide (s.sampler.bendApplied ≠ c.posture.bends) } } :=
    followBend_in hreset
  unfold State.changePosture
  dsimp only
  rw [hbend]
  rw [setFlag_in _ (by exact hreset), ite_self]
  exact raiseRequest_in _ hreset

/-! ## A Sample judged -/

theorem judgeValid_same {c : HingeClass} (h : c.posture = s.sampler.posture) : s.judgeValid c =
    { s with sampler := { s.sampler with invalidRun := 0, runClass := none, runLength := 0 } } := if_pos h

theorem judgeValid_runs {c : HingeClass} (h : c.posture ≠ s.sampler.posture)
    (hrun : s.sampler.nextRun c < s.sampler.debounce) : s.judgeValid c =
    { s with sampler := { s.sampler with invalidRun := 0, runClass := some c, runLength := s.sampler.nextRun c } } :=
  (if_neg h).trans (if_neg (Nat.not_le.mpr hrun))

/-- A valid Sample ends the run of invalid ones (R114). -/
def State.heard (s : State) : State := { s with sampler := { s.sampler with invalidRun := 0 } }

theorem judgeValid_changes {c : HingeClass} (h : c.posture ≠ s.sampler.posture)
    (hrun : s.sampler.debounce ≤ s.sampler.nextRun c) : s.judgeValid c =
    s.heard.changePosture c := (if_neg h).trans (if_pos hrun)

theorem judgeInvalid_counts (h : s.sampler.invalidRun ≠ 7) : s.judgeInvalid = { s with sampler := { s.sampler with
    runClass := none, runLength := 0,
    invalidRun := if s.sampler.invalidRun < 8 then s.sampler.invalidRun + 1 else 8 } } := if_neg h

theorem judgeInvalid_loses (h : s.sampler.invalidRun = 7) : s.judgeInvalid = State.loseSensor { s with
    sampler := { s.sampler with
      runClass := none, runLength := 0, invalidRun := if s.sampler.invalidRun < 8 then s.sampler.invalidRun + 1 else 8 } } := if_pos h

theorem loseSensor_out (hreset : s.inReset = false) : s.loseSensor =
    if s.sampler.bendApplied = true then { s with
      sampler := { s.sampler with posture := .unknown, bendApplied := true }
      port := { s.port with flags := s.port.flags ||| EventFlag.sensorLost.bit } }
    else State.queueJob .bend { s with
      sampler := { s.sampler with posture := .unknown, bendApplied := true }
      port := { s.port with flags := s.port.flags ||| EventFlag.sensorLost.bit } } := by
  have hbend : (s.updSampler fun p => { p with posture := .unknown }).followBend =
      if s.sampler.bendApplied = true then { s with sampler := { s.sampler with posture := .unknown, bendApplied := true } }
      else State.queueJob .bend { s with sampler := { s.sampler with posture := .unknown, bendApplied := true } } :=
    followBend_out hreset
  rw [State.loseSensor, hbend]
  split
  · exact setFlag_eq _ _ hreset
  · refine (setFlag_eq _ _ (by rw [State.inReset, queueJob_pins]; exact hreset)).trans ?_
    rw [queueJob_eq, queueJob_eq]

theorem loseSensor_in (hreset : s.inReset = true) : s.loseSensor = { s with sampler := { s.sampler with
    posture := .unknown, bendApplied := true,
    bendDeferred := s.sampler.bendDeferred || !s.sampler.bendApplied } } := by
  have hbend : (s.updSampler fun p => { p with posture := .unknown }).followBend = { s with sampler := { s.sampler with
      posture := .unknown, bendApplied := true,
      bendDeferred := s.sampler.bendDeferred || decide (s.sampler.bendApplied ≠ true) } } := followBend_in hreset
  have hnot : decide (s.sampler.bendApplied ≠ true) = !s.sampler.bendApplied := by cases s.sampler.bendApplied <;> rfl
  rw [State.loseSensor, hbend, hnot]
  exact setFlag_in _ hreset

/-- A Sample recorded, with the sampler waiting again (R110, R111, R112). -/
def State.recorded (s : State) (d : Nat) (status : SampleStatus) (c : Option HingeClass) : State :=
  { s with sampler := { s.sampler with
    phase := .waiting s.sampler.sampleInterval, lastSample := d, status := status, lastClass := c } }

theorem takeSample_valid (s : State) (d : Nat) : s.takeSample d .valid =
    (s.recorded d .valid (some (s.sampler.classify d))).judgeValid (s.sampler.classify d) := rfl

theorem takeSample_invalid (s : State) (d : Nat) {status : SampleStatus} (h : status ≠ .valid) :
    s.takeSample d status = (s.recorded d status none).judgeInvalid := by
  cases status with
  | valid => exact absurd rfl h
  | _ => rfl

/-! ## MEASUREMENT_COMPLETE -/

theorem exec_sample {edges : List Nat} {d : Nat} {status : SampleStatus} (hphase : s.sampler.phase = .measuring)
    (hmeasure : measure edges = (d, status)) (htake : s.takeSample d status = t) :
    exec (.measurementComplete edges) s = .next t.finish := by
  rw [exec_measurementComplete hphase, hmeasure, htake]

/-- Settles O38, by the status of the Sample and by what the debounce run makes of its class. -/
theorem postureSettles : Obligations.PostureSettles := by
  refine fun s edges hphase => ⟨fun d cls target hmeasure hcls htarget => ?_, fun d status hmeasure hstatus => ?_⟩
  · have hclass : s.sampler.classify d = cls := hcls.symm
    have htarget : cls.posture = target := by
      rw [htarget]
      cases cls <;> rfl
    subst htarget
    have hsample := takeSample_valid s d
    rw [hclass] at hsample
    refine ⟨fun hsame => ?_, fun hnew hrun => ?_, fun hnew hrun => ⟨fun hreset => ?_, fun hreset => ?_⟩⟩
    · exact exec_sample hphase hmeasure (hsample.trans (judgeValid_same (s := s.recorded d .valid (some cls)) hsame))
    · exact exec_sample hphase hmeasure (hsample.trans (judgeValid_runs (s := s.recorded d .valid (some cls)) hnew hrun))
    · refine exec_sample hphase hmeasure (hsample.trans ((judgeValid_changes (s := s.recorded d .valid (some cls)) hnew hrun).trans ?_))
      refine (changePosture_out (s := (s.recorded d .valid (some cls)).heard) hreset (changeDirection_eq hnew)
        (admits_eq (turnDirection_ne_none _ _))).trans ?_
      obtain ⟨hfolded, hunfolded, hpartly⟩ := raiseRequest_out ((told_inReset
        ((s.recorded d .valid (some cls)).heard.turned cls (turnDirection s.sampler.posture cls)) (turnAdmitted
          (turnDirection s.sampler.posture cls) s.sampler.reportMode)).trans ((turned_inReset _ _ _).trans hreset))
      cases cls with
      | folded => exact hfolded
      | partly => exact hpartly
      | unfolded => exact hunfolded
    · refine exec_sample hphase hmeasure (hsample.trans ((judgeValid_changes (s := s.recorded d .valid (some cls)) hnew hrun).trans ?_))
      refine (changePosture_in (s := (s.recorded d .valid (some cls)).heard) hreset (changeDirection_eq hnew)).trans ?_
      cases cls <;> rfl
  · have hsample := takeSample_invalid s d hstatus
    refine ⟨fun hcount => ?_, fun hcount => ⟨fun hreset => ?_, fun hreset => ?_⟩⟩
    · exact exec_sample hphase hmeasure (hsample.trans (judgeInvalid_counts (s := s.recorded d status none) hcount))
    · exact exec_sample hphase hmeasure (hsample.trans ((judgeInvalid_loses (s := s.recorded d status none) hcount).trans (loseSensor_out hreset)))
    · exact exec_sample hphase hmeasure (hsample.trans ((judgeInvalid_loses (s := s.recorded d status none) hcount).trans (loseSensor_in hreset)))

end Sys2Proof.Machine

/-! CLAIM. What a layout acts on, and the cancel (O39, O40). -/

namespace Sys2Proof.Machine

variable {s t u : State}

/-! ## The tiles of a map in canonical form -/

/-- In a list with rising keys what is listed is what is looked up (R45). -/
theorem lookup_of_mem {α : Type} {l : List (Nat × α)} (hrising : risingKeys l = true) {k : Nat} {a : α}
    (h : (k, a) ∈ l) : l.lookup k = some a := by
  have hpairs : l.Pairwise fun x y => x.1 < y.1 := by
    clear h
    induction l with
    | nil => exact List.Pairwise.nil
    | cons x rest ih =>
      obtain ⟨hhead, hrest⟩ := (risingKeys_cons_iff x rest).mp hrising
      have hlater := ih hrest
      refine List.pairwise_cons.mpr ⟨fun y hy => ?_, hlater⟩
      cases rest with
      | nil => cases hy
      | cons z more =>
        have hxz : x.1 < z.1 := hhead z rfl
        rcases List.mem_cons.mp hy with rfl | hy
        · exact hxz
        · exact Nat.lt_trans hxz (List.rel_of_pairwise_cons hlater hy)
  clear hrising
  induction l with
  | nil => cases h
  | cons x rest ih =>
    obtain ⟨hfirst, hrest⟩ := List.pairwise_cons.mp hpairs
    rcases List.mem_cons.mp h with rfl | h
    · exact List.lookup_cons_self
    · have hne : (k == x.1) = false := beq_eq_false_iff_ne.mpr (Nat.ne_of_gt (hfirst _ h))
      rw [List.lookup, hne]
      exact ih h hrest

theorem mem_of_lookup {α : Type} {l : List (Nat × α)} {k : Nat} {a : α} (h : l.lookup k = some a) : (k, a) ∈ l := by
  induction l with
  | nil => cases h
  | cons x rest ih =>
    rw [List.lookup] at h
    split at h
    next heq =>
      cases h
      rw [beq_iff_eq.mp heq]
      exact List.mem_cons_self ..
    next => exact List.mem_cons_of_mem _ (ih h)

theorem Map.wf_rising {m : Map} (h : m.wf = true) : risingKeys m.tiles = true := (Bool.and_eq_true _ _ ▸ h).1

/-- A Changed tile is listed with its entry, and only a listed tile is Changed (R45). -/
theorem Map.changed_iff {m : Map} (hwf : m.wf = true) (x : Nat) (e : TileEntry) :
    (x, e) ∈ m.tiles ∧ e.changed = true ↔ m.changed x = true ∧ m.entry x = e := by
  have hentry (f : TileEntry) (h : m.tiles.lookup x = some f) : m.entry x = f := by
    rw [Map.entry, h]
    rfl
  constructor
  · rintro ⟨hmem, hchanged⟩
    have he := hentry e (lookup_of_mem (Map.wf_rising hwf) hmem)
    exact ⟨by rw [Map.changed, he, hchanged], he⟩
  · rintro ⟨hchanged, rfl⟩
    refine ⟨?_, hchanged⟩
    cases hlookup : m.tiles.lookup x with
    | none =>
      have hempty : m.entry x = TileEntry.empty := by
        rw [Map.entry, hlookup]
        rfl
      rw [Map.changed, hempty] at hchanged
      cases hchanged
    | some f =>
      rw [hentry f hlookup]
      exact mem_of_lookup hlookup

/-- Some Changed tile of a map has a property (R45). -/
theorem Map.any_changed_iff {m : Map} (hwf : m.wf = true) (p : Nat → TileEntry → Bool) :
    (m.tiles.any fun e => e.2.changed && p e.1 e.2) = true ↔ ∃ x, m.changed x = true ∧ p x (m.entry x) = true := by
  rw [List.any_eq_true]
  constructor
  · rintro ⟨⟨x, e⟩, hmem, h⟩
    rw [Bool.and_eq_true] at h
    obtain ⟨hchanged, he⟩ := (Map.changed_iff hwf x e).mp ⟨hmem, h.1⟩
    exact ⟨x, hchanged, he ▸ h.2⟩
  · rintro ⟨x, hchanged, h⟩
    obtain ⟨hmem, he⟩ := (Map.changed_iff hwf x (m.entry x)).mpr ⟨hchanged, rfl⟩
    exact ⟨(x, m.entry x), hmem, (Bool.and_eq_true _ _).mpr ⟨he, h⟩⟩

theorem changedOwnedBy_iff {m : Map} (hwf : m.wf = true) (o : Option Slot) :
    m.changedOwnedBy o = true ↔ ∃ x, m.changed x = true ∧ m.owner x = o :=
  (Map.any_changed_iff hwf fun _ e => decide (e.owner = o)).trans
    (exists_congr fun _ => and_congr_right fun _ => decide_eq_true_iff)

theorem ownsBlanked_iff {m : Map} (hwf : m.wf = true) (i : Slot) :
    s.ownsBlanked m i = true ↔ ∃ x, m.changed x = true ∧ s.engine.active.owner x = some i :=
  (Map.any_changed_iff hwf fun x _ => decide (s.engine.active.owner x = some i)).trans
    (exists_congr fun _ => and_congr_right fun _ => decide_eq_true_iff)

/-! ## What a layout acts on -/

/-- The transition of a start with PREPARE ended at once (R127). -/
theorem callStart_prepares {l : Layout} (hreset : s.inReset = false) (hstate : s.transition.state = .steady)
    (hlayout : l ≠ s.activeLayout) (hpin : s.transition.allows l = true) : s.callStart l =
      let started : State := { s with
        transition := s.transition.begun l
        port := { s.port with flags := s.port.flags ||| EventFlag.transitionStarted.bit } }
      if s.transition.prepareWindow = 0 then State.takeClaim { started with
        transition := { started.transition with state := .building, prepareTimer := none }
        engine := { s.engine with claims := { s.engine.claims with target := some l } } }
      else started := by
  rw [callStart_begins hstate hlayout hpin, setFlag_eq _ _ (by exact hreset)]
  rfl

theorem actOnLayout_open (l : Layout) (h : s.transition.state = .prepare ∨ s.transition.state = .building
      ∨ s.transition.state = .blanking ∨ s.transition.state = .holding) :
    s.actOnLayout l = if l = s.engine.active.layout then s.cancel else s := by
  unfold State.actOnLayout
  rcases h with h | h | h | h <;> rw [h] <;> rfl

theorem actOnLayout_steady (l : Layout) (h : s.transition.state = .steady) : s.actOnLayout l = s.callStart l := by
  rw [State.actOnLayout, h]

theorem actOnLayout_settling (l : Layout) (h : s.transition.state = .settling) :
    s.actOnLayout l = { s with transition := { s.transition with
      waitingTarget := if l = s.engine.active.layout then none else some l } } := by
  rw [State.actOnLayout, h]
  rfl

theorem layoutRequest_aside (l : Layout) (h : s.transition.pin ≠ none) : s.layoutRequest l =
    { s with transition := { s.transition with lastRequest := some l, setAside := true } } :=
  if_pos (Option.isSome_iff_ne_none.mpr h)

theorem layoutRequest_acts (l : Layout) (h : s.transition.pin = none) : s.layoutRequest l =
    State.actOnLayout l { s with transition := { s.transition with lastRequest := some l, setAside := false } } :=
  if_neg (by rw [h]; nofun)

/-- Settles O39, by the Transition State. -/
theorem layoutActs : Obligations.LayoutActs := by
  refine fun s l hreset => ⟨⟨fun hcalled hwindow => ?_, fun hcalled hwindow => ?_, fun hnot => ?_⟩,
    actOnLayout_steady l, fun hopen => ⟨fun hlayout => ?_, fun hlayout => ?_⟩, actOnLayout_settling l,
    layoutRequest_aside l, layoutRequest_acts l⟩
  · obtain ⟨hstate, hlayout, hpin⟩ := hcalled
    exact (callStart_prepares hreset hstate hlayout ((allows_iff _ l).mpr hpin)).trans (if_neg hwindow)
  · obtain ⟨hstate, hlayout, hpin⟩ := hcalled
    exact (callStart_prepares hreset hstate hlayout ((allows_iff _ l).mpr hpin)).trans (if_pos hwindow)
  · refine if_neg fun ⟨hstate, hlayout, hpin⟩ => hnot ⟨hstate, hlayout, (allows_iff _ l).mp hpin⟩
  · exact (actOnLayout_open l hopen).trans (if_pos hlayout)
  · exact (actOnLayout_open l hopen).trans (if_neg hlayout)

/-! ## The cancel -/

theorem setFlag_withFill (s : State) (f : Fill) (e : EventFlag) :
    State.setFlag e { s with fill := f } = { s.setFlag e with fill := f } := by
  cases hreset : s.inReset with
  | true => rw [setFlag_of_inReset s e hreset, setFlag_of_inReset { s with fill := f } e hreset]
  | false => rw [setFlag_eq s e hreset, setFlag_eq { s with fill := f } e hreset]

/-- What the fill queue holds does not bear on the claim that the engine takes (R52). -/
theorem takeClaim_withFill (s : State) (f : Fill) :
    State.takeClaim { s with fill := f } = { s.takeClaim with fill := f } := by
  cases hphase : s.engine.phase with
  | idle =>
    cases hrestore : s.engine.claims.restore with
    | true =>
      rw [takeClaim_restore hphase hrestore, takeClaim_restore (s := { s with fill := f }) hphase hrestore]
      rfl
    | false =>
      cases htarget : s.engine.claims.target with
      | some l =>
        rw [takeClaim_target hphase hrestore htarget, takeClaim_target (s := { s with fill := f }) hphase hrestore htarget]
        rfl
      | none =>
        cases hlatch : s.engine.claims.commitLatch with
        | false =>
          have hnone : s.engine.claims.waits = false := by rw [Claims.waits, hrestore, htarget, hlatch]; rfl
          rw [takeClaim_none s hnone, takeClaim_none { s with fill := f } hnone]
        | true =>
          rw [takeClaim_latch hphase hrestore htarget hlatch,
            takeClaim_latch (s := { s with fill := f }) hphase hrestore htarget hlatch]
          cases hany : s.anyCommittable with
          | true =>
            rw [takeLatch_builds hany, takeLatch_builds (s := { s with fill := f }) hany]
            rfl
          | false =>
            rw [takeLatch_done hany, takeLatch_done (s := { s with fill := f }) hany]
            exact setFlag_withFill (s.updClaims fun c => { c with commitLatch := false }) f .commitDone
  | building b => rw [takeClaim_busy s (by rw [hphase]; nofun), takeClaim_busy { s with fill := f } (by rw [hphase]; nofun)]
  | ready b m => rw [takeClaim_busy s (by rw [hphase]; nofun), takeClaim_busy { s with fill := f } (by rw [hphase]; nofun)]
  | draining m e =>
    rw [takeClaim_busy s (by rw [hphase]; nofun), takeClaim_busy { s with fill := f } (by rw [hphase]; nofun)]

/-- The engine with a TARGET build or map dropped, before it takes a claim (R70). -/
def State.dropped (s : State) : State :=
  { s with
    engine := { s.engine with phase := .idle, claims := { s.engine.claims with target := none } }
    table := { s.table with slots := Vec.tabulate fun i => { s.record i with inBuild := false } } }

/-- The engine works on a TARGET map (R70). -/
def State.onTarget (s : State) : Prop :=
  (∃ b, s.engine.phase = .building b ∧ b.kind = .target) ∨ ∃ b m, s.engine.phase = .ready b m ∧ b.kind = .target

theorem abandonTarget_drops (h : s.onTarget) : s.abandonTarget = s.dropped.takeClaim := by
  unfold State.abandonTarget
  rcases h with ⟨b, hphase, hkind⟩ | ⟨b, m, hphase, hkind⟩ <;> rw [hphase] <;> exact if_pos hkind

theorem abandonTarget_else (h : ¬ s.onTarget) :
    s.abandonTarget = { s with engine := { s.engine with claims := { s.engine.claims with target := none } } } := by
  unfold State.abandonTarget
  cases hphase : s.engine.phase with
  | building b => exact if_neg fun hkind => h (.inl ⟨b, hphase, hkind⟩)
  | ready b m => exact if_neg fun hkind => h (.inr ⟨b, m, hphase, hkind⟩)
  | idle => rfl
  | draining m e => rfl

theorem abandonTarget_withFill (s : State) (f : Fill) :
    State.abandonTarget { s with fill := f } = { s.abandonTarget with fill := f } := by
  by_cases h : s.onTarget
  · rw [abandonTarget_drops h, abandonTarget_drops (s := { s with fill := f }) h]
    exact takeClaim_withFill s.dropped f
  · rw [abandonTarget_else h, abandonTarget_else (s := { s with fill := f }) h]

/-- The region jobs of a recovery (R141). -/
def State.recoveries (s : State) : List Slot :=
  match s.targetMap with
  | some m => slotList.filter fun i => s.isShown i && s.hasFillSource i && s.ownsBlanked m i
  | none => []

/-- The fill queue of a cancel, with BLANK still in it (R141). -/
def State.recoveredQueue (s : State) : List Key :=
  if s.blankingOn then (s.recoveries.map Key.region ++ [Key.background]).foldl joinKey s.fill.queue else s.fill.queue

theorem foldl_queueJob (l : List Key) (s : State) :
    l.foldl (fun t k => t.queueJob k) s = { s with fill := { s.fill with queue := l.foldl joinKey s.fill.queue } } := by
  induction l generalizing s with
  | nil => rfl
  | cons k rest ih => rw [List.foldl_cons, ih, queueJob_join, List.foldl_cons]

theorem queueRecovery_eq (s : State) : s.queueRecovery = { s with fill := { s.fill with
    queue := (s.recoveries.map Key.region ++ [Key.background]).foldl joinKey s.fill.queue } } := by
  rw [← foldl_queueJob, List.foldl_append, List.foldl_map]
  rfl

/-- A cancel, in one expression (R140). -/
theorem cancel_eq (s : State) : s.cancel = State.setFlag .transitionCancelled { s.abandonTarget with
    fill := { s.fill with
      queue := s.recoveredQueue.filter fun k => k ≠ .blank
      job := if s.jobIs .blank then none else s.fill.job }
    link := { s.link with fillWaiting := if s.jobIs .blank then none else s.link.fillWaiting }
    transition := s.transition.cancelled } := by
  have hrecovers : (if s.blankingOn then s.queueRecovery else s) =
      { s with fill := { s.fill with queue := s.recoveredQueue } } := by
    rw [State.recoveredQueue]
    split
    · exact queueRecovery_eq s
    · rfl
  obtain ⟨flags, phase, claims, slots, h⟩ := abandonTarget_writes s
  have habandon : State.abandonTarget { s with fill := { s.fill with queue := s.recoveredQueue } } =
      { s.abandonTarget with fill := { s.fill with queue := s.recoveredQueue } } := abandonTarget_withFill s _
  rw [State.cancel, hrecovers]
  dsimp only
  rw [habandon, h, removeJob_eq]
  rfl

end Sys2Proof.Machine

/-! CLAIM. What a cancel does to the transition, the engine, the records and the fill jobs (O40). -/

namespace Sys2Proof.Machine

variable {s t u : State}

theorem abandonTarget_inReset (s : State) : s.abandonTarget.inReset = s.inReset := by
  obtain ⟨flags, phase, claims, slots, h⟩ := abandonTarget_writes s
  rw [h]
  rfl

theorem cancel_engine (s : State) : s.cancel.engine = s.abandonTarget.engine := by rw [cancel_eq, setFlag_engine]

theorem cancel_table (s : State) : s.cancel.table = s.abandonTarget.table := by rw [cancel_eq, setFlag_table]

theorem cancel_record (s : State) (i : Slot) : s.cancel.record i = s.abandonTarget.record i :=
  congrArg (fun b : Table => b.slots[i]) (cancel_table s)

theorem cancel_port (hreset : s.inReset = false) : s.cancel.port = { s.abandonTarget.port with
    flags := s.abandonTarget.port.flags ||| EventFlag.transitionCancelled.bit } := by
  rw [cancel_eq, setFlag_eq _ _ (by exact (abandonTarget_inReset s).trans hreset)]

theorem jobIs_iff (s : State) (k : Key) : s.jobIs k = true ↔ ∃ j, s.fill.job = some j ∧ j.key = k := by
  rw [State.jobIs, Option.any_eq_true]
  exact exists_congr fun _ => and_congr_right fun _ => decide_eq_true_iff

theorem cancel_link (s : State) :
    s.cancel.link = if s.jobIs .blank then { s.link with fillWaiting := none } else s.link := by
  obtain ⟨flags, phase, claims, slots, h⟩ := abandonTarget_writes s
  rw [cancel_eq, setFlag_link, h]
  split <;> rfl

theorem cancel_job (s : State) : s.cancel.fill.job = s.fill.job.filter fun j => j.key ≠ .blank := by
  rw [cancel_eq, setFlag_fill]
  dsimp only
  rw [State.jobIs]
  cases s.fill.job with
  | none => rfl
  | some j =>
    rw [Option.any_some]
    by_cases hj : j.key = .blank <;> simp [hj, Option.filter]

theorem cancel_queue (s : State) : s.cancel.fill.queue = s.recoveredQueue.filter fun k => k ≠ .blank := by
  rw [cancel_eq, setFlag_fill]

theorem cancel_transition (s : State) : s.cancel.transition = s.transition.cancelled := by
  rw [cancel_eq, setFlag_transition]

/-- A cancel leaves the router, the zones and the sampler alone (R140). -/
theorem cancel_leaves (s : State) :
    s.cancel.router = s.router ∧ s.cancel.zones = s.zones ∧ s.cancel.sampler = s.sampler := by
  obtain ⟨flags, phase, claims, slots, h⟩ := abandonTarget_writes s
  rw [cancel_eq, setFlag_router, setFlag_zones, setFlag_sampler, h]
  exact ⟨rfl, rfl, rfl⟩

theorem hasFillSource_iff (s : State) (i : Slot) :
    s.hasFillSource i = true ↔ ∃ p c, s.activePart i = some p ∧ p.source = .fill c := by
  rw [State.hasFillSource, Option.any_eq_true]
  refine exists_congr fun p => ?_
  cases hsource : p.source with
  | fill c => exact ⟨fun h => ⟨c, h.1, rfl⟩, fun ⟨_, h, _⟩ => ⟨h, rfl⟩⟩
  | stream n oc orow => exact ⟨fun h => (nomatch h.2), fun ⟨_, _, h⟩ => (nomatch h)⟩

/-- The region jobs of a recovery: the SHOWN fill records that own a tile Changed in the target map (R141). -/
theorem mem_recoveries_iff (hs : s.Canonical) (i : Slot) : i ∈ s.recoveries ↔
    ∃ (b : Build) (m : Map) (p : Part) (c : Colour) (x : Nat),
      s.engine.phase = .ready b m ∧ b.kind = .target ∧ s.isShown i = true ∧ s.activePart i = some p
      ∧ p.source = .fill c ∧ m.changed x = true ∧ s.engine.active.owner x = some i := by
  cases htarget : s.targetMap with
  | none =>
    rw [State.recoveries, htarget]
    refine ⟨nofun, fun ⟨b, m, _, _, _, hphase, hkind, _⟩ => ?_⟩
    rw [(targetMap_iff s m).mpr ⟨b, hphase, hkind⟩] at htarget
    cases htarget
  | some m =>
    obtain ⟨b, hphase, hkind⟩ := (targetMap_iff s m).mp htarget
    have hwf : m.wf = true := by
      have h := hs.2.2
      rw [hphase] at h
      exact h
    rw [State.recoveries, htarget]
    dsimp only
    rw [List.mem_filter, Bool.and_eq_true, Bool.and_eq_true, hasFillSource_iff, ownsBlanked_iff hwf]
    constructor
    · rintro ⟨-, ⟨hshown, p, c, hp, hsource⟩, x, hchanged, howner⟩
      exact ⟨b, m, p, c, x, hphase, hkind, hshown, hp, hsource, hchanged, howner⟩
    · rintro ⟨b', m', p, c, x, hphase', -, hshown, hp, hsource, hchanged, howner⟩
      rw [hphase] at hphase'
      cases hphase'
      exact ⟨mem_slotList i, ⟨hshown, p, c, hp, hsource⟩, x, hchanged, howner⟩

theorem recoveries_pairwise (s : State) : s.recoveries.Pairwise (· < ·) := by
  unfold State.recoveries
  split
  · exact slotList_pairwise.filter _
  · exact List.Pairwise.nil

/-! ## The engine after a cancel -/

theorem dropped_record (s : State) (i : Slot) : s.dropped.record i = { s.record i with inBuild := false } :=
  Vec.tabulate_get _ i

theorem takeClaim_record_rest (s : State) (i : Slot) :
    s.takeClaim.record i = { s.record i with inBuild := (s.takeClaim.record i).inBuild } := by
  rcases takeClaim_record s i with h | ⟨k, h⟩
  · rw [h]
  · rw [h]
    rfl

/-- A cancel changes no record but in In Build (R140). -/
theorem abandonTarget_record_rest (s : State) (i : Slot) :
    s.abandonTarget.record i = { s.record i with inBuild := (s.abandonTarget.record i).inBuild } := by
  by_cases h : s.onTarget
  · rw [abandonTarget_drops h]
    exact (takeClaim_record_rest s.dropped i).trans (by rw [dropped_record])
  · rw [abandonTarget_else h]
    rfl

theorem abandonTarget_keeps (s : State) :
    s.abandonTarget.engine.epoch = s.engine.epoch ∧ s.abandonTarget.engine.active = s.engine.active := by
  obtain ⟨flags, phase, claims, slots, h⟩ := abandonTarget_writes s
  rw [h]
  exact ⟨rfl, rfl⟩

theorem dropped_committable (s : State) :
    s.dropped.anyCommittable = true ↔ ∃ i : Slot, (s.record i).commitPending = true := by
  rw [anyCommittable_iff]
  refine exists_congr fun i => ?_
  rw [dropped_record]
  exact and_iff_left rfl

/-- The claims that the engine takes after a cancel: none, RESTORE, or the latch (R52, R53, R70). -/
theorem dropped_takes_nothing (hrestore : s.engine.claims.restore = false) (hlatch : s.engine.claims.commitLatch = false) :
    s.dropped.takeClaim = s.dropped :=
  takeClaim_none _ (by change (s.engine.claims.restore || false || s.engine.claims.commitLatch) = false; rw [hrestore, hlatch]; rfl)

theorem dropped_takes_restore (hrestore : s.engine.claims.restore = true) :
    s.dropped.takeClaim = (s.dropped.updClaims fun c => { c with restore := false }).startBuild .restore
      s.engine.active.layout := takeClaim_restore rfl hrestore

theorem dropped_takes_latch (hrestore : s.engine.claims.restore = false) (hlatch : s.engine.claims.commitLatch = true) :
    s.dropped.takeClaim = s.dropped.takeLatch := takeClaim_latch rfl hrestore rfl hlatch

/-- Settles O40: the cancel block by block. -/
theorem cancel : Obligations.Cancel := by
  intro s hreset
  obtain ⟨hepoch, hactive⟩ := abandonTarget_keeps s
  obtain ⟨hrouter, hzones, hsampler⟩ := cancel_leaves s
  have hflag : s.cancel.flag .transitionCancelled = true := by
    rw [cancel_eq]
    exact flag_setFlag_self _ (by exact (abandonTarget_inReset s).trans hreset)
  refine ⟨cancel_transition s, hflag, ?_, ?_, hrouter, hzones, hsampler, ?_, cancel_job s, fun hoff => ?_,
    fun hon hcanonical => ⟨s.recoveries, ?_, recoveries_pairwise s, mem_recoveries_iff hcanonical⟩,
    fun i => ?_, fun htarget => ?_, fun hother => ?_⟩
  · rw [cancel_engine, hepoch]
  · rw [cancel_engine, hactive]
  · rw [cancel_link]
    by_cases hjob : s.jobIs .blank = true
    · rw [if_pos hjob, if_pos ((jobIs_iff s .blank).mp hjob)]
    · rw [if_neg hjob, if_neg (fun h => hjob ((jobIs_iff s .blank).mpr h))]
  · rw [cancel_queue, State.recoveredQueue, if_neg (by rw [hoff]; nofun)]
  · rw [cancel_queue, State.recoveredQueue, if_pos hon]
    rfl
  · rw [cancel_record]
    exact abandonTarget_record_rest s i
  · have hdrops := abandonTarget_drops htarget
    refine ⟨(cancel_engine s).trans (congrArg State.engine hdrops), (cancel_table s).trans (congrArg State.table hdrops),
      ?_, fun hrestore hlatch => ?_, fun hrestore => ?_, fun hrestore hlatch => ?_⟩
    · rw [cancel_port hreset, hdrops]
      rfl
    · have hnothing := hdrops.trans (dropped_takes_nothing hrestore hlatch)
      rw [cancel_engine, hnothing]
      refine ⟨rfl, rfl, fun i => ?_⟩
      rw [cancel_record, hnothing, dropped_record]
    · rw [cancel_engine, hdrops, dropped_takes_restore hrestore]
      exact ⟨⟨_, rfl, rfl, rfl⟩, rfl⟩
    · have htakes := hdrops.trans (dropped_takes_latch hrestore hlatch)
      by_cases hany : ∃ i : Slot, (s.record i).commitPending = true
      · have hbuilds := htakes.trans (takeLatch_builds ((dropped_committable s).mpr hany))
        rw [cancel_engine, hbuilds]
        refine ⟨congrArg (fun r => ({ restore := r, target := none, commitLatch := false } : Claims)) hrestore,
          fun _ => ⟨_, rfl, rfl, rfl⟩, fun hnone => ?_⟩
        obtain ⟨i, hi⟩ := hany
        rw [hnone i] at hi
        cases hi
      · have hdone := htakes.trans (takeLatch_done (Bool.eq_false_iff.mpr fun h => hany ((dropped_committable s).mp h)))
        have hengine : s.cancel.engine = { s.dropped.engine with claims := { s.engine.claims with
            target := none, commitLatch := false } } := by
          rw [cancel_engine, hdone, setFlag_engine]
          rfl
        rw [hengine]
        refine ⟨congrArg (fun r => ({ restore := r, target := none, commitLatch := false } : Claims)) hrestore,
          fun h => absurd h hany, fun _ => ⟨rfl, ?_⟩⟩
        rw [cancel_eq]
        refine flag_setFlag_of _ _ ?_
        rw [hdone]
        exact flag_setFlag_self (s := s.dropped.updClaims fun c => { c with commitLatch := false }) .commitDone hreset
  · have hrest : ¬ s.onTarget := fun h => h.elim (fun ⟨b, hphase, hkind⟩ => hother.1 b hphase hkind)
      fun ⟨b, m, hphase, hkind⟩ => hother.2 b m hphase hkind
    have habandon := abandonTarget_else hrest
    refine ⟨(cancel_engine s).trans (congrArg State.engine habandon), ?_, fun i => ?_⟩
    · rw [cancel_port hreset, habandon]
    · rw [cancel_record, habandon]
      rfl

end Sys2Proof.Machine

/-! CLAIM. The requests of the Transition Controller (O41). -/

namespace Sys2Proof.Machine

variable {s t u : State}

theorem layoutReady_prepare (h : s.transition.state = .prepare) : Machine.layoutReady [] s = answered s.raiseTarget := by
  rw [Machine.layoutReady, withoutParams_nil, if_pos h]

theorem layoutReady_else (h : s.transition.state ≠ .prepare) : Machine.layoutReady [] s = refused .badState s := by
  rw [Machine.layoutReady, withoutParams_nil, if_neg h]

theorem layoutParam_iff {ps : List Byte} {l : Layout} : layoutParam ps = some l ↔ ps = [layoutByte l] := by
  unfold layoutParam
  split
  next b => rw [layoutField_iff, List.cons.injEq, and_iff_left rfl]
  next h => exact ⟨nofun, fun hps => absurd hps (h _)⟩

theorem layoutPin_good {ps : List Byte} {l : Layout} (h : layoutParam ps = some l) (s : State) :
    Machine.layoutPin ps s = taken ((s.updTransition fun q => { q with pin := some l }).actOnLayout l) := by
  rw [Machine.layoutPin, h]

theorem layoutPin_bad {ps : List Byte} (h : layoutParam ps = none) (s : State) :
    Machine.layoutPin ps s = refused .badParam s := by rw [Machine.layoutPin, h]

theorem unpin_eq (s : State) : s.unpin =
    match s.sampler.posture.implied with
    | some l => (s.updTransition fun q => { q with pin := none, setAside := false }).actOnLayout l
    | none => s.updTransition fun q => { q with pin := none, setAside := false } := rfl

theorem unpin_implied {l : Layout} (h : s.sampler.posture.implied = some l) :
    s.unpin = (s.updTransition fun q => { q with pin := none, setAside := false }).actOnLayout l := by
  rw [State.unpin, h]

theorem unpin_none (h : s.sampler.posture.implied = none) :
    s.unpin = s.updTransition fun q => { q with pin := none, setAside := false } := by
  rw [State.unpin, h]

theorem transitionAbort_steady (h : s.transition.state = .steady) :
    Machine.transitionAbort [] s = refused .badState s := by
  rw [Machine.transitionAbort, withoutParams_nil, h]

theorem transitionAbort_settling (h : s.transition.state = .settling) :
    Machine.transitionAbort [] s = refused .tooLate s := by
  rw [Machine.transitionAbort, withoutParams_nil, h]

/-- A transition under way is aborted: cancelled, and the active layout pinned (R145). -/
theorem transitionAbort_else (hsteady : s.transition.state ≠ .steady) (hsettling : s.transition.state ≠ .settling) :
    Machine.transitionAbort [] s = taken s.abort := by
  rw [Machine.transitionAbort, withoutParams_nil]
  cases h : s.transition.state with
  | steady => exact absurd h hsteady
  | settling => exact absurd h hsettling
  | _ => rfl

theorem exec_prepareTimerExpiry (hreset : s.inReset = false) (h : s.transition.prepareTimer ≠ none) :
    exec .prepareTimerExpiry s = .next (State.raiseTarget { s with port := { s.port with
      flags := s.port.flags ||| EventFlag.prepareExpired.bit } }) := by
  rw [← setFlag_eq s .prepareExpired hreset]
  exact if_pos (Option.isSome_iff_ne_none.mpr h)

/-- Settles O41, one request at a time. -/
theorem layoutRequests : Obligations.LayoutRequests := by
  refine fun s hreset => ⟨⟨fun hheld hstate => ?_, fun hheld hstate => ?_⟩, fun htimer => ?_, fun htimer => ?_,
    fun l hheld => ?_, fun ps hheld hbad => ?_, fun hheld => ⟨fun hposture => ?_, fun hposture => ?_, fun hposture => ?_⟩,
    fun hheld => ⟨fun hstate => ?_, fun hstate => ?_, fun hsteady hsettling => ?_⟩⟩
  · exact decided_answered hheld (layoutReady_prepare hstate)
  · exact decided_refused hheld (layoutReady_else hstate)
  · exact exec_prepareTimerExpiry hreset htimer
  · exact if_neg (by rw [htimer]; nofun)
  · exact decided_taken hheld (layoutPin_good (layoutParam_iff.mpr rfl) s)
  · refine decided_refused hheld (layoutPin_bad (Option.eq_none_iff_forall_ne_some.mpr fun l hl => ?_) s)
    exact hbad l (layoutParam_iff.mp hl)
  · exact decided_taken hheld (congrArg taken (unpin_implied (by rw [hposture]; rfl)))
  · exact decided_taken hheld (congrArg taken (unpin_implied (by rw [hposture]; rfl)))
  · have hnone : s.sampler.posture.implied = none := by rcases hposture with h | h <;> rw [h] <;> rfl
    exact decided_taken hheld (congrArg taken (unpin_none hnone))
  · exact decided_refused hheld (transitionAbort_steady hstate)
  · exact decided_refused hheld (transitionAbort_settling hstate)
  · exact decided_taken hheld (transitionAbort_else hsteady hsettling)

end Sys2Proof.Machine

/-! CLAIM. The requests of the zones, the fault lines, the idle timers and the activities (O42, O43). -/

namespace Sys2Proof.Machine

variable {s t u : State}

/-! ## A zone set, with its message -/

theorem updZone_congr {z : Zone} {f g : ZoneState → ZoneState} (h : f (s.zoneState z) = g (s.zoneState z)) :
    s.updZone z f = s.updZone z g :=
  congrArg (fun q => ({ s with zones := { s.zones with zone := s.zones.zone.set z q } } : State)) h

/-- Outside the resets a zone that is changed takes the message that it then wants (R153). -/
theorem placeMessage_updZone (z : Zone) (f : ZoneState → ZoneState) (hreset : s.inReset = false) :
    (s.updZone z f).placeMessage z = { s.updZone z f with link := { s.link with
      slots := s.link.slots.set z (some (f (s.zoneState z)).wanted) } } := by
  rw [placeMessage_eq _ z (by exact hreset), zoneState_updZone_self]
  rfl

/-- A zone set ON or OFF, with its timer and its message (R154). -/
def State.zoneSet (s : State) (z : Zone) (on : Bool) : State :=
  { s.updZone z fun q => { q with
      mode := if on = true then .on else .off
      idleTimer := if on = true then (if q.idleLimit = 0 then none else some q.idleLimit) else none } with
    link := { s.link with slots := s.link.slots.set z (some
      (if on = true then { on := true, brightness := 255 } else { on := false, brightness := 0 })) } }

theorem placeMessage_setTo (z : Zone) (on : Bool) (hreset : s.inReset = false) :
    (s.updZone z (ZoneState.setTo on)).placeMessage z = s.zoneSet z on := by
  rw [placeMessage_updZone z _ hreset]
  cases on <;> rfl

/-! ## The decisions -/

/-- The zone tables with the entries given for a layout (R154). -/
def Zones.edited (layout : Layout) (rear spine front : Option Bool) (q : Zones) : Zones :=
  match layout with
  | .folded => { q with foldedTable := editTable rear spine front q.foldedTable }
  | .unfolded => { q with unfoldedTable := editTable rear spine front q.unfoldedTable }

theorem zoneTable_good {ps : List Byte} {layout : Layout} {rear spine front : Option Bool}
    (h : zoneTableParams ps = some (layout, rear, spine, front)) (s : State) : Machine.zoneTable ps s =
      answered { s with zones := s.zones.edited layout rear spine front } := by
  rw [Machine.zoneTable, h]
  cases layout <;> rfl

theorem zoneTable_bad {ps : List Byte} (h : zoneTableParams ps = none) (s : State) :
    Machine.zoneTable ps s = refused .badParam s := by rw [Machine.zoneTable, h]

theorem zoneIdle_good {ps : List Byte} {z : Zone} {limit : Option Nat} {mask : Option (BitVec 3)} {dim : Option Nat}
    (h : zoneIdleParams ps = some (z, limit, mask, dim)) (s : State) : Machine.zoneIdle ps s =
      if dim.isSome ∧ (s.zoneState z).mode = .dim then taken ((s.updZone z (ZoneState.setIdle limit mask dim)).placeMessage z)
      else answered (s.updZone z (ZoneState.setIdle limit mask dim)) := by rw [Machine.zoneIdle, h]

theorem zoneIdle_bad {ps : List Byte} (h : zoneIdleParams ps = none) (s : State) :
    Machine.zoneIdle ps s = refused .badParam s := by rw [Machine.zoneIdle, h]

theorem zoneMode_good {ps : List Byte} {z : Zone} {on : Bool} (h : zoneModeParams ps = some (z, on)) (s : State) :
    Machine.zoneMode ps s = if (s.zoneState z).mode = .tripped then refused .faultActive s
      else taken ((s.updZone z (ZoneState.setTo on)).placeMessage z) := by rw [Machine.zoneMode, h]

theorem zoneMode_bad {ps : List Byte} (h : zoneModeParams ps = none) (s : State) :
    Machine.zoneMode ps s = refused .badParam s := by rw [Machine.zoneMode, h]

theorem zoneRestore_good {ps : List Byte} {z : Zone} (h : zoneParam ps = some z) (s : State) :
    Machine.zoneRestore ps s = if (s.zoneState z).mode ≠ .tripped then refused .badState s
      else if (s.zoneState z).faultActive then refused .faultActive s
      else taken (s.restoreZone z) := by rw [Machine.zoneRestore, h]

theorem zoneRestore_bad {ps : List Byte} (h : zoneParam ps = none) (s : State) :
    Machine.zoneRestore ps s = refused .badParam s := by rw [Machine.zoneRestore, h]

theorem zoneModeParams_iff {ps : List Byte} {z : Zone} {on : Bool} :
    zoneModeParams ps = some (z, on) ↔ ps = [zoneByte z, boolByte on] := by
  unfold zoneModeParams
  split
  next a b =>
    rw [Option.bind_eq_some_iff, List.cons.injEq, List.cons.injEq, and_iff_left rfl]
    constructor
    · rintro ⟨y, hy, h⟩
      obtain ⟨x, hx, h⟩ := Option.map_eq_some_iff.mp h
      cases h
      exact ⟨zoneField_iff.mp hy, boolField_iff.mp hx⟩
    · rintro ⟨ha, hb⟩
      exact ⟨z, zoneField_iff.mpr ha, Option.map_eq_some_iff.mpr ⟨on, boolField_iff.mpr hb, rfl⟩⟩
  next h => exact ⟨nofun, fun hps => absurd hps (h _ _)⟩

theorem zoneParam_iff {ps : List Byte} {z : Zone} : zoneParam ps = some z ↔ ps = [zoneByte z] := by
  unfold zoneParam
  split
  next b => rw [zoneField_iff, List.cons.injEq, and_iff_left rfl]
  next h => exact ⟨nofun, fun hps => absurd hps (h _)⟩

/-! ## The idle settings -/

/-- A zone with the idle settings given; in ON the timer follows a new limit (R157). -/
def ZoneState.idled (limit : Option Nat) (mask : Option (BitVec 3)) (dim : Option Nat) (q : ZoneState) : ZoneState :=
  { q with
    idleLimit := limit.getD q.idleLimit, activityMask := mask.getD q.activityMask, dimLevel := dim.getD q.dimLevel
    idleTimer := match limit with
      | some n => if q.mode = .on then (if n = 0 then none else some n) else q.idleTimer
      | none => q.idleTimer }

theorem setIdle_eq (limit : Option Nat) (mask : Option (BitVec 3)) (dim : Option Nat) (q : ZoneState) :
    q.setIdle limit mask dim = q.idled limit mask dim := by
  unfold ZoneState.setIdle ZoneState.idled
  cases limit with
  | none => rfl
  | some n =>
    by_cases hmode : q.mode = .on
    · exact (if_pos ⟨rfl, hmode⟩).trans (by dsimp only; rw [if_pos hmode]; rfl)
    · exact (if_neg fun h => hmode h.2).trans (by dsimp only; rw [if_neg hmode])

theorem updZone_setIdle (z : Zone) (limit : Option Nat) (mask : Option (BitVec 3)) (dim : Option Nat) :
    s.updZone z (ZoneState.setIdle limit mask dim) = s.updZone z (ZoneState.idled limit mask dim) :=
  updZone_congr (setIdle_eq limit mask dim _)

theorem idled_wanted {limit : Option Nat} {mask : Option (BitVec 3)} {n : Nat} {q : ZoneState} (h : q.mode = .dim) :
    (q.idled limit mask (some n)).wanted = { on := true, brightness := n } := by
  have hmode : (q.idled limit mask (some n)).mode = .dim := h
  rw [ZoneState.wanted, hmode]
  rfl

theorem idleParams_bytes {z : Zone} {limit : Option Nat} {mask : Option (BitVec 3)} {dim : Option Nat}
    (hgiven : (limit.isSome || mask.isSome || dim.isSome) = true) (hlimit : givenWithin 0 255 limit = true)
    (hdim : givenWithin 0 255 dim = true) :
    zoneIdleParams (zoneIdleBytes z limit mask dim) = some (z, limit, mask, dim) :=
  zoneIdleParams_iff.mpr ⟨⟨hgiven, fun n hn => (givenWithin_iff.mp hlimit n hn).2,
    fun n hn => (givenWithin_iff.mp hdim n hn).2⟩, rfl⟩

/-- Settles O42, one request at a time. -/
theorem zoneRequests : Obligations.ZoneRequests := by
  refine fun s hreset => ⟨fun layout rear spine front hgiven hheld => ?_, fun ps hheld hbad => ?_,
    fun z limit mask dim hgiven hlimit hdim hheld => ⟨fun hquiet => ?_, fun n hn hmode => ?_⟩, fun ps hheld hbad => ?_,
    ⟨fun z on hheld => ⟨fun hmode => ?_, fun hmode => ?_⟩,
      fun z hheld => ⟨fun hmode => ?_, fun hmode hfault => ?_, fun hmode hfault => ?_⟩⟩,
    fun ps hheld hbad => ?_, fun ps hheld hbad => ?_⟩
  · refine (decided_answered hheld (zoneTable_good (zoneTableParams_iff.mpr ⟨hgiven, rfl⟩) s)).trans ?_
    cases layout <;> rfl
  · refine decided_refused hheld (zoneTable_bad (Option.eq_none_iff_forall_ne_some.mpr ?_) s)
    rintro ⟨layout, rear, spine, front⟩ h
    obtain ⟨hgiven, hps⟩ := zoneTableParams_iff.mp h
    exact hbad layout rear spine front hgiven hps
  · have hanswered : ¬ (dim.isSome = true ∧ (s.zoneState z).mode = .dim) := by
      rintro ⟨hdim, hmode⟩
      rcases hquiet with rfl | hquiet
      · cases hdim
      · exact hquiet hmode
    exact decided_answered hheld ((zoneIdle_good (idleParams_bytes hgiven hlimit hdim) s).trans
      ((if_neg hanswered).trans (congrArg answered (updZone_setIdle z limit mask dim))))
  · subst hn
    refine decided_taken hheld ((zoneIdle_good (idleParams_bytes hgiven hlimit hdim) s).trans
      ((if_pos ⟨rfl, hmode⟩).trans (congrArg taken ?_)))
    rw [updZone_setIdle, placeMessage_updZone z _ hreset, idled_wanted hmode]
    rfl
  · refine decided_refused hheld (zoneIdle_bad (Option.eq_none_iff_forall_ne_some.mpr ?_) s)
    rintro ⟨z, limit, mask, dim⟩ h
    obtain ⟨⟨hgiven, hlimit, hdim⟩, hps⟩ := zoneIdleParams_iff.mp h
    exact hbad z limit mask dim hgiven (givenWithin_iff.mpr fun n hn => ⟨Nat.zero_le n, hlimit n hn⟩)
      (givenWithin_iff.mpr fun n hn => ⟨Nat.zero_le n, hdim n hn⟩) hps
  · exact decided_refused hheld ((zoneMode_good (zoneModeParams_iff.mpr rfl) s).trans (if_pos hmode))
  · refine decided_taken hheld ((zoneMode_good (zoneModeParams_iff.mpr rfl) s).trans ((if_neg hmode).trans ?_))
    exact congrArg taken (placeMessage_setTo z on hreset)
  · exact decided_refused hheld ((zoneRestore_good (zoneParam_iff.mpr rfl) s).trans (if_pos hmode))
  · exact decided_refused hheld ((zoneRestore_good (zoneParam_iff.mpr rfl) s).trans
      ((if_neg (not_not.mpr hmode)).trans (if_pos hfault)))
  · refine decided_taken hheld ((zoneRestore_good (zoneParam_iff.mpr rfl) s).trans
      ((if_neg (not_not.mpr hmode)).trans ((if_neg (by rw [hfault]; nofun)).trans ?_)))
    refine congrArg (fun v : State => taken (v.queueJob (.zone z))) ((placeMessage_setTo z _ hreset).trans ?_)
    rfl
  · refine decided_refused hheld (zoneMode_bad (Option.eq_none_iff_forall_ne_some.mpr ?_) s)
    rintro ⟨z, on⟩ h
    exact hbad z on (zoneModeParams_iff.mp h)
  · exact decided_refused hheld (zoneRestore_bad (Option.eq_none_iff_forall_ne_some.mpr fun z h =>
      hbad z (zoneParam_iff.mp h)) s)

/-! ## Fault lines -/

/-- The fields of a zone that trips (R159). -/
def ZoneState.fallen (q : ZoneState) : ZoneState :=
  { q with mode := .tripped, idleTimer := none, tripCount := if q.tripCount < 255 then q.tripCount + 1 else 255 }

theorem trip_eq (s : State) (z : Zone) : s.trip z = State.setFlag .zoneTripped (State.placeMessage z
    { s.updZone z ZoneState.fallen with
      zones := { (s.updZone z ZoneState.fallen).zones with
        tripDeferred := s.zones.tripDeferred || s.inReset } }) := rfl

theorem trip_out (z : Zone) (hreset : s.inReset = false) : s.trip z = { s.updZone z ZoneState.fallen with
    link := { s.link with slots := s.link.slots.set z (some { on := false, brightness := 0 }) }
    port := { s.port with flags := s.port.flags ||| EventFlag.zoneTripped.bit } } := by
  rw [trip_eq, hreset, Bool.or_false]
  have hmessage := placeMessage_updZone z ZoneState.fallen hreset
  exact (congrArg (State.setFlag .zoneTripped) hmessage).trans (setFlag_eq _ _ hreset)

theorem trip_in (z : Zone) (hreset : s.inReset = true) : s.trip z = { s.updZone z ZoneState.fallen with
    zones := { (s.updZone z ZoneState.fallen).zones with tripDeferred := true } } := by
  rw [trip_eq, placeMessage_of_inReset _ z (by exact hreset), setFlag_of_inReset _ _ (by exact hreset), hreset,
    Bool.or_true]

theorem exec_zoneFaultRise {z : Zone} (hline : s.pins.faultLine.get z = false) (hresetn : s.pins.resetn = false)
    (h : (s.setLine z true).takeRise z = t) : exec (.zoneFaultRise z) s = .next t.finish :=
  h ▸ (if_neg (by rw [hline]; nofun)).trans (if_neg (by rw [hresetn]; nofun))

/-- Fault Active set (R159). -/
def ZoneState.struck (q : ZoneState) : ZoneState := { q with faultActive := true }

theorem takeRise_tripped {z : Zone} (h : (s.zoneState z).mode = .tripped) :
    s.takeRise z = s.updZone z fun q => { q with faultActive := true } := if_pos h

theorem takeRise_trips {z : Zone} (h : (s.zoneState z).mode ≠ .tripped) :
    s.takeRise z = (s.updZone z ZoneState.struck).trip z := if_neg h

theorem activity_kind (a : Activity) (q : ZoneState) {place : Nat}
    (h : place = (match a with | .stream => 0 | .fill => 1 | .lookup => 2)) :
    q.admits a = q.activityMask.getLsbD place := by
  rw [h]
  cases a <;> rfl

/-- Settles O43, by the line's level, the resets, and the mode of the zone. -/
theorem faultsAndIdleTimers : Obligations.FaultsAndIdleTimers := by
  refine ⟨fun s z => ⟨fun hline => if_pos hline, fun hline hresetn => ?_, fun hline hresetn =>
    ⟨fun hmode => ?_, fun hmode hdrstn => ?_, fun hmode hdrstn => ?_⟩, fun htimer => ?_, fun htimer hreset => ?_⟩,
    fun s z => ⟨fun hline => ?_, fun hline hresetn => (if_pos hline).trans (if_pos hresetn),
      fun a place hplace => ⟨fun hnone => ?_, fun hreset hmask hmode => ?_, fun hreset hmask hmode => ?_⟩⟩⟩
  · exact (if_neg (by rw [hline]; nofun)).trans (if_pos hresetn)
  · exact exec_zoneFaultRise hline hresetn (takeRise_tripped (s := s.setLine z true) hmode)
  · have hreset : s.inReset = false := (inReset_iff s).mpr ⟨hresetn, hdrstn⟩
    refine exec_zoneFaultRise hline hresetn ((takeRise_trips (s := s.setLine z true) hmode).trans
      ((trip_out (s := (s.setLine z true).updZone z ZoneState.struck) z hreset).trans ?_))
    rw [updZone_updZone]
    rfl
  · have hreset : s.inReset = true := by rw [State.inReset, hdrstn, Bool.or_true]
    refine exec_zoneFaultRise hline hresetn ((takeRise_trips (s := s.setLine z true) hmode).trans
      ((trip_in (s := (s.setLine z true).updZone z ZoneState.struck) z hreset).trans ?_))
    rw [updZone_updZone]
    rfl
  · exact if_neg (by rw [htimer]; nofun)
  · refine (if_pos (Option.isSome_iff_ne_none.mpr htimer)).trans (congrArg (fun v : State => Host.Outcome.next v.finish) ?_)
    exact placeMessage_updZone z (ZoneState.leaveOn .dim) hreset
  · exact if_neg (by rw [hline]; nofun)
  · rcases hnone with hreset | hmask | hmode
    · exact if_pos (by rw [hreset]; rfl)
    · exact activity_none s a z (.inl ((activity_kind a _ hplace).trans hmask))
    · exact activity_none s a z (.inr hmode)
  · exact activity_on s a z hreset ((activity_kind a _ hplace).trans hmask) hmode
  · exact (activity_dim s a z hreset ((activity_kind a _ hplace).trans hmask) hmode).trans
      (placeMessage_updZone z ZoneState.turnOn hreset)

end Sys2Proof.Machine

/-! CLAIM. The answer of a POINT lookup, on both ports (O45). -/

namespace Sys2Proof.Machine

variable {s t u : State}

/-! ## The first of the highest -/

/-- Placement `x` goes before `k` for a point: a higher Z Level, or the same and no higher Region ID (R60, R171). -/
def Leads (x k : Slot × Part) : Prop := k.2.zLevel < x.2.zLevel ∨ (k.2.zLevel = x.2.zLevel ∧ x.1 ≤ k.1)

theorem topOf_first (ps : List (Slot × Part)) (t : Slot × Part) (h : (t :: ps).Pairwise fun a b => a.1 < b.1) :
    ∃ x, topOf (some t) ps = some x ∧ ∀ k ∈ t :: ps, Leads x k := by
  induction ps generalizing t with
  | nil =>
    refine ⟨t, rfl, fun k hk => ?_⟩
    rw [List.mem_singleton.mp hk]
    exact .inr ⟨rfl, le_refl _⟩
  | cons y rest ih =>
    obtain ⟨hfirst, hrest⟩ := List.pairwise_cons.mp h
    have hty : t.1 < y.1 := hfirst y (List.mem_cons_self ..)
    rw [topOf_cons]
    dsimp only
    by_cases hz : t.2.zLevel < y.2.zLevel
    · rw [if_pos hz]
      obtain ⟨x, hx, hleads⟩ := ih y hrest
      refine ⟨x, hx, fun k hk => ?_⟩
      rcases List.mem_cons.mp hk with rfl | hk
      · refine .inl (Nat.lt_of_lt_of_le hz ?_)
        rcases hleads y (List.mem_cons_self ..) with hy | hy
        · exact Nat.le_of_lt hy
        · exact Nat.le_of_eq hy.1
      · exact hleads k hk
    · rw [if_neg hz]
      obtain ⟨x, hx, hleads⟩ := ih t (List.pairwise_cons.mpr
        ⟨fun k hk => hfirst k (List.mem_cons_of_mem _ hk), (List.pairwise_cons.mp hrest).2⟩)
      refine ⟨x, hx, fun k hk => ?_⟩
      have ht := hleads t (List.mem_cons_self ..)
      rcases List.mem_cons.mp hk with rfl | hk
      · exact ht
      · rcases List.mem_cons.mp hk with rfl | hk
        · have hle : k.2.zLevel ≤ t.2.zLevel := Nat.not_lt.mp hz
          rcases ht with ht | ⟨hzt, hxt⟩
          · exact .inl (Nat.lt_of_le_of_lt hle ht)
          · rcases Nat.lt_or_eq_of_le hle with hlt | heq
            · exact .inl (hzt ▸ hlt)
            · exact .inr ⟨heq.trans hzt, le_trans hxt (le_of_lt hty)⟩
        · exact hleads k (List.mem_cons_of_mem _ hk)

/-- The choice leads all of the list (R171). -/
theorem pickTop_leads {ps : List (Slot × Part)} (h : ps.Pairwise fun a b => a.1 < b.1) {x : Slot × Part}
    (hx : pickTop ps = some x) : ∀ k ∈ ps, Leads x k := by
  cases ps with
  | nil => cases hx
  | cons y rest =>
    obtain ⟨z, hz, hleads⟩ := topOf_first rest y h
    rw [pickTop_cons, hz, Option.some_inj] at hx
    exact hx ▸ hleads

theorem leads_antisymm {x y : Slot × Part} (h : Leads x y) (h' : Leads y x) : x.1 = y.1 := by
  rcases h with h | ⟨hz, hxy⟩ <;> rcases h' with h' | ⟨hz', hyx⟩
  · omega
  · omega
  · omega
  · exact le_antisymm hxy hyx

/-! ## What stops a point -/

theorem pixelTile_eq (x y : Nat) : pixelTile x y = 128 * (y / 16) + x / 16 := congrArg (· + _) (Nat.mul_comm _ 128)

theorem pointInRange_iff (x y : Nat) : pointInRange x y = true ↔ x ≤ 2047 ∧ y ≤ 1791 := decide_eq_true_iff

/-- The zone of a point is dark (R170). -/
def State.dark (s : State) (x : Nat) : Prop :=
  (s.zoneState (s.geometry.zoneOf (x / 16))).mode = .off ∨ (s.zoneState (s.geometry.zoneOf (x / 16))).mode = .tripped

theorem pointStop_keepOut {x y : Nat}
    (h : keptOut s.keepOuts s.sampler.bendApplied (128 * (y / 16) + x / 16) = true) :
    s.pointStop x y = some .keepOut := by
  rw [State.pointStop, pixelTile_eq, if_pos h]

theorem pointStop_dark {x y : Nat}
    (h : keptOut s.keepOuts s.sampler.bendApplied (128 * (y / 16) + x / 16) = false) (hdark : s.dark x) :
    s.pointStop x y = some .zoneOff := by
  rw [State.pointStop, pixelTile_eq, if_neg (by rw [h]; nofun)]
  exact if_pos hdark

theorem pointStop_held {x y : Nat}
    (h : keptOut s.keepOuts s.sampler.bendApplied (128 * (y / 16) + x / 16) = false) (hdark : ¬ s.dark x)
    (hheld : s.heldBack (128 * (y / 16) + x / 16) = true) : s.pointStop x y = some .blank := by
  rw [State.pointStop, pixelTile_eq, if_neg (by rw [h]; nofun)]
  exact (if_neg hdark).trans (if_pos hheld)

theorem pointStop_open {x y : Nat}
    (h : keptOut s.keepOuts s.sampler.bendApplied (128 * (y / 16) + x / 16) = false) (hdark : ¬ s.dark x)
    (hheld : s.heldBack (128 * (y / 16) + x / 16) = false) : s.pointStop x y = none := by
  rw [State.pointStop, pixelTile_eq, if_neg (by rw [h]; nofun)]
  exact (if_neg hdark).trans (if_neg (by rw [hheld]; nofun))

/-! ## The records that a point may hit -/

theorem routesTouch_iff (s : State) (i : Slot) :
    s.routesTouch i = true ↔ ∃ d, (s.record i).live = some d ∧ d.attributes.touch = .route := by
  rw [State.routesTouch, Option.any_eq_true]
  exact exists_congr fun _ => and_congr_right fun _ => decide_eq_true_iff

theorem partCovers_iff (s : State) (p : Part) (x y : Nat) : s.partCovers p x y = true ↔
    p.face = s.geometry.faceAt s.engine.active.layout (x / 16)
      ∧ p.rect.contains ((s.geometry.localPixel p.face x).toNat / 16) (y / 16) = true := by
  rw [State.partCovers, Bool.and_eq_true, decide_eq_true_eq]
  rfl

theorem mem_hitCandidates {x y : Nat} {i : Slot} {p : Part} : (i, p) ∈ s.hitCandidates x y ↔
    s.isShown i = true ∧ s.routesTouch i = true ∧ s.activePart i = some p ∧ s.partCovers p x y = true := by
  rw [State.hitCandidates, List.mem_filterMap]
  constructor
  · rintro ⟨j, -, h⟩
    obtain ⟨hj, h⟩ := ite_some_iff.mp h
    rw [Bool.and_eq_true] at hj
    obtain ⟨hshown, hroutes⟩ := hj
    obtain ⟨q, hq, h⟩ := Option.bind_eq_some_iff.mp h
    obtain ⟨hcovers, h⟩ := ite_some_iff.mp h
    cases h
    exact ⟨hshown, hroutes, hq, hcovers⟩
  · rintro ⟨hshown, hroutes, hp, hcovers⟩
    exact ⟨i, mem_slotList i, ite_some_iff.mpr ⟨(Bool.and_eq_true _ _).mpr ⟨hshown, hroutes⟩,
      Option.bind_eq_some_iff.mpr ⟨p, hp, ite_some_iff.mpr ⟨hcovers, rfl⟩⟩⟩⟩

theorem hitCandidates_pairwise (s : State) (x y : Nat) :
    (s.hitCandidates x y).Pairwise fun a b => a.1 < b.1 := by
  refine List.Pairwise.filterMap _ ?_ slotList_pairwise
  intro i j hij a ha b hb
  obtain ⟨-, ha⟩ := ite_some_iff.mp ha
  obtain ⟨p, -, ha⟩ := Option.bind_eq_some_iff.mp ha
  obtain ⟨-, ha⟩ := ite_some_iff.mp ha
  obtain ⟨-, hb⟩ := ite_some_iff.mp hb
  obtain ⟨q, -, hb⟩ := Option.bind_eq_some_iff.mp hb
  obtain ⟨-, hb⟩ := ite_some_iff.mp hb
  cases ha
  cases hb
  exact hij

/-- A record that a point hits and that leads all others it may hit is the answer's (R171). -/
theorem pickTop_hit {x y : Nat} {i : Slot} {p : Part} (h : (i, p) ∈ s.hitCandidates x y)
    (hleads : ∀ k ∈ s.hitCandidates x y, Leads (i, p) k) : pickTop (s.hitCandidates x y) = some (i, p) := by
  cases hpick : pickTop (s.hitCandidates x y) with
  | none =>
    rw [pickTop_eq_none.mp hpick] at h
    cases h
  | some k =>
    obtain ⟨j, q⟩ := k
    have hmem := mem_of_pickTop hpick
    have hij : i = j :=
      leads_antisymm (hleads (j, q) hmem) (pickTop_leads (hitCandidates_pairwise s x y) hpick (i, p) h)
    subst hij
    obtain ⟨-, -, hq, -⟩ := mem_hitCandidates.mp hmem
    obtain ⟨-, -, hp, -⟩ := mem_hitCandidates.mp h
    rw [Option.some.inj (hq.symm.trans hp)]

/-! ## The answer -/

theorem pointAnswer_outside {x y : Nat} (h : 2047 < x ∨ 1791 < y) : s.pointAnswer x y = s.bareAnswer .outOfRange true :=
  if_neg (by rw [pointInRange_iff]; omega)

theorem pointAnswer_stopped {x y : Nat} {status : LookupStatus} (hx : x ≤ 2047) (hy : y ≤ 1791)
    (h : s.pointStop x y = some status) : s.pointAnswer x y = s.faceAnswer status x y := by
  rw [State.pointAnswer, if_pos ((pointInRange_iff x y).mpr ⟨hx, hy⟩), h]

theorem pointAnswer_open {x y : Nat} (hx : x ≤ 2047) (hy : y ≤ 1791) (h : s.pointStop x y = none) : s.pointAnswer x y =
    match pickTop (s.hitCandidates x y) with
    | some (i, p) => s.hitAnswer i p x y
    | none => s.faceAnswer .none x y := by
  rw [State.pointAnswer, if_pos ((pointInRange_iff x y).mpr ⟨hx, hy⟩)]
  generalize s.pointStop x y = o at h
  subst h
  rfl

theorem reportTouch_reports {a : Answer} (x : Nat) (h : a.status = .hit ∨ a.status = .none) :
    s.reportTouch a x = (s.activity .lookup (s.geometry.zoneOf (x / 16))).finish := if_pos h

theorem reportTouch_else {a : Answer} (x : Nat) (h : a.status ≠ .hit) (h' : a.status ≠ .none) : s.reportTouch a x = s :=
  if_neg fun hreports => hreports.elim h h'

theorem takePoint_out (x y : Nat) (hreset : s.inReset = false) :
    s.takePoint x y = (s.putAnswer (s.pointAnswer x y)).reportTouch (s.pointAnswer x y) x :=
  if_neg (by rw [hreset]; nofun)

theorem lookup_good (xh xl yh yl : Byte) (s : State) : Machine.lookup [xh, xl, yh, yl] s =
    reported (.answer (s.pointAnswer (be16 xh xl).toNat (be16 yh yl).toNat))
      (s.reportTouch (s.pointAnswer (be16 xh xl).toNat (be16 yh yl).toNat) (be16 xh xl).toNat) := rfl

theorem lookup_bad {ps : List Byte} (h : ps.length ≠ 4) (s : State) : Machine.lookup ps s = refused .badParam s := by
  have hnone : lookupParams ps = none := by
    unfold lookupParams
    split
    · exact absurd rfl h
    · rfl
  rw [Machine.lookup, hnone]

/-- Settles O45, by the first condition that stops the point, and by the record that leads those it hits. -/
theorem pointLookups : Obligations.PointLookups := by
  refine fun s => ⟨fun x y hreset => ⟨fun h => ?_, fun h h' => ?_⟩, fun xh xl yh yl hheld => ⟨fun h => ?_, fun h h' => ?_⟩,
    fun ps hheld hlength => decided_refused hheld (lookup_bad hlength s), fun x y =>
    ⟨pointAnswer_outside, fun hx hy => ⟨fun hkept => ?_, fun hkept hdark => ?_, fun hkept hlit hheld => ?_⟩, ?_, ?_⟩⟩
  · exact congrArg _ ((takePoint_out _ _ hreset).trans (reportTouch_reports _ h))
  · exact congrArg _ ((takePoint_out _ _ hreset).trans (reportTouch_else _ h h'))
  · refine (decided_reported hheld (lookup_good xh xl yh yl s)).trans ?_
    rw [reportTouch_reports _ h]
  · refine (decided_reported hheld (lookup_good xh xl yh yl s)).trans ?_
    rw [reportTouch_else _ h h']
  · exact pointAnswer_stopped hx hy (pointStop_keepOut hkept)
  · exact pointAnswer_stopped hx hy (pointStop_dark hkept hdark)
  · exact pointAnswer_stopped hx hy (pointStop_held hkept hlit hheld)
  · rintro ⟨hx, hy, hkept, hlit, hheld⟩ hnone
    have hempty : pickTop (s.hitCandidates x y) = none := by
      refine pickTop_eq_none.mpr (List.eq_nil_iff_forall_not_mem.mpr fun ⟨i, p⟩ hmem => ?_)
      obtain ⟨hshown, hroutes, hp, hcovers⟩ := mem_hitCandidates.mp hmem
      obtain ⟨hface, hrect⟩ := (partCovers_iff s p x y).mp hcovers
      exact hnone i p ⟨hshown, (routesTouch_iff s i).mp hroutes, hp, hface, hface ▸ hrect⟩
    refine (pointAnswer_open hx hy (pointStop_open hkept hlit hheld)).trans ?_
    rw [hempty]
    rfl
  · rintro i p d ⟨hx, hy, hkept, hlit, hheld⟩ ⟨hshown, hroutes, hp, hface, hrect⟩ hlive hleads
    have hpick : pickTop (s.hitCandidates x y) = some (i, p) := by
      refine pickTop_hit (mem_hitCandidates.mpr ⟨hshown, (routesTouch_iff s i).mpr hroutes, hp,
        (partCovers_iff s p x y).mpr ⟨hface, hface ▸ hrect⟩⟩) fun ⟨j, q⟩ hmem => ?_
      obtain ⟨hshown', hroutes', hq, hcovers⟩ := mem_hitCandidates.mp hmem
      obtain ⟨hface', hrect'⟩ := (partCovers_iff s q x y).mp hcovers
      exact hleads j q ⟨hshown', (routesTouch_iff s j).mp hroutes', hq, hface', hface' ▸ hrect'⟩
    have htoken : s.ownerToken i = d.attributes.ownerToken := by rw [State.ownerToken, hlive]
    refine (pointAnswer_open hx hy (pointStop_open hkept hlit hheld)).trans ?_
    rw [hpick]
    dsimp only
    rw [State.hitAnswer, htoken]
    rfl

end Sys2Proof.Machine

/-! CLAIM. VERIFY, and the lookup port with its bus (O46). -/

namespace Sys2Proof.Machine

variable {s t u : State}

/-! ## What a command makes of the reset inputs and of the address -/

theorem setFlag_target (s : State) (f : EventFlag) : (s.setFlag f).target = s.target := by
  rw [State.target, setFlag_pins, setFlag_lookup, State.target]

theorem target_of_beyond (h : t.beyond = s.beyond) : t.target = s.target := by
  have hpins : t.pins = s.pins := congrArg Beyond.pins h
  have hlookup : t.lookup = s.lookup := congrArg Beyond.lookup h
  rw [State.target, hpins, hlookup, State.target]

/-- An effect of a command leaves the reset inputs and the address, or changes them as the command does (R166). -/
theorem Does.target {c : Instr} (h : Does c s t) : t.target = s.target ∨ t.target = s.target.after c := by
  rcases h with h | h
  · cases h with
    | port h =>
      cases h with
      | flag f => exact .inl (setFlag_target s f)
      | write | answer => exact .inl rfl
    | link h => obtain ⟨_, _, _, _, rfl⟩ := h.writes; exact .inl rfl
    | zone h => obtain ⟨_, _, rfl⟩ := h.writes; exact .inl rfl
    | frame h => obtain ⟨_, rfl⟩ := h.writes; exact .inl rfl
    | record h => obtain ⟨_, rfl⟩ := h.writes; exact .inl rfl
    | engine h => exact .inl (target_of_beyond h.beyond)
    | transition h => obtain ⟨_, rfl⟩ := h.writes; exact .inl rfl
    | sampler h => obtain ⟨_, rfl, -⟩ := h.writes; exact .inl rfl
    | reset h =>
      cases h with
      | held hc => subst hc; exact .inr rfl
      | restarted hc hresetn =>
        subst hc
        obtain ⟨_, _, _, _, h⟩ := claimRestore_writes s.restartBlocks
        rw [h]
        exact .inr rfl
      | level level hresetn hc =>
        subst hc
        cases level <;> exact .inr rfl
      | awake hresetn hc => subst hc; exact .inr rfl
  · cases h with
    | released strap deferred hresetn hc =>
      subst hc
      exact .inr (if_pos hresetn).symm
    | _ => exact .inl rfl

theorem after_after (c : Instr) (g : Target) : (g.after c).after c = g.after c := by
  cases c with
  | resetnRelease strap =>
    by_cases h : g.resetn = true
    · have hafter : g.after (.resetnRelease strap) = { g with
          resetn := false, address := if strap then 0x3B else 0x3A } := if_pos h
      rw [hafter]
      rfl
    · have hafter : g.after (.resetnRelease strap) = g := if_neg h
      rw [hafter, hafter]
  | _ => rfl

theorem exec_target_or {c : Instr} (h : exec c s = .next t) : t.target = s.target ∨ t.target = s.target.after c :=
  (exec_settles h).chain.keeps (law := fun v => v.target = s.target ∨ v.target = s.target.after c)
    (fun v w hdoes hv => by
      rcases hdoes.target with hw | hw <;> rcases hv with hv | hv
      · exact .inl (hw.trans hv)
      · exact .inr (hw.trans hv)
      · exact .inr (hw.trans (congrArg (Target.after · c) hv))
      · exact .inr (hw.trans ((congrArg (Target.after · c) hv).trans (after_after c _)))) (.inl rfl)

theorem requestImplied_target (s : State) : s.requestImplied.target = s.target :=
  (calm_requestImplied (c := .scanStart) s).chain.keeps (law := fun v => v.target = s.target)
    (fun v w hdoes hv => by
      have hafter : v.target.after .scanStart = v.target := rfl
      rcases hdoes.target with hw | hw
      · exact hw.trans hv
      · exact (hw.trans hafter).trans hv) rfl

theorem finish_target (s : State) : s.finish.target = s.target := target_of_beyond (finish_beyond s)

theorem releaseRestart_target (h : s.pins.resetn = false) :
    s.releaseRestart.target = { s.target with drstn := false } := by
  rw [releaseRestart_eq s h]
  dsimp only
  rw [finish_target, requestImplied_target]
  split
  · exact (target_of_beyond (queueJob_beyond _ _)).trans (target_of_beyond (queueJob_beyond _ _))
  · exact target_of_beyond (queueJob_beyond _ _)

/-- The reset commands leave their input as they name it (R72, R165). -/
theorem exec_resets {c : Instr} (h : exec c s = .next t) : t.target = t.target.after c := by
  cases c with
  | resetnAssert => cases h; rfl
  | resetnRelease strap =>
    refine (if_neg ?_).symm
    change ¬ t.pins.resetn = true
    by_cases hresetn : s.pins.resetn = true
    · have hexec : exec (.resetnRelease strap) s = .next (s.releaseReset strap) := if_pos hresetn
      rw [hexec] at h
      cases h
      cases hdrstn : s.pins.drstn with
      | true =>
        rw [releaseReset_drstn s strap hdrstn, finish_pins]
        nofun
      | false =>
        rw [releaseReset_eq s strap hdrstn, finish_pins, queueJob_pins]
        nofun
    · have hexec : exec (.resetnRelease strap) s = .next s := if_neg hresetn
      rw [hexec] at h
      cases h
      exact hresetn
  | drstnAssert =>
    have hdrstn : t.pins.drstn = true := by
      by_cases hdrstn : s.pins.drstn = true
      · have hexec : exec .drstnAssert s = .next s := if_pos hdrstn
        rw [hexec] at h
        cases h
        exact hdrstn
      · by_cases hresetn : s.pins.resetn = true
        · have hexec : exec .drstnAssert s = .next { s with pins := { s.pins with drstn := true } } :=
            (if_neg hdrstn).trans (if_pos hresetn)
          rw [hexec] at h
          cases h
          rfl
        · have hexec : exec .drstnAssert s = .next s.restartBlocks.claimRestore :=
            (if_neg hdrstn).trans (if_neg hresetn)
          rw [hexec] at h
          cases h
          obtain ⟨_, _, _, _, hclaims⟩ := claimRestore_writes s.restartBlocks
          rw [hclaims]
          rfl
    rw [Target.after, State.target, hdrstn]
  | drstnRelease =>
    have hdrstn : t.pins.drstn = false := by
      by_cases hdrstn : s.pins.drstn = true
      · by_cases hresetn : s.pins.resetn = true
        · have hexec : exec .drstnRelease s = .next { s with pins := { s.pins with drstn := false } } :=
            (if_pos hdrstn).trans (if_pos hresetn)
          rw [hexec] at h
          cases h
          rfl
        · have hexec : exec .drstnRelease s = .next s.releaseRestart := (if_pos hdrstn).trans (if_neg hresetn)
          rw [hexec] at h
          cases h
          exact congrArg Target.drstn (releaseRestart_target (Bool.eq_false_iff.mpr hresetn))
      · have hexec : exec .drstnRelease s = .next s := if_neg hdrstn
        rw [hexec] at h
        cases h
        exact Bool.eq_false_iff.mpr hdrstn
    rw [Target.after, State.target, hdrstn]
  | _ => rfl

theorem exec_target {c : Instr} (h : exec c s = .next t) : t.target = s.target.after c := by
  rcases exec_target_or h with ht | ht
  · rw [← ht]
    exact exec_resets h
  · exact ht

/-- What the port acknowledges stands while the commands that wait are taken (R166). -/
theorem step_acknowledges {c : Instr} {rest : List Instr} (address : BitVec 7) (hpending : s.pending = c :: rest)
    (h : step s = .next t) : s.acknowledges address = t.acknowledges address := by
  have hexec : exec c { s with pending := rest } = .next t := by
    rw [step, hpending] at h
    exact h
  have htarget : t.target = s.target.after c := exec_target (s := { s with pending := rest }) hexec
  have hrest : t.pending = rest := exec_pending hexec
  rw [State.acknowledges, State.acknowledges, hpending, hrest, htarget, List.foldl_cons]

/-! ## VERIFY -/

theorem verify_good (r g xh xl yh yl : Byte) (s : State) : Machine.verify [r, g, xh, xl, yh, yl] s =
    reported (.answer (s.verifyAnswer r.toNat g (be16 xh xl).toNat (be16 yh yl).toNat)) s := rfl

theorem verify_bad {ps : List Byte} (h : ps.length ≠ 6) (s : State) : Machine.verify ps s = refused .badParam s := by
  have hnone : verifyParams ps = none := by
    unfold verifyParams
    split
    · exact absurd rfl h
    · rfl
  rw [Machine.verify, hnone]

theorem verifyAnswer_outside {r : Nat} {g : BitVec 8} {x y : Nat} (h : r = 0 ∨ 32 < r ∨ 2047 < x ∨ 1791 < y) :
    s.verifyAnswer r g x y = s.bareAnswer .outOfRange false := by
  rw [State.verifyAnswer]
  cases hslot : slotOf r with
  | none => rfl
  | some i =>
    refine if_neg ?_
    rw [pointInRange_iff]
    rcases h with h | h | h
    · rw [slotOf_outside (.inl h)] at hslot
      cases hslot
    · rw [slotOf_outside (.inr h)] at hslot
      cases hslot
    · omega

theorem verifyAnswer_inside {i : Slot} {g : BitVec 8} {x y : Nat} (hx : x ≤ 2047) (hy : y ≤ 1791) :
    s.verifyAnswer (i.val + 1) g x y = match s.activePart i with
      | some p =>
        if (s.record i).generation = g ∧ s.isShown i then
          s.relativeAnswer ((s.pointStop x y).getD .current) i p x y
        else s.goneAnswer i
      | none => s.goneAnswer i := by
  rw [State.verifyAnswer, slotOf_id rfl]
  exact if_pos ((pointInRange_iff x y).mpr ⟨hx, hy⟩)

theorem verifyAnswer_gone {i : Slot} {g : BitVec 8} {x y : Nat} (hx : x ≤ 2047) (hy : y ≤ 1791)
    (h : g ≠ (s.record i).generation ∨ s.isShown i = false) : s.verifyAnswer (i.val + 1) g x y = s.goneAnswer i := by
  refine (verifyAnswer_inside hx hy).trans ?_
  cases s.activePart i with
  | none => rfl
  | some p =>
    refine if_neg fun ⟨hg, hshown⟩ => ?_
    rcases h with h | h
    · exact h hg.symm
    · rw [h] at hshown
      cases hshown

theorem verifyAnswer_found {i : Slot} {p : Part} {x y : Nat} (hx : x ≤ 2047) (hy : y ≤ 1791)
    (hshown : s.isShown i = true) (hp : s.activePart i = some p) :
    s.verifyAnswer (i.val + 1) (s.record i).generation x y =
      s.relativeAnswer ((s.pointStop x y).getD .current) i p x y := by
  refine (verifyAnswer_inside hx hy).trans ?_
  rw [hp]
  exact if_pos ⟨rfl, hshown⟩

/-- The status of a VERIFY that finds its record, by the first condition that stops the point (R174). -/
theorem pointStop_getD (s : State) (x y : Nat) : (s.pointStop x y).getD .current =
    if keptOut s.keepOuts s.sampler.bendApplied (128 * (y / 16) + x / 16) = true then .keepOut
    else if (s.zoneState (s.geometry.zoneOf (x / 16))).mode = .off
        ∨ (s.zoneState (s.geometry.zoneOf (x / 16))).mode = .tripped then .zoneOff
    else if s.heldBack (128 * (y / 16) + x / 16) = true then .blank
    else .current := by
  rw [State.pointStop, pixelTile_eq]
  split
  · rfl
  · by_cases hdark : s.dark x
    · exact (congrArg (Option.getD · _) (if_pos hdark)).trans (if_pos hdark).symm
    · refine (congrArg (Option.getD · _) (if_neg hdark)).trans (Eq.trans ?_ (if_neg hdark).symm)
      split <;> rfl

/-! ## The answer buffer -/

theorem takeVerify_out (r : Nat) (g : BitVec 8) (x y : Nat) (hreset : s.inReset = false) :
    s.takeVerify r g x y = s.putAnswer (s.verifyAnswer r g x y) := if_neg (by rw [hreset]; nofun)

theorem exec_rejectedWrite {bytes : List Byte} (hreset : s.inReset = false) (hbytes : bytes ≠ []) :
    exec (.rejectedWrite bytes) s = match parseLookup bytes with
      | some (.point x y) => .next (s.takePoint x.toNat y.toNat)
      | some (.verify r g x y) => .next (s.takeVerify r.toNat g x.toNat y.toNat)
      | none => .next (s.putAnswer (Answer.zero .rejected)) := by
  refine if_neg ?_
  rw [hreset, List.isEmpty_iff]
  exact fun h => h.elim nofun hbytes

theorem exec_rejectedWrite_nothing {bytes : List Byte} (h : s.inReset = true ∨ bytes = []) :
    exec (.rejectedWrite bytes) s = .next s := if_pos (h.imp_right List.isEmpty_iff.mpr)

theorem parseLookup_ne_nil {bytes : List Byte} {l : LookupRequest} (h : parseLookup bytes = some l) : bytes ≠ [] := by
  rintro rfl
  cases h

theorem exec_answerRead (hreset : s.inReset = false) : exec .answerRead s = .next { s with lookup := { s.lookup with
    answer := none, returned := some (s.lookup.answer.getD (Answer.zero .empty)) } } :=
  if_neg (by rw [hreset]; nofun)

/-- The bytes of an answer read, and 00H beyond the 12 of its frame (R167). -/
theorem returnedByte_of {unit : LookupUnit} {a : Answer} (h : unit.returned = some a) (k : Nat) :
    unit.returnedByte k = some (a.frame.getD k 0x00) ∧ (12 ≤ k → unit.returnedByte k = some 0x00) := by
  have hbyte : unit.returnedByte k = some (a.frame.getD k 0x00) := by
    rw [LookupUnit.returnedByte, h]
    rfl
  refine ⟨hbyte, fun hk => hbyte.trans ?_⟩
  rw [List.getD_eq_default _ _ (by rw [answerFrame_length]; exact hk)]

/-! ## The bus -/

/-- What the port does not acknowledge gives no command (R166). -/
theorem bus_silent {address : BitVec 7} (during : List Instr) (bytes : List Byte) (h : s.acknowledges address = false) :
    s.lookupWrite address during bytes = { s with pending := s.pending ++ during }
      ∧ s.lookupRead address during = { s with pending := s.pending ++ during }
      ∧ ∀ late, s.lookupWriteRead address during late bytes =
        State.lookupRead address late { s with pending := s.pending ++ during } := by
  refine ⟨lookupWrite_unacknowledged _ _ _ _ h, lookupRead_unacknowledged _ _ _ h, fun late => ?_⟩
  rw [State.lookupWriteRead, if_neg (by rw [h, Bool.false_and]; nofun), lookupWrite_unacknowledged _ _ _ _ h]

/-- What a reset input cuts off gives no command (R166; log entry 28). -/
theorem bus_abandoned {address : BitVec 7} {during : List Instr} (bytes : List Byte) (h : s.acknowledges address = true)
    (hreset : Instr.resetnAssert ∈ during ∨ Instr.drstnAssert ∈ during) :
    s.lookupWrite address during bytes = { s with pending := s.pending ++ during }
      ∧ s.lookupRead address during = { s with pending := s.pending ++ during }
      ∧ ∀ late, s.lookupWriteRead address during late bytes = { s with pending := s.pending ++ during ++ late } := by
  refine ⟨?_, ?_, fun late => lookupWriteRead_abandoned _ _ _ _ _ h ((any_assertsReset during).mpr hreset)⟩
  · rw [lookupWrite_acknowledged _ _ _ _ h, transaction_abandoned _ _ _ _ (by rwa [List.append_nil]), List.append_nil]
  · rw [lookupRead_acknowledged _ _ _ h, transaction_abandoned _ _ _ _ (by rwa [List.nil_append]), List.nil_append]

/-- What no reset input cuts off gives its commands, in their order (R166). -/
theorem bus_served {address : BitVec 7} {during : List Instr} (bytes : List Byte) (h : s.acknowledges address = true)
    (hresetn : Instr.resetnAssert ∉ during) (hdrstn : Instr.drstnAssert ∉ during) :
    s.lookupWrite address during bytes = { s with pending := s.pending ++ during ++ [writeCommand bytes] }
      ∧ s.lookupRead address during = { s with pending := s.pending ++ [.answerRead] ++ during }
      ∧ ∀ late : List Instr,
        ((Instr.resetnAssert ∈ late ∨ Instr.drstnAssert ∈ late) → s.lookupWriteRead address during late bytes =
          { s with pending := s.pending ++ during ++ [writeCommand bytes] ++ late })
        ∧ (Instr.resetnAssert ∉ late → Instr.drstnAssert ∉ late → s.lookupWriteRead address during late bytes =
          { s with pending := s.pending ++ during ++ [writeCommand bytes, .answerRead] ++ late }) := by
  have hnone : during.any Instr.assertsReset = false :=
    Bool.eq_false_iff.mpr fun e => ((any_assertsReset _).mp e).elim hresetn hdrstn
  refine ⟨?_, ?_, fun late => ⟨fun hlate => ?_, fun hlate hlate' => ?_⟩⟩
  · rw [lookupWrite_acknowledged _ _ _ _ h, transaction_ends _ _ _ _ (by rwa [List.append_nil])
      (by rwa [List.append_nil]), List.append_nil, Option.toList_some]
  · rw [lookupRead_acknowledged _ _ _ h, transaction_ends _ _ _ _ (by rwa [List.nil_append])
      (by rwa [List.nil_append]), List.append_nil, Option.toList_some]
  · rw [lookupWriteRead_served _ _ _ _ _ h hnone, transaction_abandoned _ _ _ _ (by rwa [List.nil_append]),
      List.nil_append]
  · rw [lookupWriteRead_served _ _ _ _ _ h hnone, transaction_ends _ _ _ _ (by rwa [List.nil_append])
      (by rwa [List.nil_append]), List.append_nil, Option.toList_some, List.append_assoc (s.pending ++ during)]
    rfl

/-- Settles O46: the answer by the record named and the point; the buffer; the bus. -/
theorem verifyAndLookupPort : Obligations.VerifyAndLookupPort := by
  refine ⟨fun s => ⟨fun r g x y hreset => congrArg _ (takeVerify_out _ _ _ _ hreset),
    fun r g xh xl yh yl hheld => decided_reported hheld (verify_good r g xh xl yh yl s),
    fun ps hheld hlength => decided_refused hheld (verify_bad hlength s), fun r g x y =>
    ⟨verifyAnswer_outside, fun i hr hx hy => ⟨fun hgone => ?_, fun p d hg hshown hp hlive => ?_⟩⟩⟩,
    fun s => ⟨fun bytes hreset => ⟨fun hbytes hparse => ?_, fun x y hparse => ?_, fun r g x y hparse => ?_⟩,
      exec_rejectedWrite_nothing (.inr rfl), fun hreset => ⟨fun a ha => ?_, fun ha => ?_⟩,
      fun hreset => ⟨if_pos hreset, fun bytes => exec_rejectedWrite_nothing (.inl hreset),
        fun x y => congrArg _ (if_pos hreset), fun r g x y => congrArg _ (if_pos hreset)⟩,
      fun a k ha => returnedByte_of ha k, fun x y => ?_, fun r g x y => ?_, fun bytes hparse => ?_,
      fun address => acknowledges_now address s, fun address c rest t => step_acknowledges address,
      fun address during bytes => ⟨bus_silent during bytes, fun h => ⟨bus_abandoned bytes h, bus_served bytes h⟩⟩⟩⟩
  · subst hr
    exact verifyAnswer_gone hx hy hgone
  · subst hr hg
    have htoken : s.ownerToken i = d.attributes.ownerToken := by rw [State.ownerToken, hlive]
    have hface : s.partCovers p x y = (decide (p.face = s.geometry.faceAt s.engine.active.layout (x / 16))
        && p.rect.contains ((s.geometry.localPixel p.face x).toNat / 16) (y / 16)) := rfl
    rw [verifyAnswer_found hx hy hshown hp, pointStop_getD, State.relativeAnswer, State.hitAnswer, htoken, hface]
    rfl
  · rw [exec_rejectedWrite hreset hbytes, hparse]
    rfl
  · rw [exec_rejectedWrite hreset (parseLookup_ne_nil hparse), hparse]
    rfl
  · rw [exec_rejectedWrite hreset (parseLookup_ne_nil hparse), hparse]
    rfl
  · rw [exec_answerRead hreset, ha]
    rfl
  · rw [exec_answerRead hreset, ha]
    exact congrArg (fun o : Option Answer => Host.Outcome.next (φ := Fault) (ρ := Refusal) ({ s with
      lookup := { s.lookup with answer := o, returned := some (Answer.zero .empty) } } : State)) ha.symm
  · rw [writeCommand, parseLookup_bytes]
  · rw [writeCommand, parseLookup_bytes]
  · rw [writeCommand, hparse]

end Sys2Proof.Machine


/-! CLAIM. The laws that every step keeps hold in the state right after reset. -/

namespace Sys2Proof.Machine

/-! ## What stands right after reset -/

theorem reset_record (i : Slot) : State.reset.record i = Record.free 0 := Vec.tabulate_get _ i

theorem reset_stream (n : Fin 8) : (State.reset.router.streams[n]).frame = none := reset_streams n

theorem reset_owner (t : Nat) : State.reset.engine.active.owner t = none := Map.empty_owner .folded t

theorem reset_changed (t : Nat) : State.reset.engine.active.changed t = false := Map.empty_changed .folded t

theorem reset_panel (t : Nat) : State.reset.panel.read t = none := rfl

/-! ## Law by law -/

/-- Right after reset the link carries a zone message: no tile is in flight. -/
theorem reset_linkProtected : State.reset.LinkProtected := fun _ h => nomatch h

theorem reset_streamsBlanked : State.reset.StreamsBlanked := by
  refine ⟨fun _ h => (nomatch h), fun _ h => (nomatch h), fun _ h => (nomatch h), fun w hw => ?_⟩
  obtain rfl := Option.some.inj hw
  exact nofun

theorem reset_canonical : State.reset.Canonical := ⟨by decide, by decide, trivial⟩

theorem reset_recordsLawful : State.reset.RecordsLawful := fun i => by
  rw [reset_record]
  exact rfl

theorem reset_placementsFit : State.reset.PlacementsFit := fun i h => by
  rw [reset_record] at h
  rcases h with h | h <;> exact nomatch h

theorem reset_ownedCounted : State.reset.OwnedCounted := fun i h => by
  rw [reset_record] at h
  exact nomatch h

theorem reset_ownersShown : State.reset.OwnersShown := fun t i h => by
  rw [reset_owner] at h
  exact nomatch h

theorem reset_snapshotStands : State.reset.SnapshotStands := fun i => by
  rw [reset_record]
  rfl

theorem reset_epochsNear : State.reset.EpochsNear :=
  ⟨fun n _ h => (nomatch (reset_stream n).symm.trans h), fun _ _ h => (nomatch h)⟩

theorem reset_framesLawful : State.reset.FramesLawful :=
  ⟨fun n _ h => (nomatch (reset_stream n).symm.trans h), fun _ h => (nomatch h)⟩

theorem reset_samplerLawful : State.reset.SamplerLawful := by
  refine ⟨by decide, by decide, by decide, by decide, by decide⟩

theorem reset_transitionFields : State.reset.TransitionFields :=
  ⟨by decide, by decide, by decide, by decide, by decide, by decide, by decide, by decide, by decide⟩

theorem reset_engineAgrees : State.reset.EngineAgrees := ⟨nofun, by decide, by decide, by decide⟩

theorem zoneReset_lawful (mode : ZoneMode) : (ZoneState.reset mode).Lawful :=
  ⟨Nat.zero_le 255, Nat.zero_le 255, by simp [ZoneState.reset], nofun⟩

theorem reset_zonesLawful : State.reset.ZonesLawful := fun z => by
  cases z with
  | rear => exact ⟨zoneReset_lawful .off, by decide, by decide⟩
  | spine => exact ⟨zoneReset_lawful .on, by decide, by decide⟩
  | front => exact ⟨zoneReset_lawful .on, by decide, by decide⟩

/-- Settles O59: each law on the fields that the reset leaves, and the tiles of the empty map and panel. -/
theorem lawsHoldAtReset : Obligations.LawsHoldAtReset :=
  ⟨reset_linkProtected, reset_streamsBlanked, reset_canonical, Nat.zero_le 8, List.nodup_nil, .inl rfl,
    reset_recordsLawful, reset_placementsFit, reset_ownedCounted, reset_ownersShown, reset_snapshotStands,
    reset_epochsNear, reset_framesLawful, rfl, reset_samplerLawful, reset_transitionFields, reset_engineAgrees,
    reset_zonesLawful, by decide, fun t => ⟨reset_owner t, reset_changed t, reset_panel t⟩⟩

end Sys2Proof.Machine


/-! CLAIM. EVENT CLEAR and EVENT MASK, NOTIFY, and that no command but EVENT CLEAR and the resets clears an event flag,
nor any sets one while a reset input is asserted (O6). -/

namespace Sys2Proof.Machine

variable {s t u : State}

/-! ## Work that only sets flags -/

/-- From s to t flags may have been set, but none while a reset input is asserted. -/
structure FlagsGrow (s t : State) : Prop where
  inReset : t.inReset = s.inReset
  grow : ∀ f, s.flag f = true → t.flag f = true
  held : s.inReset = true → t.port.flags = s.port.flags

theorem FlagsGrow.of_port (hport : t.port.flags = s.port.flags) (hreset : t.inReset = s.inReset) : FlagsGrow s t :=
  ⟨hreset, fun f h => by rw [State.flag, hport]; exact h, fun _ => hport⟩

theorem FlagsGrow.refl (s : State) : FlagsGrow s s := .of_port rfl rfl

theorem FlagsGrow.trans (h : FlagsGrow s t) (h' : FlagsGrow t u) : FlagsGrow s u where
  inReset := h'.inReset.trans h.inReset
  grow f hf := h'.grow f (h.grow f hf)
  held hreset := (h'.held (h.inReset.trans hreset)).trans (h.held hreset)

/-- Flags that only grow keep, in reset, a flag that is not set so. -/
theorem FlagsGrow.unset {f : EventFlag} (h : FlagsGrow s t) (hs : s.inReset = true → s.flag f = false)
    (ht : t.inReset = true) : t.flag f = false := by
  have hreset := h.inReset.symm.trans ht
  rw [State.flag, h.held hreset]
  exact hs hreset

theorem flagsGrow_setFlag (s : State) (f : EventFlag) : FlagsGrow s (s.setFlag f) where
  inReset := by rw [State.inReset, setFlag_pins, State.inReset]
  grow g := flag_setFlag_of f g
  held hreset := by rw [setFlag_of_inReset s f hreset]

theorem flagsGrow_takeClaim (s : State) : FlagsGrow s s.takeClaim := by
  rcases takeClaim_cases s with ⟨he, -⟩ | ⟨-, -, he⟩ | ⟨l, -, -, -, he⟩ | ⟨-, -, -, he⟩ | ⟨-, -, -, he⟩ <;> rw [he]
  · exact .refl s
  · exact .of_port rfl rfl
  · exact .of_port rfl rfl
  · exact .of_port rfl rfl
  · exact .trans (t := s.updClaims fun c => { c with commitLatch := false }) (.of_port rfl rfl)
      (flagsGrow_setFlag _ .commitDone)

theorem flagsGrow_enterIdle (s : State) : FlagsGrow s s.enterIdle :=
  .trans (t := { s with engine := { s.engine with phase := .idle } }) (.of_port rfl rfl) (flagsGrow_takeClaim _)

theorem flagsGrow_abandonTarget (s : State) : FlagsGrow s s.abandonTarget := by
  have dropped : FlagsGrow s (s.updClaims fun c => { c with target := none }) := .of_port rfl rfl
  have idle : FlagsGrow s (s.updClaims fun c => { c with target := none }).settleAbandoned.enterIdle :=
    .trans (t := (s.updClaims fun c => { c with target := none }).settleAbandoned) (.of_port rfl rfl)
      (flagsGrow_enterIdle _)
  unfold State.abandonTarget
  dsimp only
  split
  · split
    · exact idle
    · exact dropped
  · split
    · exact idle
    · exact dropped
  · exact dropped
  · exact dropped

/-! ## The swap -/

/-- A swap up to its flag: the job in progress, the records, the banks, the Showing and the jobs (R65 to R67). -/
def State.queued (b : Build) (m : Map) (s : State) : State :=
  (((s.requeueJob.settleRecords b).exchange m).giveShowing b m).queueSwapJobs (fun i => (s.record i).inBuild) m

theorem swapped_eq (s : State) (b : Build) (m : Map) : s.swapped b m =
    if b.kind = .target then ((s.queued b m).swapFlag b).enterSettling else (s.queued b m).swapFlag b := rfl

theorem queued_writes (s : State) (b : Build) (m : Map) : ∃ slots staleCounts fillWaiting queue job,
    s.queued b m = { s with
      table := { s.table with slots }
      engine := { s.engine with epoch := s.engine.epoch + 1, active := m, phase := .draining s.engine.active s.engine.epoch }
      router := { s.router with staleCounts }, link := { s.link with fillWaiting }
      fill := { s.fill with queue, job } } := by
  obtain ⟨queue, job, waiting, hrequeue, -, -⟩ := requeueJob_writes s
  obtain ⟨slots, queue', job', waiting', counts, hsettle, -, -⟩ := settleRecords_writes s.requeueJob b
  obtain ⟨queue'', hjobs, -⟩ := queueSwapJobs_writes (((s.requeueJob.settleRecords b).exchange m).giveShowing b m)
    (fun i => (s.record i).inBuild) m
  rw [hrequeue] at hsettle
  rw [hrequeue, hsettle] at hjobs
  rw [State.queued, hrequeue, hsettle, hjobs]
  exact ⟨_, _, waiting', queue'', job', rfl⟩

theorem flagsGrow_queued (s : State) (b : Build) (m : Map) : FlagsGrow s (s.queued b m) := by
  obtain ⟨_, _, _, _, _, h⟩ := queued_writes s b m
  rw [h]
  exact .of_port rfl rfl

theorem flagsGrow_swapFlag (s : State) (b : Build) : FlagsGrow s (s.swapFlag b) := by
  unfold State.swapFlag
  split
  · exact flagsGrow_setFlag s _
  · split
    · exact flagsGrow_setFlag s _
    · exact .refl s
  · split
    · exact flagsGrow_setFlag s _
    · exact .refl s

theorem flagsGrow_enterSettling (s : State) : FlagsGrow s s.enterSettling := by
  obtain ⟨slots, h⟩ := foldl_applyTable_writes s
  have applied : FlagsGrow s (zoneList.foldl (fun u z => u.applyTable u.activeLayout z) s) := by
    rw [h]
    exact .of_port rfl rfl
  unfold State.enterSettling
  dsimp only
  split
  · exact (applied.trans (flagsGrow_setFlag _ .commitDone)).trans (.of_port rfl rfl)
  · exact applied.trans (.of_port rfl rfl)

theorem flagsGrow_swapped (s : State) (b : Build) (m : Map) : FlagsGrow s (s.swapped b m) := by
  have flagged := (flagsGrow_queued s b m).trans (flagsGrow_swapFlag _ b)
  rw [swapped_eq]
  split
  · exact flagged.trans (flagsGrow_enterSettling _)
  · exact flagged

/-! ## Every effect -/

theorem EngineEffect.flagsGrow (h : EngineEffect s t) : FlagsGrow s t := by
  cases h with
  | latched | conflict | commitBuild | ready | blanked => exact .of_port rfl rfl
  | raised =>
    refine .trans (t := (s.updTransition fun t => { t with state := .building, prepareTimer := none }).updClaims
      fun c => { c with target := s.transition.target }) (.of_port rfl rfl) (flagsGrow_takeClaim _)
  | drained => exact flagsGrow_enterIdle s
  | failed => exact .trans (t := s.settleAbandoned) (.of_port rfl rfl) (flagsGrow_enterIdle _)
  | swapped b m => exact flagsGrow_swapped s b m
  | cancelled => exact (flagsGrow_abandonTarget s).trans (.of_port rfl rfl)

/-- What no command but EVENT CLEAR and the resets do: the flags only grow (R182, R185). -/
theorem Calm.flagsGrow {c : Instr} (h : Calm c s t) (hclear : c ≠ .eventClear) : FlagsGrow s t ∨ ResetEffect c s t := by
  cases h with
  | port h =>
    cases h with
    | write p free hflags => exact .inl (.of_port (hflags.resolve_right hclear) rfl)
    | flag f => exact .inl (flagsGrow_setFlag s f)
    | answer => exact .inl (.of_port rfl rfl)
  | link h => obtain ⟨_, _, _, _, rfl⟩ := h.writes; exact .inl (.of_port rfl rfl)
  | zone h => obtain ⟨_, _, rfl⟩ := h.writes; exact .inl (.of_port rfl rfl)
  | frame h => obtain ⟨_, rfl⟩ := h.writes; exact .inl (.of_port rfl rfl)
  | record h => obtain ⟨_, rfl⟩ := h.writes; exact .inl (.of_port rfl rfl)
  | engine h => exact .inl h.flagsGrow
  | transition h => obtain ⟨_, rfl⟩ := h.writes; exact .inl (.of_port rfl rfl)
  | sampler h => obtain ⟨_, rfl, -⟩ := h.writes; exact .inl (.of_port rfl rfl)
  | reset h => exact .inr h

theorem claimRestore_flagsGrow (s : State) : FlagsGrow s s.claimRestore := by
  unfold State.claimRestore
  split
  · exact .trans (t := s.updClaims fun c => { c with restore := true }) (.of_port rfl rfl) (flagsGrow_takeClaim _)
  · exact .refl s

/-- A flag that is set stays set but for EVENT CLEAR and the assertion of a reset input (R182, R185). -/
theorem Does.grow {c : Instr} {f : EventFlag} (h : Does c s t) (hclear : c ≠ .eventClear) (hresetn : c ≠ .resetnAssert)
    (hdrstn : c ≠ .drstnAssert) (hs : s.flag f = true) : t.flag f = true := by
  rcases h with h | h
  · rcases h.flagsGrow hclear with h | h
    · exact h.grow f hs
    · cases h with
      | held hc => exact absurd hc hresetn
      | restarted hc => exact absurd hc hdrstn
      | level | awake => exact hs
  · cases h <;> exact hs

/-- No flag is set while a reset input is asserted (R185). -/
theorem Does.unset {c : Instr} {f : EventFlag} (h : Does c s t) (hclear : c ≠ .eventClear)
    (hs : s.inReset = true → s.flag f = false) : t.inReset = true → t.flag f = false := by
  intro ht
  have cleared : State.flag f { s with port := Port.reset } = false := BitVec.getLsbD_zero
  rcases h with h | h
  · rcases h.flagsGrow hclear with h | h
    · exact h.unset hs ht
    · cases h with
      | held => exact cleared
      | restarted hc =>
        refine (claimRestore_flagsGrow s.restartBlocks).unset (fun _ => ?_) ht
        exact cleared
      | level level hresetn =>
        refine hs ?_
        rw [State.inReset, hresetn, Bool.true_or]
      | awake hresetn =>
        change (s.pins.resetn || false) = true at ht
        rw [hresetn] at ht
        exact nomatch ht
  · cases h with
    | released strap deferred hresetn =>
      refine hs ?_
      rw [State.inReset, hresetn, Bool.true_or]
    | geometry | keepOuts | sample | tripped => exact hs ht

/-! ## The two requests -/

theorem placesField_some {hi lo : Byte} (h : (be16 hi lo).toNat < 16384) :
    placesField hi lo = some ((be16 hi lo).truncate 14) := if_pos h

theorem placesField_none {hi lo : Byte} (h : 16384 ≤ (be16 hi lo).toNat) : placesField hi lo = none :=
  if_neg (Nat.not_lt.mpr h)

theorem eventClear_good {hi lo : Byte} (h : (be16 hi lo).toNat < 16384) (s : State) : Machine.eventClear [hi, lo] s =
    answered (s.updPort fun p => { p with flags := p.flags &&& ~~~((be16 hi lo).truncate 14) }) := by
  rw [Machine.eventClear, placesField_some h]

theorem eventClear_bad {ps : List Byte} (h : ∀ hi lo : Byte, ps = [hi, lo] → 16384 ≤ (be16 hi lo).toNat) (s : State) :
    Machine.eventClear ps s = refused .badParam s := by
  unfold Machine.eventClear
  split
  next hi lo => rw [placesField_none (h hi lo rfl)]
  next => rfl

theorem eventMask_good {hi lo : Byte} (h : (be16 hi lo).toNat < 16384) (s : State) : Machine.eventMask [hi, lo] s =
    answered (s.updPort fun p => { p with mask := (be16 hi lo).truncate 14 }) := by
  rw [Machine.eventMask, placesField_some h]

theorem eventMask_bad {ps : List Byte} (h : ∀ hi lo : Byte, ps = [hi, lo] → 16384 ≤ (be16 hi lo).toNat) (s : State) :
    Machine.eventMask ps s = refused .badParam s := by
  unfold Machine.eventMask
  split
  next hi lo => rw [placesField_none (h hi lo rfl)]
  next => rfl

/-- EVENT CLEAR sets no flag, in whatever state (R182). -/
theorem exec_eventClear_unset {f : EventFlag} (h : exec .eventClear s = .next t) (hs : s.flag f = false) :
    t.flag f = false := by
  change decideRequest 0x02 Machine.eventClear s = .next t at h
  by_cases hheld : ∃ ps, s.Holds 0x02 ps
  · obtain ⟨ps, hps⟩ := hheld
    by_cases hgood : ∃ hi lo, ps = [hi, lo] ∧ (be16 hi lo).toNat < 16384
    · obtain ⟨hi, lo, rfl, hlt⟩ := hgood
      rw [decided_answered hps (eventClear_good hlt s)] at h
      cases h
      change (s.port.flags &&& ~~~((be16 hi lo).truncate 14)).getLsbD f.place = false
      rw [BitVec.getLsbD_and, show s.port.flags.getLsbD f.place = false from hs, Bool.false_and]
    · rw [decided_refused hps (eventClear_bad (fun hi lo he => Nat.not_lt.mp fun hlt => hgood ⟨hi, lo, he, hlt⟩) s)] at h
      cases h
      exact hs
  · rw [decideRequest_else fun ps hps => hheld ⟨ps, hps⟩] at h
    cases h
    exact hs

/-! ## NOTIFY -/

/-- Each of the fourteen places is a flag's (R186). -/
theorem exists_place {n : Nat} (h : n < 14) : ∃ f : EventFlag, f.place = n := by
  have all : ∀ n : Fin 14, ∃ f ∈ [EventFlag.transitionStarted, .transitionDone, .transitionCancelled, .prepareExpired,
      .commitDone, .commitFailed, .conflictSuppressed, .regionStale, .streamAborted, .zoneTripped, .postureChanged,
      .sensorLost, .scanSubstituted, .portOverrun], f.place = n := by decide
  obtain ⟨f, -, hf⟩ := all ⟨n, h⟩
  exact ⟨f, hf⟩

theorem notify_iff (s : State) :
    s.notify = true ↔ ∃ f : EventFlag, s.flag f = true ∧ s.port.mask.getLsbD f.place = true := by
  rw [State.notify, decide_eq_true_iff]
  constructor
  · intro h
    by_contra hnone
    refine h (BitVec.eq_of_getLsbD_eq fun n hn => ?_)
    obtain ⟨f, rfl⟩ := exists_place hn
    refine (BitVec.getLsbD_and).trans (((Bool.and_eq_false_iff).mpr ?_).trans BitVec.getLsbD_zero.symm)
    by_contra hboth
    rw [not_or, Bool.not_eq_false, Bool.not_eq_false] at hboth
    exact hnone ⟨f, hboth⟩
  · rintro ⟨f, hflag, hmask⟩ h
    have hbit : (s.port.flags &&& s.port.mask).getLsbD f.place = false := by
      rw [h]
      exact BitVec.getLsbD_zero
    rw [BitVec.getLsbD_and, hmask, Bool.and_true] at hbit
    exact nomatch hflag.symm.trans hbit

/-- Settles O6: the two requests by their field; the flags along every chain of effects. -/
theorem eventFlags : Obligations.EventFlags := by
  refine ⟨⟨fun s => ⟨fun hi lo hlt => ⟨fun hheld => ?_, fun hheld => ?_⟩, fun ps hbad => ⟨fun hheld => ?_, fun hheld => ?_⟩⟩,
    notify_iff⟩, fun c s t f h => ⟨fun hs ht => ?_, fun ht hs => ?_⟩⟩
  · exact decided_answered hheld (eventClear_good hlt s)
  · exact decided_answered hheld (eventMask_good hlt s)
  · exact decided_refused hheld (eventClear_bad hbad s)
  · exact decided_refused hheld (eventMask_bad hbad s)
  · by_contra hother
    rw [not_or, not_or] at hother
    obtain ⟨hclear, hresetn, hdrstn⟩ := hother
    have kept : t.flag f = true := (exec_settles h).chain.keeps (law := fun v => v.flag f = true)
      (fun v w hdoes hv => hdoes.grow hclear hresetn hdrstn hv) hs
    exact nomatch kept.symm.trans ht
  · by_cases hclear : c = .eventClear
    · subst hclear
      exact exec_eventClear_unset h hs
    · exact (exec_settles h).chain.keeps (law := fun v => v.inReset = true → v.flag f = false)
        (fun v w hdoes hv => hdoes.unset hclear hv) (fun _ => hs) ht

end Sys2Proof.Machine


/-! CLAIM. The assertion of RESETN and its release (O48). -/

namespace Sys2Proof.Machine

variable {s t u : State}

/-! ## The part while RESETN is asserted -/

/-- From t to u only the levels of the inputs and what a transaction returned have changed, and RESETN is asserted. -/
def StaysHeld (t u : State) : Prop :=
  u = { t with pins := u.pins, port := { t.port with returned := u.port.returned } } ∧ u.pins.resetn = true

theorem staysHeld_refl (h : t.pins.resetn = true) : StaysHeld t t := ⟨rfl, h⟩

/-- A choice of outcomes that each stay held. -/
theorem staysHeld_ite {p : Prop} [Decidable p] {x y : State} (h : (if p then .next x else .next y) =
    Host.Outcome.next (φ := Fault) (ρ := Refusal) u) (hx : StaysHeld t x) (hy : StaysHeld t y) : StaysHeld t u := by
  split at h
  · cases h
    exact hx
  · cases h
    exact hy

theorem resetHeld_timers (s : State) (n : Fin 8) : s.resetHeld.router.streams[n].timerRuns = false := by
  rw [Stream.timerRuns, show s.resetHeld.router.streams[n].frame = none from reset_streams n]
  rfl

/-- Until RESETN is released a command changes only the levels of the inputs and what a transaction returns: no request
is held, no timer runs, and every block is still. -/
theorem resetHeld_stays {c : Instr} (hc : ∀ strap, c ≠ .resetnRelease strap) (h : exec c s.resetHeld = .next u) :
    StaysHeld s.resetHeld u := by
  have same : StaysHeld s.resetHeld s.resetHeld := staysHeld_refl rfl
  have zeros : StaysHeld s.resetHeld s.resetHeld.returnZeros := ⟨rfl, rfl⟩
  by_cases hd : c ∈ decisionCommands.map Prod.snd
  · obtain ⟨p, hp, rfl⟩ := List.mem_map.mp hd
    obtain ⟨d, hdecides⟩ := decisionCommands_decide p hp
    rw [hdecides, decideRequest_none _ d s.resetHeld rfl] at h
    cases h
    exact same
  · cases c with
    | request | response | status | unknownKindTransaction =>
      cases h
      exact zeros
    | point | lookupPortVerify | answerRead | frameBegin | tileRun | frameEnd | discardedPacket | streamTile
    | buildComplete | scanStart | substituteScanStart | transferComplete | fillJobComplete | intervalTimerExpiry
    | measurementComplete | prepareTimerExpiry =>
      cases h
      exact same
    | rejectedWrite bytes =>
      have hexec : execRejectedWrite bytes s.resetHeld = .next s.resetHeld := if_pos (Or.inl rfl)
      cases hexec.symm.trans h
      exact same
    | frameTimerExpiry n =>
      have hexec : exec (.frameTimerExpiry n) s.resetHeld = .next s.resetHeld :=
        if_neg (by rw [resetHeld_timers]; nofun)
      rw [hexec] at h
      cases h
      exact same
    | zoneFaultRise z => exact staysHeld_ite h same ⟨rfl, rfl⟩
    | zoneFaultFall z => exact staysHeld_ite h ⟨rfl, rfl⟩ same
    | idleTimerExpiry z =>
      cases z <;>
        · cases h
          exact same
    | resetnAssert =>
      cases h
      exact same
    | resetnRelease strap => exact absurd rfl (hc strap)
    | drstnAssert => exact staysHeld_ite h same ⟨rfl, rfl⟩
    | drstnRelease => exact staysHeld_ite h ⟨rfl, rfl⟩ same
    | _ => exact absurd (by decide) hd

/-! ## The release -/

/-- What a zone wants that the release of RESETN has left (R153, R164). -/
theorem released_wanted (on fault : Bool) : (ZoneState.released on fault).wanted =
    if (on && !fault) = true then { on := true, brightness := 255 } else { on := false, brightness := 0 } := by
  cases on <;> cases fault <;> rfl

theorem flagsIf_eq (p : Port) (b : Bool) (f : EventFlag) :
    { p with flags := if b = true then p.flags ||| f.bit else p.flags } =
      if b = true then { p with flags := p.flags ||| f.bit } else p := by
  cases b <;> rfl

theorem exec_resetnRelease (strap : Bool) (h : s.pins.resetn = true) :
    exec (.resetnRelease strap) s = .next (s.releaseReset strap) := if_pos h

/-- Settles O48: the blocks at the assertion, what a command can do until the release, and the two releases. -/
theorem resetnSettles : Obligations.ResetnSettles := by
  refine ⟨fun s => ⟨s.resetHeld, rfl, rfl, rfl, fun n => Vec.tabulate_get _ n, rfl, rfl,
    fun i => congrArg Record.lifecycle (resetHeld_record s i), rfl, rfl, rfl, fun n => Vec.tabulate_get _ n, rfl,
    fun i => Vec.tabulate_get _ i, rfl, rfl, rfl, rfl, rfl, rfl, rfl, rfl, rfl, rfl, rfl, rfl, rfl, rfl,
    fun c u => resetHeld_stays⟩, fun s strap => ⟨fun h => ?_, fun h => ?_⟩⟩
  · exact if_neg (by rw [h]; nofun)
  · dsimp only
    refine ⟨fun hdrstn => ?_, fun hdrstn => ?_⟩ <;> rw [exec_resetnRelease strap h]
    · rw [releaseReset_eq s strap hdrstn, flagsIf_eq, released_wanted, released_wanted, released_wanted]
      rfl
    · rw [releaseReset_drstn s strap hdrstn]
      rfl

end Sys2Proof.Machine


/-! CLAIM. The assertion and the release of DRSTN (O49, O50). -/

namespace Sys2Proof.Machine

variable {s t u : State}

/-! ## The records that DRSTN keeps -/

/-- A record is kept: Retain is set, and it is IN_SERVICE with Persist in its live copy (R43). -/
def State.keepsRecord (s : State) (i : Slot) : Prop :=
  s.table.retain = true ∧ (s.record i).lifecycle = .inService
    ∧ ∃ d, (s.record i).live = some d ∧ d.attributes.persist = true

theorem keeps_iff (r : Record) : r.keeps = true ↔
    r.lifecycle = .inService ∧ ∃ d, r.live = some d ∧ d.attributes.persist = true := by
  rw [Record.keeps, Bool.and_eq_true, decide_eq_true_iff, Option.any_eq_true]

theorem keepsRecord_iff (s : State) (i : Slot) :
    s.keepsRecord i ↔ (s.table.retain && (s.record i).keeps) = true := by
  rw [Bool.and_eq_true, keeps_iff]
  rfl

theorem restartBlocks_kept {i : Slot} (h : s.keepsRecord i) : s.restartBlocks.record i = { s.record i with
    pending := none, retirePending := false, commitPending := false, inBuild := false, stale := false
    showing := .parked, ownedTiles := 0 } :=
  (restartBlocks_record s i).trans (if_pos ((keepsRecord_iff s i).mp h))

theorem restartBlocks_freed {i : Slot} (h : ¬ s.keepsRecord i) :
    s.restartBlocks.record i = Record.free (s.record i).generation :=
  (restartBlocks_record s i).trans (if_neg (mt (keepsRecord_iff s i).mpr h))

theorem restartBlocks_inService (s : State) (i : Slot) :
    (s.restartBlocks.record i).lifecycle = .inService ↔ s.keepsRecord i := by
  by_cases h : s.keepsRecord i
  · rw [restartBlocks_kept h]
    exact iff_of_true h.2.1 h
  · rw [restartBlocks_freed h]
    exact iff_of_false nofun h

theorem anyInService_iff (s : State) :
    (slotList.any fun i => (s.restartBlocks.record i).lifecycle = .inService) = true ↔ ∃ i, s.keepsRecord i := by
  rw [List.any_eq_true]
  constructor
  · rintro ⟨i, -, h⟩
    exact ⟨i, (restartBlocks_inService s i).mp (of_decide_eq_true h)⟩
  · rintro ⟨i, h⟩
    exact ⟨i, mem_slotList i, decide_eq_true ((restartBlocks_inService s i).mpr h)⟩

/-- The RESTORE claim is taken at once (R43, R51, R73). -/
theorem claimRestore_builds (h : ∃ i, s.keepsRecord i) :
    s.restartBlocks.claimRestore = s.restartBlocks.startBuild .restore s.engine.active.layout :=
  if_pos ((anyInService_iff s).mpr h)

theorem claimRestore_rests (h : ∀ i, ¬ s.keepsRecord i) : s.restartBlocks.claimRestore = s.restartBlocks :=
  if_neg (mt (anyInService_iff s).mp fun ⟨i, hi⟩ => h i hi)

/-! ## The blocks by Retain -/

theorem restartBlocks_keepOuts (s : State) (n : Fin 8) :
    s.restartBlocks.keepOuts[n] = if s.table.retain then s.keepOuts[n] else none := by
  change (if s.table.retain then s.keepOuts else Vec.tabulate fun _ => none)[n] = _
  split
  · rfl
  · exact Vec.tabulate_get _ n

theorem fillRestart_eq (retain : Bool) (f : Fill) : f.restart retain = {
    queue := [], job := none
    foldedColour := if retain then f.foldedColour else 0, unfoldedColour := if retain then f.unfoldedColour else 0 } := by
  cases retain <;> rfl

theorem transitionRestart_eq (retain : Bool) (q : Transition) : q.restart retain = { Transition.reset with
    prepareWindow := if retain then q.prepareWindow else 100, blankHold := if retain then q.blankHold else 1 } := by
  cases retain <;> rfl

theorem zoneRestart_eq (retain entry : Bool) (q : ZoneState) : q.restart retain entry = { q with
    idleTimer := none
    idleLimit := if retain then q.idleLimit else 0
    activityMask := if retain then q.activityMask else 7
    dimLevel := if retain then q.dimLevel else 40
    mode := if q.mode = .tripped ∧ q.faultActive = true then .tripped else if entry = true then .on else .off } := by
  cases retain <;> rfl

theorem restartBlocks_zone (s : State) (z : Zone) : s.restartBlocks.zoneState z =
    (s.zoneState z).restart s.table.retain (s.restartBlocks.tableEntry s.engine.active.layout z) := by
  unfold State.tableEntry
  change (s.zones.restart s.table.retain s.engine.active.layout).zone.get z = _
  cases s.engine.active.layout <;> cases z <;> rfl

theorem exec_drstnAssert (hdrstn : s.pins.drstn = false) (hresetn : s.pins.resetn = false) :
    exec .drstnAssert s = .next s.restartBlocks.claimRestore :=
  (if_neg (by rw [hdrstn]; nofun)).trans (if_neg (by rw [hresetn]; nofun))

/-- Settles O49: the blocks as they settle, and the RESTORE claim where a record is kept. -/
theorem drstnSettles : Obligations.DrstnSettles := by
  refine fun s => ⟨fun hdrstn => if_pos hdrstn, fun hdrstn hresetn => ?_, fun hdrstn hresetn => ?_⟩
  · exact (if_neg (by rw [hdrstn]; nofun)).trans (if_pos hresetn)
  · dsimp only
    refine ⟨s.restartBlocks, fun h => ?_, fun h => ?_, rfl, rfl, restartBlocks_keepOuts s, rfl, rfl,
      fun i => ⟨restartBlocks_kept, restartBlocks_freed⟩, rfl, rfl, rfl, fun n => Vec.tabulate_get _ n, rfl, rfl, rfl,
      fun n => Vec.tabulate_get _ n, rfl, fun i => Vec.tabulate_get _ i, rfl, rfl, rfl, rfl, fillRestart_eq _ _, rfl,
      transitionRestart_eq _ _, rfl, rfl, rfl, fun z => ?_, rfl, rfl, rfl, rfl, rfl⟩
    · rw [exec_drstnAssert hdrstn hresetn, claimRestore_builds h]
    · rw [exec_drstnAssert hdrstn hresetn, claimRestore_rests h]
    · exact (restartBlocks_zone s z).trans (zoneRestart_eq _ _ _)

/-! ## The release -/

theorem startIdle_eq (q : ZoneState) : q.startIdle =
    if q.mode = .on then { q with idleTimer := if q.idleLimit = 0 then none else some q.idleLimit } else q := rfl

theorem exec_drstnRelease (hdrstn : s.pins.drstn = true) (hresetn : s.pins.resetn = false) :
    exec .drstnRelease s = .next s.releaseRestart := (if_pos hdrstn).trans (if_neg (by rw [hresetn]; nofun))

/-- The layout request that a posture implies (R118, R123). -/
def State.requestFor (p : Posture) (s : State) : State :=
  match p with
  | .folded => s.layoutRequest .folded
  | .unfolded => s.layoutRequest .unfolded
  | .partly => s
  | .unknown => s

theorem requestImplied_eq {p : Posture} (h : s.sampler.posture = p) : s.requestImplied = s.requestFor p := by
  rw [State.requestImplied, h]
  cases p <;> rfl

theorem queueIf_posture (s : State) (p : Prop) [Decidable p] (k : Key) :
    (if p then s.queueJob k else s).sampler.posture = s.sampler.posture := by
  split
  · rw [queueJob_sampler]
  · rfl

/-- Settles O50: the release as one change of the state, the jobs, and the layout request by the posture. -/
theorem drstnReleases : Obligations.DrstnReleases := by
  refine fun s => ⟨fun hdrstn => ?_, fun hdrstn hresetn => ?_, fun hdrstn hresetn => ?_⟩
  · exact if_neg (by rw [hdrstn]; nofun)
  · exact (if_pos hdrstn).trans (if_pos hresetn)
  · dsimp only
    rw [exec_drstnRelease hdrstn hresetn, releaseRestart_eq s hresetn, flagsIf_eq]
    refine congrArg (fun v : State => Host.Outcome.next (φ := Fault) (ρ := Refusal) v.finish) ?_
    refine requestImplied_eq ((queueIf_posture _ _ _).trans ?_)
    rw [queueJob_sampler]

end Sys2Proof.Machine


/-! CLAIM. The end of an event: the abort, the offers, the rounds of grants until the arbiter has nothing to decide, and
the packets that waited (O60). -/

namespace Sys2Proof.Machine

variable {s t u : State}

/-! ## The abort and the start of a job -/

theorem abortTest_fails {w : TileWrite} (h : s.link.flight = some (.tile w)) (hfails : s.protectionFails w = true) :
    s.abortTest = { s with link := { s.link with flight := none } } := by
  rw [State.abortTest, h]
  exact if_pos hfails

theorem abortTest_passes {w : TileWrite} (h : s.link.flight = some (.tile w)) (hpasses : ¬ s.protectionFails w = true) :
    s.abortTest = s := by
  rw [State.abortTest, h]
  exact if_neg hpasses

theorem abortTest_noTile (h : ∀ w, s.link.flight ≠ some (.tile w)) : s.abortTest = s := by
  unfold State.abortTest
  split
  next w hw => exact absurd hw (h w)
  next => rfl

theorem startJob_starts {k : Key} {rest : List Key} (hjob : s.fill.job = none) (hqueue : s.fill.queue = k :: rest) :
    s.startJob = { s with fill := { s.fill with queue := rest, job := some { key := k, position := 0 } } } := by
  rw [State.startJob, hjob, hqueue]

theorem startJob_else (h : s.fill.job ≠ none ∨ s.fill.queue = []) : s.startJob = s := by
  unfold State.startJob
  split
  next hjob hqueue =>
    rcases h with h | h
    · exact absurd hjob h
    · exact nomatch h.symm.trans hqueue
  next => rfl

/-! ## The next offer -/

/-- The job offers the write for the tile: the tile is in its set and the write passes the tests (R102, R104). -/
theorem offerFor_iff (s : State) (k : Key) (t : Nat) (w : TileWrite) : s.offerFor k t = some w ↔
    (∃ c : Colour, s.jobColour k t = some c ∧ w = s.jobWrite k t c)
      ∧ ¬ s.protectionFails w = true ∧ (k = .blank ∨ s.heldBack t = false) := by
  have passes (c : Colour) : ¬ s.grantFails (s.jobWrite k t c) = true ↔
      ¬ s.protectionFails (s.jobWrite k t c) = true ∧ (k = .blank ∨ s.heldBack t = false) := by
    rw [grantFails_fill (w := s.jobWrite k t c) rfl, not_or, not_and, imp_iff_not_or, ne_eq, not_not,
      Bool.not_eq_true (s.heldBack _)]
    rfl
  rw [State.offerFor, Option.bind_eq_some_iff]
  constructor
  · rintro ⟨c, hc, h⟩
    split at h
    next => exact nomatch h
    next hgood =>
      cases h
      exact ⟨⟨c, hc, rfl⟩, (passes c).mp hgood⟩
  · rintro ⟨⟨c, hc, rfl⟩, hgood⟩
    exact ⟨c, hc, if_neg ((passes c).mpr hgood)⟩

/-- The search for the next tile to offer: none before it is offered, and it is offered or the last tile is passed. -/
theorem nextOffer_spec (s : State) (k : Key) (n p : Nat) : p ≤ s.nextOffer k n p
    ∧ (∀ t, p ≤ t → t < s.nextOffer k n p → s.offerFor k t = none)
    ∧ (s.nextOffer k n p = p + n ∨ (s.nextOffer k n p < p + n ∧ (s.offerFor k (s.nextOffer k n p)).isSome = true)) := by
  induction n generalizing p with
  | zero => exact ⟨le_refl _, fun t hle hlt => absurd hlt (Nat.not_lt.mpr hle), .inl rfl⟩
  | succ n ih =>
    rw [State.nextOffer]
    split
    next h => exact ⟨le_refl _, fun t hle hlt => absurd hlt (Nat.not_lt.mpr hle), .inr ⟨by omega, h⟩⟩
    next h =>
      obtain ⟨hle, hnone, hend⟩ := ih (p + 1)
      refine ⟨by omega, fun t hp ht => ?_, by rwa [Nat.add_right_comm p 1 n] at hend⟩
      rcases Nat.eq_or_lt_of_le hp with rfl | hlt
      · rwa [Option.isSome_iff_ne_none, not_not] at h
      · exact hnone t hlt ht

theorem offerTile_eq {j : Job} (hjob : s.fill.job = some j) (hfree : s.link.fillWaiting = none) : s.offerTile =
    { s with
      fill := { s.fill with
        job := some { j with position := s.nextOffer j.key (Config.tileCount - j.position) j.position } }
      link := { s.link with
        fillWaiting :=
          if s.nextOffer j.key (Config.tileCount - j.position) j.position < Config.tileCount then
            s.offerFor j.key (s.nextOffer j.key (Config.tileCount - j.position) j.position)
          else none } } := by
  rw [State.offerTile, hjob, hfree]

theorem offerTile_else (h : s.fill.job = none ∨ s.link.fillWaiting ≠ none) : s.offerTile = s := by
  unfold State.offerTile
  split
  next hjob hfree =>
    rcases h with h | h
    · exact nomatch h.symm.trans hjob
    · exact absurd hfree h
  next => rfl

/-- The job in progress comes to the next tile that it offers, or past the last tile (R97, R102). -/
theorem offerTile_advances {j : Job} (hjob : s.fill.job = some j) (hfree : s.link.fillWaiting = none) :
    ∃ p, j.position ≤ p ∧ (∀ t, j.position ≤ t → t < p → s.offerFor j.key t = none)
      ∧ ((p < 14336 ∧ ∃ w, s.offerFor j.key p = some w ∧ s.offerTile = { s with
            fill := { s.fill with job := some { j with position := p } }, link := { s.link with fillWaiting := some w } })
        ∨ (p = max 14336 j.position ∧ s.offerTile = { s with
            fill := { s.fill with job := some { j with position := p } } })) := by
  obtain ⟨hle, hnone, hend⟩ := nextOffer_spec s j.key (Config.tileCount - j.position) j.position
  rw [offerTile_eq hjob hfree]
  generalize s.nextOffer j.key (Config.tileCount - j.position) j.position = p at hle hnone hend
  have hcount : Config.tileCount = 14336 := rfl
  rw [hcount] at hend
  refine ⟨p, hle, hnone, ?_⟩
  by_cases hlt : p < 14336
  · obtain ⟨-, hsome⟩ := hend.resolve_left (by omega)
    obtain ⟨w, hw⟩ := Option.isSome_iff_exists.mp hsome
    refine .inl ⟨hlt, w, hw, ?_⟩
    rw [if_pos (hcount ▸ hlt), hw]
  · refine .inr ⟨by omega, ?_⟩
    rw [if_neg (hcount ▸ hlt), ← hfree]

/-! ## The router's part -/

theorem handWrite_hands {w : TileWrite} {rest : List TileWrite} (hfree : s.link.streamWaiting = none)
    (hhanding : s.router.handing = w :: rest) : s.handWrite = { s with
      link := { s.link with streamWaiting := some w }, router := { s.router with handing := rest } } := by
  rw [State.handWrite, hfree, hhanding]

theorem handWrite_else (h : s.link.streamWaiting ≠ none ∨ s.router.handing = []) : s.handWrite = s := by
  unfold State.handWrite
  split
  next hfree hhanding =>
    rcases h with h | h
    · exact absurd hfree h
    · exact nomatch h.symm.trans hhanding
  next => rfl

/-- The run of a stream, its last tile dealt with (R78). -/
def State.spent (s : State) (n : Fin 8) : Prop :=
  (∃ routed, s.router.run = some { stream := n, tiles := [], routed }) ∧ s.link.streamWaiting = none ∧ s.router.handing = []

theorem endRun_spent {n : Fin 8} (h : s.spent n) : s.endRun =
    { s with router := { s.router with run := none } }.updStream n (Stream.restartTimer s.router.frameTimeout) := by
  obtain ⟨⟨routed, hrun⟩, hwaiting, hhanding⟩ := h
  exact endRun_last hrun hhanding hwaiting

theorem endRun_else (h : ∀ n, ¬ s.spent n) : s.endRun = s := by
  unfold State.endRun
  split
  next n routed hrun =>
    refine if_neg fun hdone => h n ?_
    rw [Bool.and_eq_true, Option.isNone_iff_eq_none, List.isEmpty_iff] at hdone
    exact ⟨⟨routed, hrun⟩, hdone⟩
  next => rfl

/-! ## The offers, made again -/

/-- Nothing is left to offer: a job or none waiting, a fill write or the end of the job, a stream write or none in hand,
a run that goes on or none. -/
structure State.Offered (s : State) : Prop where
  job : s.fill.job ≠ none ∨ s.fill.queue = []
  tile : s.link.fillWaiting ≠ none ∨ ∀ j, s.fill.job = some j → 14336 ≤ j.position
  write : s.link.streamWaiting ≠ none ∨ s.router.handing = []
  run : ∀ n, ¬ s.spent n

theorem offerTile_past (h : ∀ j, s.fill.job = some j → 14336 ≤ j.position) : s.offerTile = s := by
  cases hjob : s.fill.job with
  | none => exact offerTile_else (.inl hjob)
  | some j =>
    by_cases hfree : s.link.fillWaiting = none
    · have hpast := h j hjob
      obtain ⟨p, hle, -, ⟨hlt, -⟩ | ⟨hmax, he⟩⟩ := offerTile_advances hjob hfree
      · omega
      · have hp : p = j.position := by omega
        rw [he, hp, ← hjob]
    · exact offerTile_else (.inr hfree)

theorem State.Offered.offerAll (h : s.Offered) : s.offerAll = s := by
  have htile : s.offerTile = s := h.tile.elim (fun h => offerTile_else (.inr h)) offerTile_past
  rw [State.offerAll, startJob_else h.job, htile, handWrite_else h.write, endRun_else h.run]

/-! Each part of the offers does its work for good, and leaves the work of those before it. -/

theorem startJob_job (s : State) : s.startJob.fill.job ≠ none ∨ s.startJob.fill.queue = [] := by
  unfold State.startJob
  split
  next => exact .inl nofun
  next hnone =>
    cases hjob : s.fill.job with
    | some j => exact .inl nofun
    | none =>
      cases hqueue : s.fill.queue with
      | nil => exact .inr rfl
      | cons k rest => exact absurd hqueue (hnone k rest hjob)

theorem offerTile_job (h : s.fill.job ≠ none ∨ s.fill.queue = []) :
    s.offerTile.fill.job ≠ none ∨ s.offerTile.fill.queue = [] := by
  unfold State.offerTile
  split
  · exact .inl nofun
  · exact h

theorem offerTile_tile (s : State) :
    s.offerTile.link.fillWaiting ≠ none ∨ ∀ j, s.offerTile.fill.job = some j → 14336 ≤ j.position := by
  cases hjob : s.fill.job with
  | none =>
    rw [offerTile_else (.inl hjob), hjob]
    exact .inr nofun
  | some j =>
    by_cases hfree : s.link.fillWaiting = none
    · obtain ⟨p, -, -, ⟨-, w, -, he⟩ | ⟨hmax, he⟩⟩ := offerTile_advances hjob hfree <;> rw [he]
      · exact .inl nofun
      · refine .inr fun i hi => ?_
        cases hi
        exact hmax ▸ le_max_left _ _
    · rw [offerTile_else (.inr hfree)]
      exact .inl hfree

theorem handWrite_write (s : State) : s.handWrite.link.streamWaiting ≠ none ∨ s.handWrite.router.handing = [] := by
  unfold State.handWrite
  split
  next => exact .inl nofun
  next hnone =>
    cases hwaiting : s.link.streamWaiting with
    | some w => exact .inl nofun
    | none =>
      cases hhanding : s.router.handing with
      | nil => exact .inr rfl
      | cons w rest => exact absurd hhanding (hnone w rest hwaiting)

theorem handWrite_link (s : State) :
    s.handWrite.link.fillWaiting = s.link.fillWaiting ∧ s.handWrite.link.flight = s.link.flight := by
  unfold State.handWrite
  split <;> exact ⟨rfl, rfl⟩

theorem endRun_link (s : State) : s.endRun.link = s.link ∧ s.endRun.router.handing = s.router.handing := by
  unfold State.endRun
  split
  · split <;> exact ⟨rfl, rfl⟩
  · exact ⟨rfl, rfl⟩

theorem endRun_run (s : State) (n : Fin 8) : ¬ s.endRun.spent n := by
  by_cases h : ∃ n, s.spent n
  · obtain ⟨m, hm⟩ := h
    rw [endRun_spent hm]
    rintro ⟨⟨_, hrun⟩, -⟩
    exact nomatch hrun
  · rw [endRun_else fun m hm => h ⟨m, hm⟩]
    exact fun hn => h ⟨n, hn⟩

theorem offerAll_offered (s : State) : s.offerAll.Offered := by
  have hfill : s.offerAll.fill = s.startJob.offerTile.fill := (endRun_fill _).trans (handWrite_fill _)
  have hlink : s.offerAll.link = s.startJob.offerTile.handWrite.link := (endRun_link _).1
  have hhanding : s.offerAll.router.handing = s.startJob.offerTile.handWrite.router.handing := (endRun_link _).2
  refine ⟨?_, ?_, ?_, endRun_run _⟩
  · rw [hfill]
    exact offerTile_job (startJob_job s)
  · rw [hfill, hlink, (handWrite_link _).1]
    exact offerTile_tile _
  · rw [hlink, hhanding]
    exact handWrite_write _

end Sys2Proof.Machine


/-! CLAIM. The rounds of the arbiter come to an end, and the packets that waited are taken (O60). -/

namespace Sys2Proof.Machine

variable {s t u : State}

/-! ## How many rounds are left -/

/-- A fill tile write waits that the arbiter would discard. -/
def State.fillFails (s : State) : Bool := s.link.fillWaiting.any s.grantFails

/-- The stream tile writes that the router has in hand. -/
def State.inHand (s : State) : Nat := s.router.handing.length + s.link.streamWaiting.toList.length

/-- A bound of the decisions that the arbiter can still make at this event: one for each write it may discard, and one
that makes the link BUSY. -/
def State.roundsLeft (s : State) : Nat :=
  if s.link.flight.isSome then 0 else s.inHand + (if s.fillFails then 1 else 0) + 1

theorem roundsLeft_busy (h : s.link.flight ≠ none) : s.roundsLeft = 0 := if_pos (Option.isSome_iff_ne_none.mpr h)

theorem roundsLeft_free (h : s.link.flight = none) :
    s.roundsLeft = s.inHand + (if s.fillFails then 1 else 0) + 1 := if_neg (by rw [h]; nofun)

theorem roundsLeft_le (s : State) : s.roundsLeft ≤ s.router.handing.length + 3 := by
  have hhand : s.link.streamWaiting.toList.length ≤ 1 := by cases s.link.streamWaiting <;> simp
  have hone : (if s.fillFails = true then 1 else 0) ≤ 1 := by split <;> omega
  unfold State.roundsLeft State.inHand
  split <;> omega

theorem roundsLeft_mono (hflight : t.link.flight = s.link.flight) (hhand : t.inHand ≤ s.inHand)
    (hfill : t.fillFails = true → s.fillFails = true) : t.roundsLeft ≤ s.roundsLeft := by
  unfold State.roundsLeft
  rw [hflight]
  split
  · exact le_refl _
  · have hone : (if t.fillFails = true then 1 else 0) ≤ (if s.fillFails = true then 1 else 0) := by
      split
      next h => rw [if_pos (hfill h)]
      next => exact Nat.zero_le _
    omega

theorem startJob_link (s : State) : s.startJob.link = s.link := by
  unfold State.startJob
  split <;> rfl

theorem startJob_grantFails (s : State) (w : TileWrite) : s.startJob.grantFails w = s.grantFails w := by
  unfold State.startJob
  split <;> rfl

/-- A write that the job in progress offers passes the tests of the arbiter (R102, R104). -/
theorem offerFor_passes {k : Key} {x : Nat} {w : TileWrite} (h : s.offerFor k x = some w) : s.grantFails w = false := by
  obtain ⟨⟨c, -, rfl⟩, hprotection, hblanking⟩ := (offerFor_iff s k x w).mp h
  refine Bool.eq_false_iff.mpr fun hfails => ?_
  rcases (grantFails_fill rfl).mp hfails with hfails | ⟨hk, hheld⟩
  · exact hprotection hfails
  · exact nomatch (hblanking.resolve_left hk).symm.trans hheld

theorem offerTile_roundsLeft (s : State) : s.offerTile.roundsLeft ≤ s.roundsLeft := by
  by_cases h : s.fill.job = none ∨ s.link.fillWaiting ≠ none
  · rw [offerTile_else h]
  · rw [not_or, not_not] at h
    obtain ⟨hjob, hfree⟩ := h
    obtain ⟨j, hjob⟩ := Option.ne_none_iff_exists'.mp hjob
    obtain ⟨p, -, -, ⟨-, w, hw, he⟩ | ⟨-, he⟩⟩ := offerTile_advances hjob hfree <;> rw [he]
    · refine roundsLeft_mono rfl (le_refl _) fun hfails => ?_
      change s.grantFails w = true at hfails
      exact nomatch (offerFor_passes hw).symm.trans hfails
    · exact roundsLeft_mono rfl (le_refl _) id

theorem handWrite_roundsLeft (s : State) : s.handWrite.roundsLeft ≤ s.roundsLeft := by
  unfold State.handWrite
  split
  next w rest hfree hhanding =>
    refine roundsLeft_mono rfl ?_ id
    rw [State.inHand, State.inHand, hfree, hhanding]
    exact le_refl _
  next => exact le_refl _

theorem endRun_roundsLeft (s : State) : s.endRun.roundsLeft ≤ s.roundsLeft := by
  unfold State.endRun
  split
  · split
    · exact roundsLeft_mono rfl (le_refl _) id
    · exact le_refl _
  · exact le_refl _

theorem startJob_roundsLeft (s : State) : s.startJob.roundsLeft ≤ s.roundsLeft := by
  refine roundsLeft_mono (by rw [startJob_link]) ?_ ?_
  · rw [State.inHand, State.inHand, startJob_link, startJob_router]
  · rw [State.fillFails, State.fillFails, startJob_link, funext (startJob_grantFails s)]
    exact id

theorem offerAll_roundsLeft (s : State) : s.offerAll.roundsLeft ≤ s.roundsLeft :=
  (endRun_roundsLeft _).trans ((handWrite_roundsLeft _).trans ((offerTile_roundsLeft _).trans (startJob_roundsLeft s)))

/-! ## Each round takes one -/

/-- The arbiter decides on a FREE link (R96). -/
theorem arbitrate_free (h : s.arbitrate = some t) : s.link.flight = none := by
  by_contra hbusy
  exact nomatch (arbitrate_busy hbusy).symm.trans h

theorem activity_flight (s : State) (a : Activity) (z : Zone) : (s.activity a z).link.flight = s.link.flight := by
  unfold State.activity
  split
  · rfl
  · split
    · rfl
    · obtain ⟨slots, h⟩ := placeMessage_writes (s.updZone z ZoneState.turnOn) z
      rw [h]
      rfl
    · rfl
    · rfl

/-- A round makes the link BUSY, or it discards one of the writes that waited (R94, R96). -/
theorem arbitrate_roundsLeft (h : s.arbitrate = some t) : t.roundsLeft < s.roundsLeft := by
  have hfree := arbitrate_free h
  have busy {v : State} (hv : v.link.flight ≠ none) : v.roundsLeft < s.roundsLeft := by
    rw [roundsLeft_busy hv, roundsLeft_free hfree]
    exact Nat.succ_pos _
  rcases arbitrate_waits h with ⟨z, m, rfl⟩ | ⟨w, hw, -, rfl⟩ | ⟨w, hw, rfl⟩
  · exact busy nofun
  · cases hfails : s.grantFails w with
    | false =>
      rw [grantStream_grants hfails]
      refine busy ?_
      rw [activity_flight]
      nofun
    | true =>
      rw [grantStream_discards hfails, roundsLeft_free hfree, roundsLeft_free (by exact hfree)]
      have hhand : s.inHand = s.router.handing.length + 1 := by rw [State.inHand, hw]; rfl
      rw [hhand]
      change s.router.handing.length + 0 + (if s.fillFails then 1 else 0) + 1 < _
      omega
  · cases hfails : s.grantFails w with
    | false =>
      rw [grantFill_grants hfails]
      refine busy ?_
      rw [activity_flight]
      nofun
    | true =>
      have hfill : s.fillFails = true := by rw [State.fillFails, hw]; exact hfails
      rw [grantFill_discards hfails, roundsLeft_free hfree, roundsLeft_free (by exact hfree), hfill]
      change s.inHand + 0 + 1 < s.inHand + 1 + 1
      omega

/-- With the rounds that are left and to spare, offers and grants go on until the arbiter has nothing to decide (R96). -/
theorem pump_rounds {n : Nat} (h : s.roundsLeft ≤ n) : s.offerAll.Rounds (s.pump n) ∧ (s.pump n).Offered := by
  induction n generalizing s with
  | zero =>
    refine ⟨.done _ ?_, offerAll_offered s⟩
    cases harbitrate : s.offerAll.arbitrate with
    | none => rfl
    | some t =>
      have hless := arbitrate_roundsLeft harbitrate
      have hoffers := offerAll_roundsLeft s
      omega
  | succ n ih =>
    rw [State.pump]
    split
    next t harbitrate =>
      have hless := arbitrate_roundsLeft harbitrate
      have hoffers := offerAll_roundsLeft s
      obtain ⟨hrounds, hoffered⟩ := ih (s := t) (by omega)
      exact ⟨.round _ _ _ harbitrate hrounds, hoffered⟩
    next harbitrate => exact ⟨.done _ harbitrate, offerAll_offered s⟩

/-! ## The packets that waited -/

theorem takePackets_takes {n : Nat} {p : Packet} {rest : List Packet} (hwaiting : s.link.streamWaiting = none)
    (hrun : s.router.run = none) (hqueue : s.router.linkQueue = p :: rest) : s.takePackets (n + 1) =
      (State.takePacket p { s with router := { s.router with linkQueue := rest } }).takePackets n := by
  rw [State.takePackets, if_pos ((linkOpen_iff s).mpr ⟨hwaiting, hrun⟩), hqueue]

theorem takePackets_stops (n : Nat) (h : s.link.streamWaiting ≠ none ∨ s.router.run ≠ none ∨ s.router.linkQueue = []) :
    s.takePackets n = s := by
  by_cases hqueue : s.router.linkQueue = []
  · exact takePackets_empty n hqueue
  · cases n with
    | zero => rfl
    | succ n =>
      refine if_neg fun hopen => ?_
      obtain ⟨hwaiting, hrun⟩ := (linkOpen_iff s).mp hopen
      exact (h.resolve_left (not_not_intro hwaiting)).elim (· hrun) hqueue

/-- The test of the drain writes no more than taking a claim (R69). -/
theorem drainTest_writes (s : State) : ∃ flags phase claims slots, s.drainTest = { s with
    port := { s.port with flags }, engine := { s.engine with phase, claims }, table := { s.table with slots } } := by
  have rests : ∃ flags phase claims slots, s = { s with
      port := { s.port with flags }, engine := { s.engine with phase, claims }, table := { s.table with slots } } :=
    ⟨s.port.flags, s.engine.phase, s.engine.claims, s.table.slots, rfl⟩
  unfold State.drainTest
  split
  · split
    · exact rests
    · exact enterIdle_writes s
  · exact rests
  · exact rests
  · exact rests

theorem drainTest_router (s : State) : s.drainTest.router = s.router := by
  obtain ⟨_, _, _, _, h⟩ := drainTest_writes s
  rw [h]

theorem closeFrame_linkQueue (s : State) (n : Fin 8) (r : FrameResult) :
    (s.closeFrame n r).router.linkQueue = s.router.linkQueue :=
  (congrArg Router.linkQueue
    (drainTest_router (s.updStream n fun st => { st with frame := none, last := r }))).trans rfl

/-- A packet that is taken leaves those that wait behind it. -/
theorem takePacket_linkQueue (s : State) (p : Packet) : (s.takePacket p).router.linkQueue = s.router.linkQueue := by
  have dropped (v : State) (n : Fin 8) (tiles : List Pixels) :
      (v.dropRun n tiles).router.linkQueue = v.router.linkQueue := by
    unfold State.dropRun
    split <;> rfl
  cases p with
  | frameBegin b w h =>
    unfold State.takePacket State.takeFrameBegin
    dsimp only
    split
    · split
      · split
        · refine (congrArg Router.linkQueue (drainTest_router _)).trans ?_
          change Router.linkQueue (State.router (State.setFlag _ _)) = _
          rw [setFlag_router]
          rfl
        · rfl
      · rfl
    · rfl
  | tileRun b start count tiles =>
    unfold State.takePacket State.takeTileRun
    dsimp only
    split
    · split
      · split
        · exact dropped _ _ _
        · split
          · exact dropped _ _ _
          · rfl
      · rfl
    · rfl
  | frameEnd b =>
    unfold State.takePacket State.takeFrameEnd
    dsimp only
    split
    · split
      · rfl
      · split
        · exact closeFrame_linkQueue _ _ _
        · split
          · exact closeFrame_linkQueue _ _ _
          · refine (closeFrame_linkQueue _ _ _).trans ?_
            rw [clearStale_eq]
            rfl
    · rfl
  | discarded => rfl

/-- As many packets as wait are all, unless the link is held off or a run is being taken before (R74). -/
theorem takePackets_done {n : Nat} (h : s.router.linkQueue.length ≤ n) :
    (s.takePackets n).link.streamWaiting ≠ none ∨ (s.takePackets n).router.run ≠ none
      ∨ (s.takePackets n).router.linkQueue = [] := by
  induction n generalizing s with
  | zero => exact .inr (.inr (List.length_eq_zero_iff.mp (Nat.le_zero.mp h)))
  | succ n ih =>
    by_cases hstop : s.link.streamWaiting ≠ none ∨ s.router.run ≠ none ∨ s.router.linkQueue = []
    · rw [takePackets_stops _ hstop]
      exact hstop
    · rw [not_or, not_or, not_not, not_not] at hstop
      obtain ⟨hwaiting, hrun, hqueue⟩ := hstop
      obtain ⟨p, rest, hqueue⟩ := List.exists_cons_of_ne_nil hqueue
      rw [takePackets_takes hwaiting hrun hqueue]
      refine ih ?_
      rw [takePacket_linkQueue]
      rw [hqueue] at h
      exact Nat.le_of_succ_le_succ h

theorem settleLink_linkQueue (s : State) : s.settleLink.router.linkQueue = s.router.linkQueue := by
  have pumped := (pumps_abortTest s).trans (pumps_pump (s.router.handing.length + 4) s.abortTest)
  rw [State.settleLink, settleTest_router]
  exact congrArg Placing.linkQueue pumped.placing

/-! ## The end of an event -/

theorem settleLink_rounds (s : State) :
    ∃ u, s.abortTest.offerAll.Rounds u ∧ u.offerAll = u ∧ s.settleLink = u.settleTest := by
  have hleft := roundsLeft_le s.abortTest
  rw [abortTest_router] at hleft
  obtain ⟨hrounds, hoffered⟩ := pump_rounds (s := s.abortTest) (n := s.router.handing.length + 4) (by omega)
  exact ⟨_, hrounds, hoffered.offerAll, rfl⟩

/-- Settles O60: the abort, each part of the offers, the rounds, and the packets. -/
theorem eventEnds : Obligations.EventEnds := by
  intro s
  dsimp only
  refine ⟨fun w hw => ⟨fun h => ?_, fun h => ?_⟩, abortTest_noTile, fun k rest => startJob_starts, startJob_else,
    fun j hjob hfree => ?_, offerTile_else, fun w rest => handWrite_hands, handWrite_else,
    ⟨fun n hn => endRun_spent hn, fun h => endRun_else h⟩, settleLink_rounds s, rfl, rfl, ?_,
    fun n p rest => takePackets_takes, takePackets_stops, fun hreset hwaiting hrun hqueue => ?_⟩
  · exact abortTest_fails hw ((protectionFails_iff s w).mpr h)
  · exact abortTest_passes hw (mt (protectionFails_iff s w).mp h)
  · have offers_iff (x : Nat) (w : TileWrite) := offerFor_iff s j.key x w
    simp only [protectionFails_iff] at offers_iff
    obtain ⟨p, hle, hnone, hend⟩ := offerTile_advances hjob hfree
    refine ⟨p, hle, fun x w hx hxp _ hoffers => ?_, hend.imp_left fun ⟨hlt, w, hw, he⟩ => ⟨hlt, w, ?_, he⟩⟩
    · exact nomatch (hnone x hx hxp).symm.trans ((offers_iff x w).mpr hoffers)
    · exact (offers_iff p w).mp hw
  · refine takePackets_done ?_
    rw [settleLink_linkQueue]
  · have arrives (p : Packet) : s.packetArrives p = s.takePacket p := packetArrives_open p hreset hwaiting hrun hqueue
    exact ⟨fun b w h => congrArg _ (arrives _), fun b i c tiles => congrArg _ (arrives _), fun b => congrArg _ (arrives _), rfl⟩

end Sys2Proof.Machine


/-! SUPPORT. A swap up to its flag: the job in progress, the records that leave, the stale counts, and the queue of jobs
(R34, R36, R65, R66, R67, R105, R106). -/

namespace Sys2Proof.Machine

variable {s t u : State} {b : Build} {m : Map}

/-! ## The job in progress -/

/-- The keys that wait once the job in progress has been queued again (R105). -/
def State.waitingKeys (s : State) : List Key :=
  match s.fill.job with
  | some j => joinKey s.fill.queue j.key
  | none => s.fill.queue

theorem requeueJob_eq (s : State) : s.requeueJob = { s with
    fill := { s.fill with queue := s.waitingKeys, job := none }
    link := { s.link with fillWaiting := if s.fill.job = none then s.link.fillWaiting else none } } := by
  cases hjob : s.fill.job with
  | none =>
    have hsame : s.requeueJob = s := by rw [State.requeueJob, hjob]
    have hwaiting : s.waitingKeys = s.fill.queue := by rw [State.waitingKeys, hjob]
    rw [if_pos rfl, hsame, hwaiting, ← hjob]
  | some j =>
    rw [if_neg nofun, State.waitingKeys, State.requeueJob, hjob]
    exact queueJob_join _ _

theorem mem_waitingKeys {k : Key} : k ∈ s.waitingKeys ↔ s.HasJob k := by
  unfold State.waitingKeys State.HasJob
  cases s.fill.job with
  | none => exact ⟨.inl, fun h => h.elim id fun ⟨_, hj, _⟩ => nomatch hj⟩
  | some j =>
    refine mem_joinKey.trans (or_congr_right ⟨fun h => ⟨j, rfl, h.symm⟩, fun ⟨i, hi, hk⟩ => ?_⟩)
    cases hi
    exact hk.symm

/-! ## The records that leave -/

/-- The key is not that of a region that the swap of the build takes into QUARANTINE (R106). -/
def State.staysQueued (s : State) (b : Build) (k : Key) : Bool := (s.leavers b).all fun i => k ≠ .region i

theorem staysQueued_false (k : Key) : s.staysQueued b k = false ↔ ∃ i : Slot, k = .region i ∧ i ∈ s.leavers b := by
  unfold State.staysQueued
  rw [List.all_eq_false]
  refine exists_congr fun i => ?_
  rw [decide_eq_true_iff, ne_eq, not_not, and_comm]

/-- With no job in progress the fill jobs lose the keys of the slots that enter QUARANTINE, the link is left alone, and
their stale counts restart (R36, R106). -/
theorem foldl_enterQuarantine_jobs (l : List Slot) (s : State) (hjob : s.fill.job = none) :
    (l.foldl (fun u i => u.enterQuarantine i) s).fill =
      { s.fill with queue := s.fill.queue.filter fun k => l.all fun i => k ≠ .region i }
    ∧ (l.foldl (fun u i => u.enterQuarantine i) s).link = s.link
    ∧ ∀ j : Slot, (l.foldl (fun u i => u.enterQuarantine i) s).router.staleCounts[j] =
      if j ∈ l then 0 else s.router.staleCounts[j] := by
  induction l generalizing s with
  | nil =>
    have hall : s.fill.queue.filter (fun k => [].all fun i : Slot => k ≠ .region i) = s.fill.queue :=
      List.filter_eq_self.mpr fun _ _ => rfl
    refine ⟨?_, rfl, fun j => rfl⟩
    rw [hall]
    rfl
  | cons i rest ih =>
    have hkey : (s.updRecord i (Record.quarantined s.table.quarantineLength)).jobIs (.region i) = false := by
      rw [State.jobIs, updRecord_fill, hjob]
      rfl
    have hone : s.enterQuarantine i =
        ({ s.updRecord i (Record.quarantined s.table.quarantineLength) with
          fill := { s.fill with queue := s.fill.queue.filter fun k => k ≠ Key.region i } }.setStaleCount i 0) := by
      unfold State.enterQuarantine
      rw [removeJob_eq, hkey]
      rfl
    have hcounts (j : Slot) : (s.enterQuarantine i).router.staleCounts[j] =
        if j = i then 0 else s.router.staleCounts[j] := by
      rw [hone]
      exact staleCounts_setStaleCount _ i j 0
    obtain ⟨hfill, hlink, hcount⟩ := ih (s.enterQuarantine i) (by rw [hone]; exact hjob)
    rw [List.foldl_cons, hfill, hlink]
    refine ⟨?_, by rw [hone]; rfl, fun j => ?_⟩
    · rw [hone]
      change ({ s.fill with queue := (s.fill.queue.filter fun k => k ≠ .region i).filter _ } : Fill) = _
      rw [List.filter_filter]
      simp only [List.all_cons, Bool.and_comm]
    · rw [hcount j, hcounts j]
      by_cases hji : j = i <;> simp [hji]

theorem settleRecords_jobs (b : Build) (hjob : s.fill.job = none) :
    (s.settleRecords b).fill = { s.fill with queue := s.fill.queue.filter (s.staysQueued b) }
    ∧ (s.settleRecords b).link = s.link
    ∧ ∀ i : Slot, (s.settleRecords b).router.staleCounts[i] =
      if (s.record i).inBuild = true ∨ i ∈ s.leavers b then 0 else s.router.staleCounts[i] := by
  obtain ⟨hfill, hlink, hcount⟩ := foldl_enterQuarantine_jobs (s.leavers b) s hjob
  refine ⟨hfill, hlink, fun i => ?_⟩
  refine (Vec.tabulate_get _ i).trans ?_
  by_cases hbuild : (s.record i).inBuild = true
  · rw [if_pos hbuild, if_pos (.inl hbuild)]
  · rw [if_neg hbuild]
    refine (hcount i).trans ?_
    simp only [hbuild, Bool.false_eq_true, false_or]

theorem giveShowing_count (s : State) (b : Build) (m : Map) (i : Slot) :
    (s.giveShowing b m).router.staleCounts[i] =
      if (s.giveShowing b m).isShown i = true ∧ s.isShown i = false then 0 else s.router.staleCounts[i] := by
  have hshown : (s.giveShowing b m).isShown i = (s.mapRecords fun i r =>
      if r.lifecycle = .inService then { r with showing := b.showing i, ownedTiles := m.ownedCount i } else r).isShown i :=
    rfl
  rw [hshown]
  refine (Vec.tabulate_get _ i).trans ?_
  simp only [Bool.and_eq_true, Bool.not_eq_true']
  rfl

/-! ## The jobs of the swap -/

/-- The BACKGROUND job of a swap, where a Changed tile has Owner 0 (R67). -/
def Map.background (m : Map) : List Key := if m.changedOwnedBy none then [.background] else []

theorem foldl_queueRegion (l : List Slot) (s : State) : l.foldl (fun u i => u.queueJob (.region i)) s =
    { s with fill := { s.fill with queue := (l.map Key.region).foldl joinKey s.fill.queue } } := by
  induction l generalizing s with
  | nil => rfl
  | cons i rest ih => rw [List.foldl_cons, ih, queueJob_join]; rfl

theorem queueSwapJobs_eq (s : State) (included : Slot → Bool) (m : Map) : s.queueSwapJobs included m = { s with
    fill := { s.fill with
      queue := ((s.swapJobs included m).map Key.region ++ m.background).foldl joinKey s.fill.queue } } := by
  unfold State.queueSwapJobs Map.background
  dsimp only
  rw [foldl_queueRegion, List.foldl_append]
  split
  · rw [queueJob_join]
    rfl
  · rfl

/-! ## The whole -/

/-- The state that the jobs of a swap are chosen in: its records settled, the banks exchanged, the Showing given. -/
def State.shownAfter (b : Build) (m : Map) (s : State) : State :=
  ((s.requeueJob.settleRecords b).exchange m).giveShowing b m

/-- The region jobs of a swap (R67). -/
def State.swapRegions (b : Build) (m : Map) (s : State) : List Slot :=
  (s.shownAfter b m).swapJobs (fun i => (s.record i).inBuild) m

theorem shownAfter_record (s : State) (b : Build) (m : Map) (i : Slot) : (s.shownAfter b m).record i =
    ((s.record i).settled s.table.quarantineLength (decide (b.snapshot[i] = .excluded))).given (b.showing i)
      (m.ownedCount i) := by
  have hrecord : s.requeueJob.record i = s.record i := by rw [requeueJob_eq]; rfl
  have hlength : s.requeueJob.table = s.table := by rw [requeueJob_eq]
  rw [State.shownAfter, giveShowing_record]
  change ((s.requeueJob.settleRecords b).record i).given _ _ = _
  rw [settleRecords_record, hrecord, hlength]

theorem queued_eq (s : State) (b : Build) (m : Map) : s.queued b m =
    (s.shownAfter b m).queueSwapJobs (fun i => (s.record i).inBuild) m := rfl

theorem queued_record (s : State) (b : Build) (m : Map) (i : Slot) : (s.queued b m).record i =
    ((s.record i).settled s.table.quarantineLength (decide (b.snapshot[i] = .excluded))).given (b.showing i)
      (m.ownedCount i) := by
  rw [queued_eq, queueSwapJobs_eq]
  exact shownAfter_record s b m i

theorem queued_isShown (s : State) (b : Build) (m : Map) (i : Slot) :
    (s.queued b m).isShown i = (s.shownAfter b m).isShown i := by
  rw [State.isShown, State.isShown, queued_record, shownAfter_record]

theorem requeueJob_leavers (s : State) (b : Build) : s.requeueJob.leavers b = s.leavers b := by
  rw [requeueJob_eq]
  rfl

theorem shownAfter_jobs (s : State) (b : Build) (m : Map) :
    (s.shownAfter b m).fill =
      { s.fill with queue := s.waitingKeys.filter (s.staysQueued b), job := none }
    ∧ (s.shownAfter b m).link =
      { s.link with fillWaiting := if s.fill.job = none then s.link.fillWaiting else none }
    ∧ ∀ i : Slot, (s.requeueJob.settleRecords b).router.staleCounts[i] =
      if (s.record i).inBuild = true ∨ i ∈ s.leavers b then 0 else s.router.staleCounts[i] := by
  have hstays : s.requeueJob.staysQueued b = s.staysQueued b := by
    unfold State.staysQueued
    rw [requeueJob_leavers]
  obtain ⟨hfill, hlink, hcount⟩ := settleRecords_jobs (s := s.requeueJob) b (by rw [requeueJob_eq])
  rw [hstays] at hfill
  rw [requeueJob_leavers] at hcount
  refine ⟨?_, ?_, fun i => ?_⟩
  · change (s.requeueJob.settleRecords b).fill = _
    rw [hfill, requeueJob_eq]
  · change (s.requeueJob.settleRecords b).link = _
    rw [hlink, requeueJob_eq]
  · refine (hcount i).trans ?_
    rw [requeueJob_eq]
    rfl

theorem queued_fill (s : State) (b : Build) (m : Map) : (s.queued b m).fill = { s.fill with
    queue := ((s.swapRegions b m).map Key.region ++ m.background).foldl joinKey (s.waitingKeys.filter (s.staysQueued b))
    job := none } := by
  rw [queued_eq, queueSwapJobs_eq]
  dsimp only
  rw [(shownAfter_jobs s b m).1]
  rfl

theorem queued_link (s : State) (b : Build) (m : Map) : (s.queued b m).link =
    { s.link with fillWaiting := if s.fill.job = none then s.link.fillWaiting else none } := by
  rw [queued_eq, queueSwapJobs_eq]
  exact (shownAfter_jobs s b m).2.1

/-- The stale count of a region restarts at a swap where the build included it, where it leaves, and where it becomes
SHOWN (R34, R36, R66). -/
theorem queued_count (s : State) (b : Build) (m : Map) (i : Slot) : (s.queued b m).router.staleCounts[i] =
    if (s.record i).inBuild = true ∨ i ∈ s.leavers b ∨ ((s.queued b m).isShown i = true ∧ s.isShown i = false) then 0
    else s.router.staleCounts[i] := by
  have hrouter : (s.queued b m).router = (s.shownAfter b m).router := by rw [queued_eq, queueSwapJobs_eq]
  have hsettled := (shownAfter_jobs s b m).2.2 i
  rw [hrouter, queued_isShown]
  refine (giveShowing_count ((s.requeueJob.settleRecords b).exchange m) b m i).trans ?_
  change (if (s.shownAfter b m).isShown i = true ∧ (s.requeueJob.settleRecords b).isShown i = false then 0
    else (s.requeueJob.settleRecords b).router.staleCounts[i]) = _
  rw [hsettled]
  by_cases hrestarts : (s.record i).inBuild = true ∨ i ∈ s.leavers b
  · rw [if_pos hrestarts, ite_self, if_pos (hrestarts.imp_right .inl)]
  · have hnot := hrestarts
    rw [not_or] at hrestarts
    obtain ⟨hbuild, hleaves⟩ := hrestarts
    have hrecord : (s.requeueJob.settleRecords b).record i = s.record i := by
      have hstays := mt (mem_leavers s b i).mpr hleaves
      rw [settleRecords_record, Record.settled, show s.requeueJob.record i = s.record i by rw [requeueJob_eq]; rfl,
        if_neg hstays, if_neg hbuild]
    have hshown : (s.requeueJob.settleRecords b).isShown i = s.isShown i := by rw [State.isShown, State.isShown, hrecord]
    rw [if_neg hnot, hshown]
    simp only [hbuild, hleaves, Bool.false_eq_true, false_or]

end Sys2Proof.Machine


/-! SUPPORT. What follows the jobs of a swap: its flag, the zone modes and SETTLING, the test of the drain and that of
SETTLING (R67, R69, R134, R136, R137). -/

namespace Sys2Proof.Machine

variable {s t u : State} {b : Build} {m : Map}

/-! ## What the conclusion of a swap leaves -/

/-- From s to t a swap concludes: of the engine, the link, the records and the jobs it changes no more than the phase,
the claims, the messages and In Build. -/
structure Concludes (s t : State) : Prop where
  epoch : t.engine.epoch = s.engine.epoch
  active : t.engine.active = s.engine.active
  conflict : t.engine.conflict = s.engine.conflict
  records : ∀ i, (s.record i).Ends (t.record i)
  stale : ∀ i, (t.record i).stale = (s.record i).stale
  router : t.router = s.router
  fill : t.fill = s.fill
  link : t.link = { s.link with slots := t.link.slots }
  pins : t.pins = s.pins
  flags : ∀ f, s.flag f = true → t.flag f = true

theorem Concludes.refl (s : State) : Concludes s s :=
  ⟨rfl, rfl, rfl, fun _ => .refl _, fun _ => rfl, rfl, rfl, rfl, rfl, fun _ => id⟩

theorem Concludes.trans (h : Concludes s t) (h' : Concludes t u) : Concludes s u where
  epoch := h'.epoch.trans h.epoch
  active := h'.active.trans h.active
  conflict := h'.conflict.trans h.conflict
  records i := (h.records i).trans (h'.records i)
  stale i := (h'.stale i).trans (h.stale i)
  router := h'.router.trans h.router
  fill := h'.fill.trans h.fill
  link := by rw [h'.link, h.link]
  pins := h'.pins.trans h.pins
  flags f := h'.flags f ∘ h.flags f

theorem Concludes.inReset (h : Concludes s t) : t.inReset = s.inReset := by rw [State.inReset, State.inReset, h.pins]

theorem Concludes.isShown (h : Concludes s t) (i : Slot) : t.isShown i = s.isShown i := by
  rw [State.isShown, State.isShown, (h.records i).rest]

theorem concludes_setFlag (s : State) (f : EventFlag) : Concludes s (s.setFlag f) := by
  have hgrow := (flagsGrow_setFlag s f).grow
  obtain ⟨flags, h⟩ := setFlag_writes s f
  rw [h] at hgrow ⊢
  exact { Concludes.refl s with flags := hgrow }

theorem concludes_takeClaim (s : State) : Concludes s s.takeClaim := by
  have hgrow := (flagsGrow_takeClaim s).grow
  have hrecords := (ends_takeClaim s).records
  have hstale := (quiet_takeClaim s).stale
  obtain ⟨flags, phase, claims, slots, h⟩ := takeClaim_writes s
  rw [h] at hgrow hrecords hstale ⊢
  exact { Concludes.refl s with flags := hgrow, records := hrecords, stale := hstale }

theorem concludes_drainTest (s : State) : Concludes s s.drainTest := by
  have idle : Concludes s s.enterIdle :=
    Concludes.trans (t := { s with engine := { s.engine with phase := .idle } }) { Concludes.refl s with }
      (concludes_takeClaim _)
  unfold State.drainTest
  split
  · split
    · exact .refl s
    · exact idle
  · exact .refl s
  · exact .refl s
  · exact .refl s

theorem concludes_swapFlag (s : State) (b : Build) : Concludes s (s.swapFlag b) := by
  have hgrow := (flagsGrow_swapFlag s b).grow
  obtain ⟨flags, h⟩ := swapFlag_writes s b
  rw [h] at hgrow ⊢
  exact { Concludes.refl s with flags := hgrow }

theorem concludes_enterSettling (s : State) : Concludes s s.enterSettling := by
  have hgrow := (flagsGrow_enterSettling s).grow
  obtain ⟨flags, slots, h⟩ := enterSettling_writes s
  rw [h] at hgrow ⊢
  exact { Concludes.refl s with link := rfl, flags := hgrow }

/-- Without a Waiting Target the test of SETTLING writes the transition and its flag alone (R137). -/
theorem settleTest_or (hwaiting : s.transition.waitingTarget = none) : s.settleTest = s ∨
    s.settleTest = (s.updTransition Transition.settled).setFlag .transitionDone := by
  by_cases h : s.transition.state = .settling ∧ s.fillIdle = true
  · exact .inr (settleTest_done h.1 h.2 hwaiting)
  · exact .inl (if_neg h)

theorem concludes_settleTest (hwaiting : s.transition.waitingTarget = none) : Concludes s s.settleTest := by
  rcases settleTest_or hwaiting with h | h <;> rw [h]
  · exact .refl s
  · exact Concludes.trans (t := s.updTransition Transition.settled) { Concludes.refl s with }
      (concludes_setFlag _ .transitionDone)

theorem enterSettling_transition (s : State) : s.enterSettling.transition = s.transition.settling := by
  obtain ⟨flags, slots, h⟩ := enterSettling_writes s
  rw [h]
  rfl

theorem drainTest_transition (s : State) : s.drainTest.transition = s.transition := by
  obtain ⟨_, _, _, _, h⟩ := drainTest_writes s
  rw [h]

/-- The transition at the test of SETTLING has no Waiting Target (R136). -/
theorem settling_waiting (s : State) : s.enterSettling.drainTest.transition.waitingTarget = none := by
  rw [drainTest_transition, enterSettling_transition]
  rfl

/-- The conclusion of a swap from its jobs on. -/
theorem concludes_swap (s : State) (b : Build) (m : Map) : Concludes (s.queued b m) (s.swap b m) := by
  have flagged := concludes_swapFlag (s.queued b m) b
  rw [swap_eq, swapped_eq]
  split
  · exact ((flagged.trans (concludes_enterSettling _)).trans (concludes_drainTest _)).trans
      (concludes_settleTest (settling_waiting _))
  · exact flagged.trans (concludes_drainTest _)

/-! ## The drain -/

theorem settleTest_engine (hwaiting : s.transition.waitingTarget = none) : s.settleTest.engine = s.engine := by
  rcases settleTest_or hwaiting with h | h <;> rw [h]
  rw [setFlag_engine]
  rfl

/-- What the test of the drain finds at a swap: the map that was ACTIVE held, under the epoch before (R68). -/
theorem swap_drains (s : State) (b : Build) (m : Map) : ∃ x : State, (s.swap b m).engine = x.drainTest.engine
    ∧ x.engine.phase = .draining s.engine.active s.engine.epoch ∧ x.router.streams = s.router.streams := by
  obtain ⟨_, _, _, _, _, _, _, hswapped, -, -⟩ := swapped_writes s b m
  refine ⟨s.swapped b m, ?_, ?_, ?_⟩
  · rw [swap_eq]
    split
    next hkind =>
      refine settleTest_engine ?_
      rw [swapped_eq, if_pos hkind]
      exact settling_waiting _
    next => rfl
  · rw [hswapped]
  · rw [hswapped]

theorem swap_draining (h : ∃ (n : Fin 8) (f : Frame), s.router.streams[n].frame = some f ∧ f.stamp = s.engine.epoch) :
    (s.swap b m).engine.phase = .draining s.engine.active s.engine.epoch := by
  obtain ⟨x, hengine, hphase, hstreams⟩ := swap_drains s b m
  have hopen : x.frameOpenWith s.engine.epoch = true := by
    rw [frameOpenWith_iff, hstreams]
    exact h
  rw [hengine, drainTest_draining x _ _ hphase, if_pos hopen, hphase]

theorem swap_undrained (h : ∀ (n : Fin 8) (f : Frame), s.router.streams[n].frame = some f → f.stamp ≠ s.engine.epoch) :
    ∀ x e, (s.swap b m).engine.phase ≠ .draining x e := by
  obtain ⟨x, hengine, hphase, hstreams⟩ := swap_drains s b m
  have hclosed : ¬ x.frameOpenWith s.engine.epoch = true := by
    rw [frameOpenWith_iff, hstreams]
    exact fun ⟨n, f, hframe, hstamp⟩ => h n f hframe hstamp
  rw [hengine, drainTest_draining x _ _ hphase, if_neg hclosed]
  exact takeClaim_undrained (s := { x with engine := { x.engine with phase := .idle } }) nofun

/-! ## The messages -/

/-- What a zone is told at a swap (R95, R136). -/
def toldMessage (on : Bool) : Message :=
  if on = true then { on := true, brightness := 255 } else { on := false, brightness := 0 }

/-- The slots with what a zone is told that is not TRIPPED. -/
def toldSlots (p : PerZone (Option Message)) (z : Zone) (q : ZoneState) (on : Bool) : PerZone (Option Message) :=
  if q.mode = .tripped then p else p.set z (some (toldMessage on))

theorem toldSlots_self (p : PerZone (Option Message)) (z : Zone) (q : ZoneState) (on : Bool) :
    (toldSlots p z q on).get z = if q.mode = .tripped then p.get z else some (toldMessage on) := by
  unfold toldSlots
  split
  · rfl
  · rw [PerZone.get_set_self]

theorem toldSlots_ne (p : PerZone (Option Message)) {z z' : Zone} (q : ZoneState) (on : Bool) (h : z ≠ z') :
    (toldSlots p z q on).get z' = p.get z' := by
  unfold toldSlots
  split
  · rfl
  · exact PerZone.get_set_ne p z z' _ h

theorem setTo_wanted (q : ZoneState) (on : Bool) : (q.setTo on).wanted = toldMessage on := by
  cases on <;> rfl

theorem applyTable_eq (l : Layout) (z : Zone) (hreset : s.inReset = false) : s.applyTable l z =
    { s.updZone z (ZoneState.follow (s.tableEntry l z)) with
      link := { s.link with slots := toldSlots s.link.slots z (s.zoneState z) (s.tableEntry l z) } } := by
  have hset : (s.updZone z (ZoneState.setTo (s.tableEntry l z))).zoneState z =
      (s.zoneState z).setTo (s.tableEntry l z) := by cases z <;> rfl
  rw [updZone_follow]
  unfold State.applyTable toldSlots
  split
  · rfl
  · rw [placeMessage_eq _ _ (by exact hreset), hset, setTo_wanted]
    rfl

theorem foldl_applyTable_slots (hreset : s.inReset = false) (z : Zone) :
    (zoneList.foldl (fun u z => u.applyTable u.activeLayout z) s).link.slots.get z =
      if (s.zoneState z).mode = .tripped then s.link.slots.get z
      else some (toldMessage (s.tableEntry s.activeLayout z)) := by
  have hslots : (zoneList.foldl (fun u z => u.applyTable u.activeLayout z) s).link.slots =
      toldSlots (toldSlots (toldSlots s.link.slots .rear (s.zoneState .rear) (s.tableEntry s.activeLayout .rear))
        .spine (s.zoneState .spine) (s.tableEntry s.activeLayout .spine))
        .front (s.zoneState .front) (s.tableEntry s.activeLayout .front) := by
    simp only [zoneList, List.foldl_cons, List.foldl_nil]
    rw [applyTable_eq _ .rear hreset, applyTable_eq _ .spine (by exact hreset), applyTable_eq _ .front (by exact hreset)]
    rfl
  rw [hslots]
  cases z with
  | rear => rw [toldSlots_ne _ _ _ (by decide), toldSlots_ne _ _ _ (by decide), toldSlots_self]
  | spine => rw [toldSlots_ne _ _ _ (by decide), toldSlots_self, toldSlots_ne _ _ _ (by decide)]
  | front => rw [toldSlots_self, toldSlots_ne _ _ _ (by decide), toldSlots_ne _ _ _ (by decide)]

theorem enterSettling_slots (hreset : s.inReset = false) (z : Zone) : s.enterSettling.link.slots.get z =
    if (s.zoneState z).mode = .tripped then s.link.slots.get z
    else some (toldMessage (s.tableEntry s.activeLayout z)) := by
  refine Eq.trans ?_ (foldl_applyTable_slots hreset z)
  unfold State.enterSettling
  dsimp only
  rw [updTransition_link]
  split
  · rw [setFlag_link]
  · rfl

theorem enterSettling_zones (s : State) : s.enterSettling.zones.zone = s.zones.followed s.activeLayout := by
  obtain ⟨flags, slots, h⟩ := enterSettling_writes s
  rw [h]

/-- A joined commit reports COMMIT_DONE at the swap (R134). -/
theorem enterSettling_joined (hreset : s.inReset = false) (hjoined : s.transition.commitJoined = true) :
    s.enterSettling.flag .commitDone = true := by
  obtain ⟨slots, h⟩ := foldl_applyTable_writes s
  unfold State.enterSettling
  rw [h]
  dsimp only
  rw [if_pos hjoined]
  exact flag_setFlag_self .commitDone (by exact hreset)

/-! ## The flags -/

theorem swapFlag_commit (hreset : s.inReset = false) (h : b.kind = .commit) : (s.swapFlag b).flag .commitDone = true := by
  rw [State.swapFlag, h]
  exact flag_setFlag_self .commitDone hreset

theorem swapFlag_suppressed (hreset : s.inReset = false) (h : b.kind ≠ .commit) (hsuppressed : b.anySuppressed = true) :
    (s.swapFlag b).flag .conflictSuppressed = true := by
  have set := flag_setFlag_self .conflictSuppressed hreset
  rw [State.swapFlag, if_pos hsuppressed]
  cases hkind : b.kind with
  | commit => exact absurd hkind h
  | target => exact set
  | restore => exact set

theorem flag_swap {f : EventFlag} (h : ((s.queued b m).swapFlag b).flag f = true) : (s.swap b m).flag f = true := by
  rw [swap_eq, swapped_eq]
  split
  · exact (((concludes_enterSettling _).trans (concludes_drainTest _)).trans
      (concludes_settleTest (settling_waiting _))).flags f h
  · exact (concludes_drainTest _).flags f h

end Sys2Proof.Machine


/-! SUPPORT. A scan start at which a map swaps: what the swap, the count of the regions and the end of the event make of
a record and of its stale count (R34, R36, R38, R66, R86, R87). -/

namespace Sys2Proof.Machine

variable {s t u v : State} {b : Build} {m : Map} {i : Slot}

/-! ## The scan start with a swap -/

/-- The state after a swap and the count of the regions whose count it has not restarted (R86). -/
def State.swapTicked (b : Build) (m : Map) (v : State) : State :=
  (v.swap b m).staleTick fun i => !State.restarted v (v.swap b m) i

theorem dueSwap_some (hphase : s.engine.phase = .ready b m)
    (hordered : b.kind = .target → s.transition.state = .holding ∧ s.transition.holdCount = s.transition.blankHold) :
    s.dueSwap = some (b, m) := by
  rw [State.dueSwap, hphase]
  dsimp only
  cases hkind : b.kind with
  | commit => rfl
  | restore => rfl
  | target => exact if_pos ((swapOrdered_iff s).mpr (hordered hkind))

theorem scanStart_swaps (h : s.quarantineTick.dueSwap = some (b, m)) :
    s.scanStart = (s.quarantineTick.swapTicked b m).finish := by
  rw [State.scanStart]
  dsimp only
  rw [h]
  rfl

/-- The state that a swap at a scan start finds: the timer restarted, QUARANTINE counted (R38, R99). -/
def State.swapping (s : State) (flags : BitVec 14) : State := (s.scanned flags).quarantineTick

theorem swapping_record (s : State) (flags : BitVec 14) (i : Slot) :
    (s.swapping flags).record i = (s.record i).quarantineTick := quarantineTick_record _ i

theorem swapping_isShown (s : State) (flags : BitVec 14) (i : Slot) : (s.swapping flags).isShown i = s.isShown i :=
  quarantineTick_isShown _ i

/-- A scan start at which the READY map swaps (R64, R99, R133). -/
theorem exec_swap {c : Instr} (hreset : s.inReset = false)
    (hc : c = .scanStart ∨ (c = .substituteScanStart ∧ s.link.timer ≠ none)) (hphase : s.engine.phase = .ready b m)
    (hordered : b.kind = .target → s.transition.state = .holding ∧ s.transition.holdCount = s.transition.blankHold) :
    ∃ flags, exec c s = .next ((s.swapping flags).swapTicked b m).finish := by
  obtain ⟨flags, h⟩ := exec_scan hreset hc
  exact ⟨flags, h.trans (congrArg _ (scanStart_swaps (dueSwap_some hphase hordered)))⟩

/-! ## From the swap to the end of the event -/

theorem swapTicked_ticked (v : State) (b : Build) (m : Map) :
    Ticked (slotList.filter fun i => !State.restarted v (v.swap b m) i) (v.swap b m) (v.swapTicked b m) :=
  ticked_staleTick _ _

theorem mem_notRestarted : i ∈ (slotList.filter fun i => !State.restarted v (v.swap b m) i) ↔
    State.restarted v (v.swap b m) i = false := by
  rw [List.mem_filter, Bool.not_eq_true']
  exact and_iff_right (mem_slotList i)

theorem swap_isShown : (v.swap b m).isShown i = (v.queued b m).isShown i := (concludes_swap v b m).isShown i

theorem swapTicked_isShown : (v.swapTicked b m).isShown i = (v.queued b m).isShown i := by
  rw [← swap_isShown, State.isShown, State.isShown, (swapTicked_ticked v b m).record i]
  split <;> rfl

theorem end_isShown : (v.swapTicked b m).finish.isShown i = (v.queued b m).isShown i := by
  have hends := (ends_finish (v.swapTicked b m)).records i
  rw [← swapTicked_isShown, State.isShown, State.isShown, hends.rest]

theorem restarted_iff : State.restarted v (v.swap b m) i = true ↔
    (v.record i).inBuild = true ∨ ((v.queued b m).isShown i = true ∧ v.isShown i = false) := by
  rw [State.restarted, swap_isShown, Bool.or_eq_true, Bool.and_eq_true, Bool.not_eq_true']

/-- All but Stale and In Build of a record is as the swap has left it. -/
theorem end_rest (v : State) (b : Build) (m : Map) (i : Slot) : (v.swapTicked b m).finish.record i =
    { (v.queued b m).record i with
      stale := ((v.swapTicked b m).finish.record i).stale, inBuild := ((v.swapTicked b m).finish.record i).inBuild } := by
  have hswap := ((concludes_swap v b m).records i).rest
  have hends := ((ends_finish (v.swapTicked b m)).records i).rest
  have htick := (swapTicked_ticked v b m).record i
  split at htick <;> rw [hends, htick, hswap]

/-- A slot that holds no record after the swap keeps that (R23). -/
theorem end_unused (h : ((v.queued b m).record i).lifecycle = .free ∨ ((v.queued b m).record i).lifecycle = .quarantine) :
    (v.swapTicked b m).finish.record i = (v.queued b m).record i := by
  have hswap := ((concludes_swap v b m).records i).unused h
  have htick := (swapTicked_ticked v b m).record i
  rw [if_neg, hswap] at htick
  · have hends := (ends_finish (v.swapTicked b m)).records i
    rw [htick] at hends
    exact hends.unused h
  · rintro ⟨-, hturns⟩
    have hlife := turnsStale_inService hturns
    rw [hswap] at hlife
    rcases h with h | h <;> exact nomatch h.symm.trans hlife

/-- Without a pending change that a claim could take, a record has In Build clear at the end (R28). -/
theorem end_inBuild (hbuild : ((v.queued b m).record i).inBuild = false)
    (hlife : ((v.queued b m).record i).lifecycle = .inService)
    (hpending : ((v.queued b m).record i).commitPending = false) :
    ((v.swapTicked b m).finish.record i).inBuild = false := by
  have taken {r q : Record} (h : r.Ends q) (hbuild : r.inBuild = false) (hlife : r.lifecycle = .inService)
      (hpending : r.commitPending = false) : q.inBuild = false := by
    rcases h.inBuild with h | ⟨-, h | h⟩
    · exact h.trans hbuild
    · exact nomatch h.symm.trans hlife
    · exact nomatch h.2.symm.trans hpending
  have hswap := (concludes_swap v b m).records i
  have hrecord : (v.swapTicked b m).record i =
      { (v.swap b m).record i with stale := ((v.swapTicked b m).record i).stale } := by
    have htick := (swapTicked_ticked v b m).record i
    split at htick <;> rw [htick]
  have hswapped := taken hswap hbuild hlife hpending
  refine taken ((ends_finish (v.swapTicked b m)).records i) ?_ ?_ ?_ <;> rw [hrecord]
  · exact hswapped
  · exact hswap.lifecycle.trans hlife
  · exact hswap.commitPending.trans hpending

/-- A region whose count the swap restarts does not turn Stale at this scan start (R86). -/
theorem end_stale (hstale : ((v.queued b m).record i).stale = false)
    (hrestarted : State.restarted v (v.swap b m) i = true) : ((v.swapTicked b m).finish.record i).stale = false := by
  have htick : (v.swapTicked b m).record i = (v.swap b m).record i := by
    refine ((swapTicked_ticked v b m).record i).trans (if_neg fun h => ?_)
    exact nomatch hrestarted.symm.trans (mem_notRestarted.mp h.1)
  rcases ((ends_finish (v.swapTicked b m)).records i).stale with h | ⟨h, -⟩
  · rw [h, htick, (concludes_swap v b m).stale i, hstale]
  · exact h

theorem swapTicked_count (v : State) (b : Build) (m : Map) (i : Slot) : (v.swapTicked b m).router.staleCounts[i] =
    if State.restarted v (v.swap b m) i = false ∧ (v.swap b m).counted i = true then
      (v.queued b m).router.staleCounts[i] + 1
    else (v.queued b m).router.staleCounts[i] := by
  rw [(swapTicked_ticked v b m).count i, (concludes_swap v b m).router]
  simp only [mem_notRestarted]

/-- A count that the swap restarts is 0 at the end (R34, R66, R86). -/
theorem end_count (h : State.restarted v (v.swap b m) i = true) : (v.swapTicked b m).finish.router.staleCounts[i] = 0 := by
  have hzero : (v.swapTicked b m).router.staleCounts[i] = 0 := by
    have hnot : ¬ (State.restarted v (v.swap b m) i = false ∧ (v.swap b m).counted i = true) :=
      fun hnot => Bool.false_ne_true (hnot.1.symm.trans h)
    rw [swapTicked_count, if_neg hnot, queued_count]
    exact if_pos ((restarted_iff.mp h).imp_right .inr)
  rcases (ends_finish (v.swapTicked b m)).counts i with hcount | hcount
  · rw [hcount, hzero]
  · exact hcount

/-! ## What becomes of a record -/

theorem queued_leaves (h : i ∈ v.leavers b) :
    (v.queued b m).record i = (v.record i).quarantined v.table.quarantineLength := by
  rw [queued_record, Record.settled, if_pos ((mem_leavers v b i).mp h)]
  exact if_neg nofun

theorem queued_included (h : i ∉ v.leavers b) (hbuild : (v.record i).inBuild = true) :
    (v.queued b m).record i =
      { (v.record i).committed with showing := b.showing i, ownedTiles := m.ownedCount i } := by
  rw [queued_record, Record.settled, if_neg (mt (mem_leavers v b i).mpr h), if_pos hbuild]
  exact if_pos rfl

theorem queued_stands (h : i ∉ v.leavers b) (hbuild : (v.record i).inBuild = false) :
    (v.queued b m).record i = (v.record i).given (b.showing i) (m.ownedCount i) := by
  rw [queued_record, Record.settled, if_neg (mt (mem_leavers v b i).mpr h), if_neg (by rw [hbuild]; nofun)]

theorem given_rest (r : Record) (showing : Showing) (owned : Nat) : r.given showing owned =
    { r with showing := (r.given showing owned).showing, ownedTiles := (r.given showing owned).ownedTiles } := by
  unfold Record.given
  split <;> rfl

theorem end_leaves (h : i ∈ v.leavers b) :
    (v.swapTicked b m).finish.record i = (v.record i).quarantined v.table.quarantineLength := by
  have hqueued := queued_leaves (m := m) h
  rw [end_unused (by rw [hqueued]; exact .inr rfl), hqueued]

/-- A record that the build included: its pending copy is live (R34, R36). -/
theorem end_included (h : i ∉ v.leavers b) (hbuild : (v.record i).inBuild = true) :
    ((v.swapTicked b m).finish.record i).lifecycle = .inService
    ∧ ((v.swapTicked b m).finish.record i).live = (v.record i).pending
    ∧ ((v.swapTicked b m).finish.record i).pending = none
    ∧ ((v.swapTicked b m).finish.record i).commitPending = false
    ∧ ((v.swapTicked b m).finish.record i).inBuild = false
    ∧ ((v.swapTicked b m).finish.record i).stale = false
    ∧ (v.swapTicked b m).finish.router.staleCounts[i] = 0 := by
  have hqueued := queued_included (m := m) h hbuild
  have hrestarted : State.restarted v (v.swap b m) i = true := restarted_iff.mpr (.inl hbuild)
  have hrest := end_rest v b m i
  rw [hqueued] at hrest
  refine ⟨by rw [hrest]; rfl, by rw [hrest]; rfl, by rw [hrest]; rfl, by rw [hrest]; rfl, ?_, ?_, end_count hrestarted⟩
  · exact end_inBuild (by rw [hqueued]; rfl) (by rw [hqueued]; rfl) (by rw [hqueued]; rfl)
  · exact end_stale (by rw [hqueued]; rfl) hrestarted

/-- A record that the swap passes by keeps all but its Showing, Owned Tiles, Stale and In Build. -/
theorem end_stands (h : i ∉ v.leavers b) (hbuild : (v.record i).inBuild = false) :
    (v.swapTicked b m).finish.record i = { v.record i with
      showing := ((v.swapTicked b m).finish.record i).showing
      ownedTiles := ((v.swapTicked b m).finish.record i).ownedTiles
      stale := ((v.swapTicked b m).finish.record i).stale
      inBuild := ((v.swapTicked b m).finish.record i).inBuild } := by
  have hrest := end_rest v b m i
  rw [queued_stands h hbuild, given_rest] at hrest
  rw [hrest]

theorem end_passedBy (h : i ∉ v.leavers b) (hbuild : (v.record i).inBuild = false)
    (hlife : (v.record i).lifecycle = .free ∨ (v.record i).lifecycle = .quarantine) :
    (v.swapTicked b m).finish.record i = v.record i := by
  have hqueued : (v.queued b m).record i = v.record i := by
    rw [queued_stands h hbuild]
    refine if_neg fun hin => ?_
    rcases hlife with hl | hl <;> exact nomatch hl.symm.trans hin
  rw [end_unused (by rw [hqueued]; exact hlife), hqueued]

theorem queued_given (hlife : ((v.queued b m).record i).lifecycle = .inService) :
    ((v.queued b m).record i).ownedTiles = m.ownedCount i ∧ ((v.queued b m).record i).showing = b.showing i := by
  rw [queued_record] at hlife ⊢
  generalize (v.record i).settled v.table.quarantineLength (decide (b.snapshot[i] = .excluded)) = r at hlife
  unfold Record.given at hlife ⊢
  split at hlife
  next h => rw [if_pos h]; exact ⟨rfl, rfl⟩
  next h => exact absurd hlife h

/-- Every IN_SERVICE record has its Showing and Owned Tiles from the new map (R66). -/
theorem end_given (hlife : ((v.swapTicked b m).finish.record i).lifecycle = .inService) :
    ((v.swapTicked b m).finish.record i).ownedTiles = m.ownedCount i
    ∧ ((v.swapTicked b m).finish.record i).showing = b.showing i := by
  have hrest := end_rest v b m i
  have hqueued : ((v.queued b m).record i).lifecycle = .inService := by
    rw [hrest] at hlife
    exact hlife
  rw [hrest]
  exact queued_given hqueued

/-- The count of a region that becomes SHOWN restarts (R66). -/
theorem end_becomesShown (h : (v.swapTicked b m).finish.isShown i = true) (hnot : v.isShown i = false) :
    (v.swapTicked b m).finish.router.staleCounts[i] = 0 := by
  rw [end_isShown] at h
  exact end_count (restarted_iff.mpr (.inr ⟨h, hnot⟩))

theorem end_generation (v : State) (b : Build) (m : Map) (i : Slot) :
    ((v.swapTicked b m).finish.record i).generation = (v.record i).generation := by
  have hgiven (r : Record) (showing : Showing) (owned : Nat) : (r.given showing owned).generation = r.generation := by
    rw [given_rest]
  rw [end_rest]
  change ((v.queued b m).record i).generation = _
  rw [queued_record, hgiven, Record.settled]
  split
  · rfl
  · split <;> rfl

end Sys2Proof.Machine


/-! CLAIM. A scan start at which a map swaps: the epoch and the banks, the records, the stale counts, the flags, the drain
and the queue of jobs (O25). -/

namespace Sys2Proof.Machine

variable {s t u v : State} {b : Build} {m : Map} {i : Slot}

/-! ## The count of QUARANTINE before the swap -/

/-- A slot freed by the count of QUARANTINE (R38). -/
def Record.expires (r : Record) : Prop := r.lifecycle = .quarantine ∧ r.quarantineCount ≤ 1

theorem quarantineTick_stays {r : Record} (h : ¬ r.expires) :
    r.quarantineTick = { r with quarantineCount := r.quarantineTick.quarantineCount } := by
  by_cases hlife : r.lifecycle = .quarantine
  · rw [quarantineTick_counts hlife (Nat.lt_of_not_le fun hcount => h ⟨hlife, hcount⟩)]
  · rw [quarantineTick_else hlife]

theorem quarantineTick_inBuild_iff (r : Record) : r.quarantineTick.inBuild = true ↔ r.inBuild = true ∧ ¬ r.expires := by
  by_cases h : r.expires
  · rw [quarantineTick_freed h.1 h.2]
    exact iff_of_false nofun fun hn => hn.2 h
  · rw [quarantineTick_stays h]
    exact (and_iff_left h).symm

theorem quarantineTick_leaves (r : Record) : (r.quarantineTick.inBuild && r.quarantineTick.retirePending) = true ↔
    (r.inBuild = true ∧ ¬ r.expires) ∧ r.retirePending = true := by
  rw [Bool.and_eq_true, quarantineTick_inBuild_iff]
  refine and_congr_right fun h => ?_
  rw [quarantineTick_stays h.2]

/-- A record in use has not been counted. -/
theorem quarantineTick_used {r : Record} (h : r.quarantineTick.lifecycle = .staged ∨ r.quarantineTick.lifecycle = .inService) :
    r.quarantineTick = r := by
  by_cases hlife : r.lifecycle = .quarantine
  · rcases quarantineTick_unused hlife with hl | hl <;> rcases h with h | h <;> exact nomatch hl.symm.trans h
  · exact quarantineTick_else hlife

theorem quarantineTick_of_used {r : Record} (h : r.lifecycle = .staged ∨ r.lifecycle = .inService) :
    r.quarantineTick = r := quarantineTick_else fun hlife => by
  rcases h with h | h <;> exact nomatch hlife.symm.trans h

theorem quarantineTick_generation (r : Record) : r.quarantineTick.generation = r.generation := by
  by_cases h : r.expires
  · rw [quarantineTick_freed h.1 h.2]
    rfl
  · rw [quarantineTick_stays h]

theorem mem_leavers_swapping {flags : BitVec 14} : i ∈ (s.swapping flags).leavers b ↔
    (((s.record i).inBuild = true ∧ ¬ (s.record i).expires) ∧ (s.record i).retirePending = true)
      ∨ b.snapshot[i] = .excluded := by
  rw [mem_leavers, swapping_record, Bool.or_eq_true, quarantineTick_leaves, decide_eq_true_iff]

/-- Of the records in use those leave that were included with Retire Pending, and those excluded (R34, R135). -/
theorem mem_leavers_used {flags : BitVec 14} (h : (s.record i).lifecycle = .staged ∨ (s.record i).lifecycle = .inService) :
    i ∈ (s.swapping flags).leavers b ↔
      ((s.record i).inBuild = true ∧ (s.record i).retirePending = true) ∨ b.snapshot[i] = .excluded := by
  have hexpires : ¬ (s.record i).expires := fun he => by
    rcases h with h | h <;> exact nomatch he.1.symm.trans h
  rw [mem_leavers_swapping, and_iff_left hexpires]

theorem not_leavers {flags : BitVec 14} (hbuild : (s.record i).inBuild = false) (hexcluded : b.snapshot[i] ≠ .excluded) :
    i ∉ (s.swapping flags).leavers b := by
  rw [mem_leavers_swapping, hbuild]
  exact fun h => h.elim (fun h => nomatch h.1.1) hexcluded

/-! ## The stale counts on a link on which no packet waits -/

theorem swapTicked_router (v : State) (b : Build) (m : Map) : ∃ staleCounts,
    (v.swapTicked b m).router = { v.router with staleCounts } := by
  obtain ⟨_, _, counts, _, hticked⟩ := (swapTicked_ticked v b m).writes
  obtain ⟨_, _, _, _, _, hqueued⟩ := queued_writes v b m
  rw [hticked]
  dsimp only
  rw [(concludes_swap v b m).router, hqueued]
  exact ⟨counts, rfl⟩

theorem quiet_swapTicked (h : v.router.linkQueue = []) : Quiet (v.swapTicked b m) (v.swapTicked b m).finish := by
  obtain ⟨counts, hrouter⟩ := swapTicked_router v b m
  exact quiet_finish (by rw [hrouter]; exact h)

theorem count_leaves (h : i ∈ v.leavers b) : (v.swapTicked b m).finish.router.staleCounts[i] = 0 := by
  have hcounted : (v.swap b m).counted i = false := by
    refine Bool.eq_false_iff.mpr fun hc => ?_
    have hshown := ((counted_iff _ i).mp hc).1
    rw [swap_isShown, isShown_iff, queued_leaves h] at hshown
    exact nomatch hshown.1
  have hzero : (v.swapTicked b m).router.staleCounts[i] = 0 := by
    rw [swapTicked_count, if_neg fun hnot => Bool.eq_false_iff.mp hcounted hnot.2, queued_count]
    exact if_pos (.inr (.inl h))
  rcases (ends_finish (v.swapTicked b m)).counts i with hcount | hcount
  · rw [hcount, hzero]
  · exact hcount

/-- A region that the swap passes by and that is counted under the new map (R86). -/
def State.countedBy (v : State) (b : Build) (m : Map) (i : Slot) : Prop :=
  (v.queued b m).isShown i = true ∧ (v.record i).stale = false ∧ ∃ d p n oc orow, (v.record i).live = some d
    ∧ 1 ≤ d.attributes.staleLimit ∧ d.part m.layout = some p ∧ p.source = .stream n oc orow

theorem swap_stands (h : i ∉ v.leavers b) (hbuild : (v.record i).inBuild = false) :
    ((v.swap b m).record i).live = (v.record i).live ∧ ((v.swap b m).record i).stale = (v.record i).stale := by
  rw [(concludes_swap v b m).stale i, ((concludes_swap v b m).records i).rest, queued_stands h hbuild, given_rest]
  exact ⟨rfl, rfl⟩

theorem swap_layout (v : State) (b : Build) (m : Map) : (v.swap b m).engine.active = m := by
  obtain ⟨_, _, _, _, _, hqueued⟩ := queued_writes v b m
  rw [(concludes_swap v b m).active, hqueued]

theorem counted_iff_countedBy (h : i ∉ v.leavers b) (hbuild : (v.record i).inBuild = false) :
    (v.swap b m).counted i = true ↔ v.countedBy b m i := by
  obtain ⟨hlive, hstale⟩ := swap_stands (m := m) h hbuild
  rw [counted_iff, swap_isShown, hlive, hstale, swap_layout]
  rfl

section
variable (hbuild : (v.record i).inBuild = false)
  (hshown : ¬ ((v.queued b m).isShown i = true ∧ v.isShown i = false))
include hbuild hshown

theorem passed_restarted : State.restarted v (v.swap b m) i = false := by
  refine Bool.eq_false_iff.mpr fun hr => ?_
  rcases restarted_iff.mp hr with hr | hr
  · exact nomatch hbuild.symm.trans hr
  · exact hshown hr

variable (h : i ∉ v.leavers b)
include h

theorem passed_queuedCount : (v.queued b m).router.staleCounts[i] = v.router.staleCounts[i] := by
  rw [queued_count, hbuild]
  exact if_neg fun hn => hn.elim (fun hn => nomatch hn) fun hn => hn.elim h hshown

theorem passed_turnsStale {d : Content} (hc : v.countedBy b m i) (hlive : (v.record i).live = some d) :
    (v.swap b m).turnsStale i = true ↔ d.attributes.staleLimit ≤ v.router.staleCounts[i] + 1 := by
  rw [State.turnsStale, (counted_iff_countedBy h hbuild).mpr hc, Bool.true_and, decide_eq_true_iff,
    staleLimit_of_live ((swap_stands h hbuild).1.trans hlive), (concludes_swap v b m).router,
    passed_queuedCount hbuild hshown h]

variable (hlink : v.router.linkQueue = [])
include hlink

theorem passed_count_counted (hc : v.countedBy b m i) :
    (v.swapTicked b m).finish.router.staleCounts[i] = v.router.staleCounts[i] + 1 := by
  rw [(quiet_swapTicked hlink).counts, swapTicked_count, passed_queuedCount hbuild hshown h]
  exact if_pos ⟨passed_restarted hbuild hshown, (counted_iff_countedBy h hbuild).mpr hc⟩

theorem passed_count_else (hc : ¬ v.countedBy b m i) :
    (v.swapTicked b m).finish.router.staleCounts[i] = v.router.staleCounts[i] := by
  rw [(quiet_swapTicked hlink).counts, swapTicked_count, passed_queuedCount hbuild hshown h]
  exact if_neg fun hn => hc ((counted_iff_countedBy h hbuild).mp hn.2)

theorem passed_stale : ((v.swapTicked b m).finish.record i).stale = true ↔
    (v.swap b m).turnsStale i = true ∨ (v.record i).stale = true := by
  have hrestarted := mem_notRestarted.mpr (passed_restarted (m := m) hbuild hshown)
  rw [(quiet_swapTicked hlink).stale i, (swapTicked_ticked v b m).record i]
  split
  next hturns => exact iff_of_true rfl (.inl hturns.2)
  next hnot =>
    rw [(swap_stands h hbuild).2]
    exact (or_iff_right fun hturns => hnot ⟨hrestarted, hturns⟩).symm

end

end Sys2Proof.Machine


/-! CLAIM. The queue of jobs after a swap, and a scan start at which a map swaps as a whole (O25). -/

namespace Sys2Proof.Machine

variable {s t u v : State} {b : Build} {m : Map} {i : Slot}

/-! ## The jobs and the link after the swap -/

/-- The regions that turn Stale at the scan start of a swap, with a FILL job (R87). -/
def State.swapStales (b : Build) (m : Map) (v : State) : List Slot :=
  (slotList.filter fun i => !State.restarted v (v.swap b m) i).filter (v.swap b m).queuesFill

theorem swapTicked_queue (v : State) (b : Build) (m : Map) : (v.swapTicked b m).fill.queue =
    ((v.swapRegions b m).map Key.region ++ m.background ++ (v.swapStales b m).map Key.region).foldl joinKey
      (v.waitingKeys.filter (v.staysQueued b)) := by
  rw [(swapTicked_ticked v b m).queue, (concludes_swap v b m).fill, queued_fill,
    List.foldl_append (l := _ ++ m.background)]
  rfl

theorem swapTicked_job (v : State) (b : Build) (m : Map) : (v.swapTicked b m).fill.job = none := by
  obtain ⟨_, _, _, _, h⟩ := (swapTicked_ticked v b m).writes
  rw [h]
  dsimp only
  rw [(concludes_swap v b m).fill, queued_fill]

theorem swapTicked_link (v : State) (b : Build) (m : Map) : (v.swapTicked b m).link = (v.swap b m).link
    ∧ (v.swap b m).link = { v.link with
      slots := (v.swap b m).link.slots, fillWaiting := if v.fill.job = none then v.link.fillWaiting else none } := by
  obtain ⟨_, _, _, _, h⟩ := (swapTicked_ticked v b m).writes
  refine ⟨by rw [h], ?_⟩
  have hlink := (concludes_swap v b m).link
  rw [queued_link] at hlink
  exact hlink

theorem drainTest_link (s : State) : s.drainTest.link = s.link := by
  obtain ⟨_, _, _, _, h⟩ := drainTest_writes s
  rw [h]

/-- The swap of a COMMIT or RESTORE map places no message (R136). -/
theorem swap_slots (h : b.kind ≠ .target) : (v.swap b m).link.slots = v.link.slots := by
  obtain ⟨flags, hflag⟩ := swapFlag_writes (v.queued b m) b
  rw [swap_eq, if_neg h, swapped_eq, if_neg h, drainTest_link, hflag]
  dsimp only
  rw [queued_link]

theorem swapTicked_live (v : State) (b : Build) (m : Map) (i : Slot) :
    ((v.swapTicked b m).record i).live = ((v.swap b m).record i).live
    ∧ ((v.swap b m).record i).live = ((v.queued b m).record i).live := by
  refine ⟨?_, by rw [((concludes_swap v b m).records i).rest]⟩
  rw [(swapTicked_ticked v b m).record i]
  split <;> rfl

theorem swapTicked_active (v : State) (b : Build) (m : Map) : (v.swapTicked b m).engine.active = m := by
  rw [(swapTicked_ticked v b m).engine, swap_layout]

theorem swapTicked_activePart (v : State) (b : Build) (m : Map) (i : Slot) :
    (v.swapTicked b m).activePart i = (v.shownAfter b m).activePart i := by
  obtain ⟨hticked, hswap⟩ := swapTicked_live v b m i
  have hlive : ((v.swapTicked b m).record i).live = ((v.shownAfter b m).record i).live := by
    rw [hticked, hswap, queued_record, shownAfter_record]
  rw [State.activePart, State.activePart, Record.livePart, Record.livePart, hlive, State.activeLayout, State.activeLayout,
    swapTicked_active]
  rfl

/-- The region jobs of a swap are those of the SHOWN fill records that own a Changed tile or were included (R67). -/
theorem mem_swapRegions (hwf : m.wf = true) : i ∈ v.swapRegions b m ↔ (v.swapTicked b m).isShown i = true
    ∧ (∃ p c, (v.swapTicked b m).activePart i = some p ∧ p.source = .fill c)
    ∧ ((∃ x, m.changed x = true ∧ m.owner x = some i) ∨ (v.record i).inBuild = true) := by
  rw [State.swapRegions, State.swapJobs, List.mem_filter, Bool.and_eq_true, Bool.and_eq_true, Bool.or_eq_true,
    hasFillSource_iff, changedOwnedBy_iff hwf, swapTicked_isShown, queued_isShown, swapTicked_activePart, and_assoc]
  exact and_iff_right (mem_slotList i)

theorem swapRegions_pairwise (v : State) (b : Build) (m : Map) : (v.swapRegions b m).Pairwise (· < ·) := by
  exact List.Pairwise.filter _ slotList_pairwise

theorem background_cases (hwf : m.wf = true) :
    (m.background = [.background] ∧ ∃ x, m.changed x = true ∧ m.owner x = none)
      ∨ (m.background = [] ∧ ∀ x, m.changed x = true → m.owner x ≠ none) := by
  by_cases h : m.changedOwnedBy none = true
  · exact .inl ⟨if_pos h, (changedOwnedBy_iff hwf none).mp h⟩
  · exact .inr ⟨if_neg h, fun x hchanged howner => h ((changedOwnedBy_iff hwf none).mpr ⟨x, hchanged, howner⟩)⟩

/-! ## The regions that turn Stale -/

theorem mem_swapStales_iff : i ∈ v.swapStales b m ↔
    State.restarted v (v.swap b m) i = false ∧ (v.swap b m).queuesFill i = true :=
  List.mem_filter.trans (and_congr_left' mem_notRestarted)

/-- A region that turns Stale at the scan start of a swap was in use and not Stale before. -/
theorem swapStales_before (h : i ∈ v.swapStales b m) :
    (v.record i).lifecycle = .inService ∧ (v.record i).stale = false := by
  obtain ⟨hrestarted, hfill⟩ := mem_swapStales_iff.mp h
  rw [State.queuesFill, Bool.and_eq_true, State.turnsStale, Bool.and_eq_true, counted_iff, swap_isShown, isShown_iff] at hfill
  obtain ⟨⟨⟨⟨hlife, -⟩, hstale, -⟩, -⟩, -⟩ := hfill
  have hbuild : (v.record i).inBuild = false :=
    Bool.eq_false_iff.mpr fun hb => Bool.eq_false_iff.mp hrestarted (restarted_iff.mpr (.inl hb))
  have hstays : i ∉ v.leavers b := fun hl => by
    rw [queued_leaves hl] at hlife
    exact nomatch hlife
  rw [(swap_stands hstays hbuild).2] at hstale
  rw [queued_stands hstays hbuild, given_rest] at hlife
  exact ⟨hlife, hstale⟩

theorem queued_stale (h : (v.record i).stale = false) : ((v.queued b m).record i).stale = false := by
  rw [queued_record, given_rest, Record.settled]
  split
  · rfl
  · split
    · rfl
    · exact h

theorem swapStales_fill : ((v.swap b m).record i).live.any (fun d => d.attributes.staleAction = .fill) = true ↔
    ∃ d, ((v.swapTicked b m).record i).live = some d ∧ d.attributes.staleAction = .fill := by
  rw [(swapTicked_live v b m i).1, Option.any_eq_true]
  exact exists_congr fun d => and_congr_right fun _ => decide_eq_true_iff

theorem swapStales_after (h : i ∈ v.swapStales b m) : ((v.swapTicked b m).record i).stale = true
    ∧ ∃ d, ((v.swapTicked b m).record i).live = some d ∧ d.attributes.staleAction = .fill := by
  obtain ⟨hrestarted, hqueues⟩ := mem_swapStales_iff.mp h
  rw [State.queuesFill, Bool.and_eq_true] at hqueues
  obtain ⟨hturns, hany⟩ := hqueues
  refine ⟨?_, swapStales_fill.mp hany⟩
  rw [(swapTicked_ticked v b m).record i, if_pos ⟨mem_notRestarted.mpr hrestarted, hturns⟩]

theorem mem_swapStales_of (hbefore : (v.record i).stale = false) (hafter : ((v.swapTicked b m).record i).stale = true)
    (hfill : ∃ d, ((v.swapTicked b m).record i).live = some d ∧ d.attributes.staleAction = .fill) :
    i ∈ v.swapStales b m := by
  have hrecord := (swapTicked_ticked v b m).record i
  rw [mem_swapStales_iff, State.queuesFill, Bool.and_eq_true]
  split at hrecord
  next hturns => exact ⟨mem_notRestarted.mp hturns.1, hturns.2, swapStales_fill.mpr hfill⟩
  next =>
    rw [hrecord, (concludes_swap v b m).stale i, queued_stale hbefore] at hafter
    exact nomatch hafter

end Sys2Proof.Machine


/-! CLAIM. A scan start at which a map swaps (O25). -/

namespace Sys2Proof.Machine

variable {s t u v : State} {b : Build} {m : Map} {i : Slot} {flags : BitVec 14}

theorem swapTicked_engine (v : State) (b : Build) (m : Map) : (v.swapTicked b m).engine.epoch = v.engine.epoch + 1
    ∧ (v.swapTicked b m).engine.active = m ∧ (v.swapTicked b m).engine.conflict = v.engine.conflict := by
  obtain ⟨_, _, _, _, _, hqueued⟩ := queued_writes v b m
  have hconcludes := concludes_swap v b m
  rw [(swapTicked_ticked v b m).engine, hconcludes.epoch, hconcludes.active, hconcludes.conflict, hqueued]
  exact ⟨rfl, rfl, rfl⟩

theorem showing_eq (b : Build) (i : Slot) : b.showing i =
    if b.suppressedNow i = true ∨ b.isCarried i = true then Showing.suppressed
    else if b.isKept i = true then Showing.shown else Showing.parked := by
  simp only [Build.showing, Bool.or_eq_true]

theorem swapping_used (h : (s.record i).lifecycle = .staged ∨ (s.record i).lifecycle = .inService) :
    (s.swapping flags).record i = s.record i := (swapping_record s flags i).trans (quarantineTick_of_used h)

theorem swapping_inBuild (h : (s.record i).inBuild = false) : ((s.swapping flags).record i).inBuild = false := by
  rw [swapping_record]
  exact quarantineTick_inBuild h

/-! ## The flags and the drain -/

theorem swapTicked_flag {f : EventFlag} (h : ((v.queued b m).swapFlag b).flag f = true) :
    (v.swapTicked b m).finish.flag f = true :=
  (ends_finish _).flags f ((swapTicked_ticked v b m).flags f (flag_swap h))

theorem queued_inReset (v : State) (b : Build) (m : Map) : (v.queued b m).inReset = v.inReset :=
  (flagsGrow_queued v b m).inReset

theorem end_draining (hlink : v.router.linkQueue = [])
    (h : ∃ (n : Fin 8) (f : Frame), v.router.streams[n].frame = some f ∧ f.stamp = v.engine.epoch) :
    (v.swapTicked b m).finish.engine.phase = .draining v.engine.active v.engine.epoch := by
  refine (quiet_swapTicked hlink).draining _ _ ?_
  rw [(swapTicked_ticked v b m).engine]
  exact swap_draining h

theorem end_undrained (h : ∀ (n : Fin 8) (f : Frame), v.router.streams[n].frame = some f → f.stamp ≠ v.engine.epoch) :
    ∀ x e, (v.swapTicked b m).finish.engine.phase ≠ .draining x e := by
  refine (ends_finish (v.swapTicked b m)).undrained ?_
  rw [(swapTicked_ticked v b m).engine]
  exact swap_undrained h

/-! ## The regions that are counted -/

/-- A region that is SHOWN at the end and passed by was in use, its record as it was. -/
theorem swapping_shown (hlife : ((s.swapping flags).record i).lifecycle = .staged
    ∨ ((s.swapping flags).record i).lifecycle = .inService) : (s.swapping flags).record i = s.record i := by
  rw [swapping_record] at hlife ⊢
  exact quarantineTick_used hlife

theorem countedBy_used (h : i ∉ v.leavers b) (hbuild : (v.record i).inBuild = false) (hc : v.countedBy b m i) :
    (v.record i).lifecycle = .inService := by
  have hshown := ((isShown_iff _ i).mp hc.1).1
  rw [queued_stands h hbuild, given_rest] at hshown
  exact hshown

/-! ## The records, from the state before the scan start -/

section
variable (s flags b m i)

/-- The state at the end of the event. -/
def State.swapEnd (s : State) (flags : BitVec 14) (b : Build) (m : Map) : State :=
  ((s.swapping flags).swapTicked b m).finish

theorem swapEnd_generation : ((s.swapEnd flags b m).record i).generation = (s.record i).generation := by
  rw [State.swapEnd, end_generation, swapping_record, quarantineTick_generation]

end

section
variable (hlife : (s.record i).lifecycle = .staged ∨ (s.record i).lifecycle = .inService)
include hlife

theorem swapEnd_leaves (h : ((s.record i).inBuild = true ∧ (s.record i).retirePending = true) ∨ b.snapshot[i] = .excluded) :
    (s.swapEnd flags b m).record i = (s.record i).quarantined s.table.quarantineLength := by
  rw [State.swapEnd, end_leaves ((mem_leavers_used hlife).mpr h), swapping_used hlife]
  rfl

variable (h : ¬ (((s.record i).inBuild = true ∧ (s.record i).retirePending = true) ∨ b.snapshot[i] = .excluded))
include h

theorem swapEnd_included (hbuild : (s.record i).inBuild = true) :
    ((s.swapEnd flags b m).record i).lifecycle = .inService ∧ ((s.swapEnd flags b m).record i).live = (s.record i).pending
    ∧ ((s.swapEnd flags b m).record i).pending = none ∧ ((s.swapEnd flags b m).record i).commitPending = false
    ∧ ((s.swapEnd flags b m).record i).inBuild = false ∧ ((s.swapEnd flags b m).record i).stale = false
    ∧ (s.swapEnd flags b m).router.staleCounts[i] = 0 := by
  have hincluded := end_included (m := m) (mt (mem_leavers_used (flags := flags) hlife).mp h)
    (by rw [swapping_used hlife]; exact hbuild)
  rw [swapping_used hlife] at hincluded
  exact hincluded

theorem swapEnd_stands (hbuild : (s.record i).inBuild = false) :
    ((s.swapEnd flags b m).record i).lifecycle = (s.record i).lifecycle
    ∧ ((s.swapEnd flags b m).record i).live = (s.record i).live
    ∧ ((s.swapEnd flags b m).record i).pending = (s.record i).pending
    ∧ ((s.swapEnd flags b m).record i).commitPending = (s.record i).commitPending
    ∧ ((s.swapEnd flags b m).record i).retirePending = (s.record i).retirePending := by
  have hrest := end_stands (m := m) (mt (mem_leavers_used (flags := flags) hlife).mp h)
    (by rw [swapping_used hlife]; exact hbuild)
  rw [swapping_used hlife] at hrest
  rw [State.swapEnd, hrest]
  exact ⟨rfl, rfl, rfl, rfl, rfl⟩

end

theorem swapEnd_given (hlife : ((s.swapEnd flags b m).record i).lifecycle = .inService) :
    ((s.swapEnd flags b m).record i).ownedTiles = m.ownedCount i
    ∧ ((s.swapEnd flags b m).record i).showing = b.showing i
    ∧ (((s.swapEnd flags b m).record i).showing = .shown → s.isShown i = false →
      (s.swapEnd flags b m).router.staleCounts[i] = 0) := by
  obtain ⟨howned, hshowing⟩ := end_given hlife
  exact ⟨howned, hshowing, fun hshown hnot =>
    end_becomesShown ((isShown_iff _ i).mpr ⟨hlife, hshown⟩) ((swapping_isShown s flags i).trans hnot)⟩

/-- A slot that holds no record is counted in QUARANTINE and passed by (R38). -/
theorem swapEnd_unused (hbuild : (s.record i).inBuild = false) (hexcluded : b.snapshot[i] ≠ .excluded)
    (hlife : (s.record i).lifecycle = .free ∨ (s.record i).lifecycle = .quarantine) :
    (s.swapEnd flags b m).record i = (s.record i).quarantineTick := by
  have hunused : ((s.swapping flags).record i).lifecycle = .free ∨ ((s.swapping flags).record i).lifecycle = .quarantine := by
    rw [swapping_record]
    rcases hlife with hlife | hlife
    · rw [quarantineTick_else (by rw [hlife]; nofun)]
      exact .inl hlife
    · exact quarantineTick_unused hlife
  rw [State.swapEnd, end_passedBy (not_leavers hbuild hexcluded) (swapping_inBuild hbuild) hunused, swapping_record]

/-! ## The counts, from the state before the scan start -/

theorem swapEnd_restarts (hlife : (s.record i).lifecycle = .staged ∨ (s.record i).lifecycle = .inService)
    (h : (s.record i).inBuild = true ∨ b.snapshot[i] = .excluded
      ∨ ((s.swapEnd flags b m).isShown i = true ∧ s.isShown i = false)) :
    (s.swapEnd flags b m).router.staleCounts[i] = 0 := by
  rcases h with hbuild | hexcluded | ⟨hshown, hnot⟩
  · exact end_count (restarted_iff.mpr (.inl (by rw [swapping_used hlife]; exact hbuild)))
  · exact count_leaves ((mem_leavers_used hlife).mpr (.inr hexcluded))
  · exact end_becomesShown hshown ((swapping_isShown s flags i).trans hnot)

/-- The region is counted at a scan start that does not restart its count (R86). -/
def State.swapCounted (s : State) (flags : BitVec 14) (b : Build) (m : Map) (i : Slot) : Prop :=
  (s.swapEnd flags b m).isShown i = true ∧ (s.record i).stale = false ∧ ∃ d p n oc orow, (s.record i).live = some d
    ∧ 1 ≤ d.attributes.staleLimit ∧ d.part m.layout = some p ∧ p.source = .stream n oc orow

theorem swapEnd_hshown (hshown : ¬ ((s.swapEnd flags b m).isShown i = true ∧ s.isShown i = false)) :
    ¬ (((s.swapping flags).queued b m).isShown i = true ∧ (s.swapping flags).isShown i = false) := by
  rw [← end_isShown, swapping_isShown]
  exact hshown

section
variable (hlink : s.router.linkQueue = []) (hbuild : (s.record i).inBuild = false)
  (hexcluded : b.snapshot[i] ≠ .excluded)
  (hshown : ¬ ((s.swapEnd flags b m).isShown i = true ∧ s.isShown i = false))
include hbuild hexcluded

/-- A region that the swap passes by is SHOWN after it only where it was in use. -/
theorem swapEnd_used (h : ((s.swapEnd flags b m).record i).lifecycle = .staged
    ∨ ((s.swapEnd flags b m).record i).lifecycle = .inService) : (s.swapping flags).record i = s.record i := by
  rw [State.swapEnd, end_stands (not_leavers hbuild hexcluded) (swapping_inBuild hbuild)] at h
  exact swapping_shown h

theorem countedBy_iff : (s.swapping flags).countedBy b m i ↔ s.swapCounted flags b m i := by
  unfold State.countedBy State.swapCounted
  rw [State.swapEnd, end_isShown]
  refine and_congr_right fun h => ?_
  have hsame : (s.swapping flags).record i = s.record i := by
    refine swapEnd_used (m := m) hbuild hexcluded (.inr ?_)
    rw [← end_isShown] at h
    exact ((isShown_iff _ i).mp h).1
  rw [hsame]

include hlink hshown

theorem swapEnd_uncounted (h : ¬ s.swapCounted flags b m i) :
    (s.swapEnd flags b m).router.staleCounts[i] = s.router.staleCounts[i]
    ∧ (((s.swapEnd flags b m).record i).lifecycle = .staged ∨ ((s.swapEnd flags b m).record i).lifecycle = .inService →
      ((s.swapEnd flags b m).record i).stale = (s.record i).stale) := by
  have hcounted := mt (countedBy_iff hbuild hexcluded).mp h
  have hstays := not_leavers (flags := flags) hbuild hexcluded
  have hbuild' := swapping_inBuild (flags := flags) hbuild
  have hshown' := swapEnd_hshown hshown
  refine ⟨passed_count_else hbuild' hshown' hstays hlink hcounted, fun hlife => ?_⟩
  have hstale := passed_stale hbuild' hshown' hstays hlink
  have hturns : ¬ ((s.swapping flags).swap b m).turnsStale i = true := fun hturns => by
    rw [State.turnsStale, Bool.and_eq_true] at hturns
    exact hcounted ((counted_iff_countedBy hstays hbuild').mp hturns.1)
  rw [or_iff_right hturns, swapEnd_used hbuild hexcluded hlife] at hstale
  exact Bool.eq_iff_iff.mpr hstale

theorem swapEnd_counted (h : s.swapCounted flags b m i) {d : Content} (hlive : (s.record i).live = some d) :
    (s.swapEnd flags b m).router.staleCounts[i] = s.router.staleCounts[i] + 1
    ∧ (((s.swapEnd flags b m).record i).stale = true ↔ d.attributes.staleLimit ≤ s.router.staleCounts[i] + 1) := by
  have hcounted := (countedBy_iff hbuild hexcluded).mpr h
  have hstays := not_leavers (flags := flags) hbuild hexcluded
  have hbuild' := swapping_inBuild (flags := flags) hbuild
  have hshown' := swapEnd_hshown hshown
  have hsame := swapEnd_used (flags := flags) (m := m) hbuild hexcluded (.inr ((isShown_iff _ i).mp h.1).1)
  refine ⟨passed_count_counted hbuild' hshown' hstays hlink hcounted, ?_⟩
  refine (passed_stale hbuild' hshown' hstays hlink).trans ?_
  rw [passed_turnsStale hbuild' hshown' hstays hcounted (by rw [hsame]; exact hlive), hsame, h.2.1]
  exact or_iff_left Bool.false_ne_true

/-- A region that turns Stale reports it (R87). -/
theorem swapEnd_raised (hreset : s.inReset = false) (h : s.swapCounted flags b m i)
    (hstale : ((s.swapEnd flags b m).record i).stale = true) : (s.swapEnd flags b m).flag .regionStale = true := by
  have hbuild' := swapping_inBuild (flags := flags) hbuild
  have hshown' := swapEnd_hshown hshown
  have hsame := swapEnd_used (flags := flags) (m := m) hbuild hexcluded (.inr ((isShown_iff _ i).mp h.1).1)
  have hturns : ((s.swapping flags).swap b m).turnsStale i = true := by
    refine ((passed_stale hbuild' hshown' (not_leavers hbuild hexcluded) hlink).mp hstale).resolve_right ?_
    rw [hsame, h.2.1]
    exact Bool.false_ne_true
  refine (ends_finish _).flags _ ((swapTicked_ticked (s.swapping flags) b m).raised ?_ i
    (mem_notRestarted.mpr (passed_restarted hbuild' hshown')) hturns)
  rw [(concludes_swap (s.swapping flags) b m).inReset, queued_inReset]
  exact hreset

end

end Sys2Proof.Machine


/-! CLAIM. A scan start at which a map swaps (O25). -/

namespace Sys2Proof.Machine

variable {s t u v : State} {b : Build} {m : Map} {i : Slot} {flags : BitVec 14}

/-! ## The link and the queue -/

theorem swapTicked_linkOf (s : State) (flags : BitVec 14) (b : Build) (m : Map) :
    ((s.swapping flags).swapTicked b m).link = { s.link with
      timer := some s.link.interval
      slots := ((s.swapping flags).swapTicked b m).link.slots
      fillWaiting := if s.fill.job = none then s.link.fillWaiting else none } := by
  obtain ⟨hticked, hswap⟩ := swapTicked_link (s.swapping flags) b m
  rw [hticked]
  exact hswap

theorem swapTicked_slots (hkind : b.kind ≠ .target) :
    ((s.swapping flags).swapTicked b m).link.slots = s.link.slots := by
  rw [(swapTicked_link _ b m).1, swap_slots hkind]
  rfl

/-- A record that the build included and whose slot has not been freed (R34, R38). -/
theorem swapping_included : ((s.swapping flags).record i).inBuild = true ↔
    (s.record i).inBuild = true ∧ ¬ ((s.record i).lifecycle = .quarantine ∧ (s.record i).quarantineCount ≤ 1) := by
  rw [swapping_record]
  exact quarantineTick_inBuild_iff _

theorem swapping_goes (k : Key) : (s.swapping flags).staysQueued b k = false ↔ ∃ i : Slot, k = .region i
    ∧ ((((s.record i).inBuild = true
        ∧ ¬ ((s.record i).lifecycle = .quarantine ∧ (s.record i).quarantineCount ≤ 1))
        ∧ (s.record i).retirePending = true) ∨ b.snapshot[i] = .excluded) := by
  rw [staysQueued_false]
  exact exists_congr fun i => and_congr_right fun _ => mem_leavers_swapping

/-- The regions that turn Stale at the scan start, by their records before it and after (R87). -/
theorem swapping_stales : i ∈ (s.swapping flags).swapStales b m ↔ (s.record i).stale = false
    ∧ (((s.swapping flags).swapTicked b m).record i).stale = true
    ∧ ∃ d, (((s.swapping flags).swapTicked b m).record i).live = some d ∧ d.attributes.staleAction = .fill := by
  constructor
  · intro h
    obtain ⟨hlife, hstale⟩ := swapStales_before h
    rw [swapping_shown (.inr hlife)] at hstale
    exact ⟨hstale, swapStales_after h⟩
  · rintro ⟨hstale, hafter, hfill⟩
    have hbefore : ((s.swapping flags).record i).stale = false := by
      rw [swapping_record]
      by_cases h : (s.record i).expires
      · rw [quarantineTick_freed h.1 h.2]
        rfl
      · rw [quarantineTick_stays h]
        exact hstale
    exact mem_swapStales_of hbefore hafter hfill

/-- Settles O25: the records, the counts and the jobs of the swap, from the state before the scan start. -/
theorem swapSettles : Obligations.SwapSettles := by
  intro c s b m hreset hc hphase hordered
  obtain ⟨flags, hexec⟩ := exec_swap hreset hc hphase hordered
  have hends := ends_finish ((s.swapping flags).swapTicked b m)
  obtain ⟨hepoch, hactive, hconflict⟩ := swapTicked_engine (s.swapping flags) b m
  obtain ⟨counts, hrouter⟩ := swapTicked_router (s.swapping flags) b m
  refine ⟨s.swapEnd flags b m, (s.swapping flags).swapTicked b m, hexec, rfl, hends.epoch.trans hepoch,
    hends.active.trans hactive, hends.conflict.trans hconflict, fun i => ?_, fun hlink i => ?_, ?_, ?_,
    fun hlink hopen => end_draining hlink hopen, fun hclosed => end_undrained hclosed, swapTicked_linkOf s flags b m,
    swapTicked_slots, by rw [hrouter]; rfl, by rw [hrouter]; rfl, by rw [hrouter]; rfl, swapTicked_job _ b m,
    fun hwf => ?_⟩
  · refine ⟨swapEnd_generation s b m i flags, fun hlife => ⟨swapEnd_leaves hlife, swapEnd_included hlife,
      swapEnd_stands hlife⟩, fun hlife => ?_, fun hbuild hexcluded => ⟨fun hlife => ?_, fun hlife hcount => ?_,
      fun hlife hcount => ?_⟩⟩
    · rw [← showing_eq]
      exact swapEnd_given hlife
    · rw [swapEnd_unused hbuild hexcluded (.inl hlife), quarantineTick_else (by rw [hlife]; nofun)]
    · rw [swapEnd_unused hbuild hexcluded (.inr hlife), quarantineTick_freed hlife hcount]
      rfl
    · rw [swapEnd_unused hbuild hexcluded (.inr hlife), quarantineTick_counts hlife hcount]
  · intro restarts counted
    have hpassed (h : ¬ restarts) : (s.record i).inBuild = false ∧ b.snapshot[i] ≠ .excluded
        ∧ ¬ ((s.swapEnd flags b m).isShown i = true ∧ s.isShown i = false) :=
      ⟨Bool.eq_false_iff.mpr fun hb => h (.inl hb), fun he => h (.inr (.inl he)), fun hs => h (.inr (.inr hs))⟩
    refine ⟨fun hrestarts hlife => swapEnd_restarts hlife hrestarts, fun hcounted hrestarts => ?_,
      fun d ⟨hshown, hrestarts, hstale⟩ hlive => ?_⟩ <;> obtain ⟨hbuild, hexcluded, hnot⟩ := hpassed hrestarts
    · refine swapEnd_uncounted hlink hbuild hexcluded hnot fun h => hcounted ?_
      exact ⟨h.1, hrestarts, h.2⟩
    · have hcounted : s.swapCounted flags b m i := ⟨hshown, hstale⟩
      obtain ⟨hcount, hiff⟩ := swapEnd_counted hlink hbuild hexcluded hnot hcounted hlive
      exact ⟨hcount, hiff, swapEnd_raised hlink hbuild hexcluded hnot hreset hcounted⟩
  · exact fun hkind => swapTicked_flag (swapFlag_commit ((queued_inReset _ b m).trans hreset) hkind)
  · exact fun hkind hsuppressed => swapTicked_flag (swapFlag_suppressed ((queued_inReset _ b m).trans hreset) hkind hsuppressed)
  · refine ⟨(s.swapping flags).staysQueued b, (s.swapping flags).swapRegions b m, (s.swapping flags).swapStales b m,
      m.background, swapTicked_queue _ b m, swapping_goes, swapRegions_pairwise _ b m, fun i => ?_, background_cases hwf, ?_,
      fun i => swapping_stales⟩
    · rw [mem_swapRegions hwf, swapping_included]
    · exact List.Pairwise.filter _ (List.Pairwise.filter _ slotList_pairwise)

end Sys2Proof.Machine


/-! CLAIM. The swap of a TARGET map: the zones and their messages, COMMIT_DONE, and SETTLING or its end (O26). -/

namespace Sys2Proof.Machine

variable {s t u v : State} {b : Build} {m : Map} {i : Slot} {flags : BitVec 14}

/-! ## The state before the tests of the swap -/

theorem swap_target (hkind : b.kind = .target) :
    v.swap b m = ((v.queued b m).swapFlag b).enterSettling.drainTest.settleTest := by
  rw [swap_eq, swapped_eq, if_pos hkind, if_pos hkind]

theorem flagged_writes (v : State) (b : Build) (m : Map) : ∃ flags, (v.queued b m).swapFlag b =
    { v.queued b m with port := { (v.queued b m).port with flags } } := swapFlag_writes _ b

theorem queued_beyond (v : State) (b : Build) (m : Map) : (v.queued b m).transition = v.transition
    ∧ (v.queued b m).zones = v.zones ∧ (v.queued b m).activeLayout = m.layout
    ∧ (v.queued b m).link.slots = v.link.slots := by
  obtain ⟨_, _, _, _, _, h⟩ := queued_writes v b m
  rw [h]
  exact ⟨rfl, rfl, rfl, rfl⟩

theorem settleTest_link (hwaiting : s.transition.waitingTarget = none) : s.settleTest.link = s.link := by
  rcases settleTest_or hwaiting with h | h <;> rw [h]
  rw [setFlag_link]
  rfl

theorem settleTest_zones (hwaiting : s.transition.waitingTarget = none) : s.settleTest.zones = s.zones := by
  rcases settleTest_or hwaiting with h | h <;> rw [h]
  rw [setFlag_zones]
  rfl

theorem drainTest_zones (s : State) : s.drainTest.zones = s.zones := by
  obtain ⟨_, _, _, _, h⟩ := drainTest_writes s
  rw [h]

/-! ## The transition -/

/-- The test of SETTLING on entering it: TRANSITION_DONE where the Fill Writer is idle, and SETTLING where it is not
(R136, R137). -/
theorem swap_settles (hkind : b.kind = .target) (hreset : v.inReset = false) :
    ((v.queued b m).fill.queue = [] ∧ (v.swap b m).transition = v.transition.settling.settled
      ∧ (v.swap b m).flag .transitionDone = true)
    ∨ ((v.queued b m).fill.queue ≠ [] ∧ (v.swap b m).transition = v.transition.settling) := by
  have hwaiting := settling_waiting ((v.queued b m).swapFlag b)
  have htransition : ((v.queued b m).swapFlag b).enterSettling.drainTest.transition = v.transition.settling := by
    obtain ⟨flags, hflag⟩ := flagged_writes v b m
    rw [drainTest_transition, enterSettling_transition, hflag]
    dsimp only
    rw [(queued_beyond v b m).1]
  have hconcludes := ((concludes_swapFlag (v.queued b m) b).trans (concludes_enterSettling _)).trans (concludes_drainTest _)
  have hin := (hconcludes.inReset.trans (queued_inReset v b m)).trans hreset
  rw [swap_target hkind]
  generalize ((v.queued b m).swapFlag b).enterSettling.drainTest = w at hwaiting htransition hconcludes hin
  have hidle : w.fillIdle = true ↔ (v.queued b m).fill.queue = [] := by
    rw [State.fillIdle, hconcludes.fill, Bool.and_eq_true, List.isEmpty_iff, queued_fill]
    exact and_iff_right rfl
  by_cases hqueue : (v.queued b m).fill.queue = []
  · have hdone : w.settleTest = (w.updTransition Transition.settled).setFlag .transitionDone :=
      settleTest_done (by rw [htransition]; rfl) (hidle.mpr hqueue) hwaiting
    refine .inl ⟨hqueue, ?_, ?_⟩
    · rw [hdone, setFlag_transition, updTransition_transition, htransition]
    · rw [hdone]
      exact flag_setFlag_self .transitionDone hin
  · refine .inr ⟨hqueue, ?_⟩
    rw [settleTest_busy (Bool.eq_false_iff.mpr (mt hidle.mp hqueue)), htransition]

theorem swapTicked_rest (v : State) (b : Build) (m : Map) :
    (v.swapTicked b m).transition = (v.swap b m).transition ∧ (v.swapTicked b m).zones = (v.swap b m).zones := by
  obtain ⟨_, _, _, _, h⟩ := (swapTicked_ticked v b m).writes
  rw [h]
  exact ⟨rfl, rfl⟩

/-- The transition at the end of the event is that after the test of SETTLING: where a job is left SETTLING goes on
(R136, R137). -/
theorem end_settles (hkind : b.kind = .target) (hreset : v.inReset = false) :
    ((v.queued b m).fill.queue = [] ∧ (v.swapTicked b m).finish.transition = v.transition.settling.settled
      ∧ (v.swapTicked b m).finish.flag .transitionDone = true)
    ∨ ((v.queued b m).fill.queue ≠ [] ∧ (v.swapTicked b m).finish.transition = v.transition.settling) := by
  have hends := ends_finish (v.swapTicked b m)
  have hticked := swapTicked_ticked v b m
  have htransition := (swapTicked_rest v b m).1
  refine (swap_settles (m := m) hkind hreset).imp (fun ⟨hqueue, hdone, hflag⟩ => ⟨hqueue, ?_, ?_⟩)
    fun ⟨hqueue, hsettling⟩ => ⟨hqueue, ?_⟩
  · rw [hends.transition (.inl (by rw [htransition, hdone]; nofun)), htransition, hdone]
  · exact hends.flags _ (hticked.flags _ hflag)
  · obtain ⟨k, hk⟩ := List.exists_mem_of_ne_nil _ hqueue
    have hjob : (v.swapTicked b m).HasJob k := by
      refine .inl ?_
      rw [hticked.queue, mem_foldl_joinKey, (concludes_swap v b m).fill]
      exact .inl hk
    rw [hends.transition (.inr ⟨k, hjob⟩), htransition, hsettling]

/-! ## What is left to do -/

/-- A job waits after the swap: one that waited and does not go, or one that the swap queued (R67, R105, R106). -/
theorem queued_busy (v : State) (b : Build) (m : Map) : (v.queued b m).fill.queue ≠ [] ↔
    (∃ k, v.staysQueued b k = true ∧ v.HasJob k) ∨ m.background ≠ [] ∨ ∃ i, i ∈ v.swapRegions b m := by
  have hmem (k : Key) : k ∈ (v.queued b m).fill.queue ↔
      (v.HasJob k ∧ v.staysQueued b k = true) ∨ (∃ i, i ∈ v.swapRegions b m ∧ Key.region i = k) ∨ k ∈ m.background := by
    rw [queued_fill]
    dsimp only
    rw [mem_foldl_joinKey, List.mem_filter, mem_waitingKeys, List.mem_append, List.mem_map]
  constructor
  · intro hqueue
    obtain ⟨k, hk⟩ := List.exists_mem_of_ne_nil _ hqueue
    rcases (hmem k).mp hk with ⟨hjob, hstays⟩ | ⟨i, hi, -⟩ | hbackground
    · exact .inl ⟨k, hstays, hjob⟩
    · exact .inr (.inr ⟨i, hi⟩)
    · exact .inr (.inl (List.ne_nil_of_mem hbackground))
  · rintro (⟨k, hstays, hjob⟩ | hbackground | ⟨i, hi⟩)
    · exact List.ne_nil_of_mem ((hmem k).mpr (.inl ⟨hjob, hstays⟩))
    · obtain ⟨k, hk⟩ := List.exists_mem_of_ne_nil _ hbackground
      exact List.ne_nil_of_mem ((hmem k).mpr (.inr (.inr hk)))
    · exact List.ne_nil_of_mem ((hmem (.region i)).mpr (.inr (.inl ⟨i, hi, rfl⟩)))

theorem background_ne (hwf : m.wf = true) : m.background ≠ [] ↔ ∃ x, m.changed x = true ∧ m.owner x = none := by
  rcases background_cases hwf with ⟨h, hx⟩ | ⟨h, hx⟩ <;> rw [h]
  · exact iff_of_true nofun hx
  · exact iff_of_false (not_not_intro rfl) fun ⟨x, hchanged, howner⟩ => hx x hchanged howner

/-! ## The zones -/

theorem follow_mode (q : ZoneState) (on : Bool) : (q.follow on).mode =
    if q.mode = .tripped then .tripped else if on = true then .on else .off := by
  unfold ZoneState.follow
  split
  next h => exact h
  next => cases on <;> rfl

theorem follow_settings (q : ZoneState) (on : Bool) : (q.follow on).idleLimit = q.idleLimit
    ∧ (q.follow on).activityMask = q.activityMask ∧ (q.follow on).dimLevel = q.dimLevel := by
  unfold ZoneState.follow
  split
  · exact ⟨rfl, rfl, rfl⟩
  · cases on <;> exact ⟨rfl, rfl, rfl⟩

/-- The entry of a zone in the zone mode table of a layout (R136). -/
def Zones.entry (l : Layout) (q : Zones) (z : Zone) : Bool :=
  match l with
  | .folded => q.foldedTable.get z
  | .unfolded => q.unfoldedTable.get z

theorem tableEntry_eq (s : State) (l : Layout) (z : Zone) : s.tableEntry l z = s.zones.entry l z := by
  cases l <;> rfl

theorem followed_get (l : Layout) (q : Zones) (z : Zone) :
    (q.followed l).get z = (q.zone.get z).follow (q.entry l z) := by
  cases l <;> cases z <;> rfl

theorem swap_zone (hkind : b.kind = .target) (z : Zone) :
    (v.swap b m).zoneState z = (v.zoneState z).follow (v.zones.entry m.layout z) := by
  obtain ⟨flags, hflag⟩ := flagged_writes v b m
  obtain ⟨-, hzones, hlayout, -⟩ := queued_beyond v b m
  have hlayout' : ((v.queued b m).swapFlag b).activeLayout = m.layout := by
    rw [hflag]
    exact hlayout
  have hzones' : ((v.queued b m).swapFlag b).zones = v.zones := by
    rw [hflag]
    exact hzones
  rw [State.zoneState, swap_target hkind, settleTest_zones (settling_waiting _), drainTest_zones, enterSettling_zones,
    hlayout', hzones', followed_get]
  rfl

theorem swap_message (hkind : b.kind = .target) (hreset : v.inReset = false) (z : Zone) :
    (v.swap b m).link.slots.get z = if (v.zoneState z).mode = .tripped then v.link.slots.get z
      else some (toldMessage (v.zones.entry m.layout z)) := by
  obtain ⟨flags, hflag⟩ := flagged_writes v b m
  obtain ⟨-, hzones, hlayout, hslots⟩ := queued_beyond v b m
  have hin : ((v.queued b m).swapFlag b).inReset = false :=
    ((concludes_swapFlag _ b).inReset.trans (queued_inReset v b m)).trans hreset
  have hlayout' : ((v.queued b m).swapFlag b).activeLayout = m.layout := by
    rw [hflag]
    exact hlayout
  have hzones' : ((v.queued b m).swapFlag b).zones = v.zones := by
    rw [hflag]
    exact hzones
  have hslots' : ((v.queued b m).swapFlag b).link.slots = v.link.slots := by
    rw [hflag]
    exact hslots
  rw [swap_target hkind, settleTest_link (settling_waiting _), drainTest_link, enterSettling_slots hin, tableEntry_eq,
    State.zoneState, hlayout', hzones', hslots']
  rfl

theorem swap_joined (hkind : b.kind = .target) (hreset : v.inReset = false) (hjoined : v.transition.commitJoined = true) :
    (v.swap b m).flag .commitDone = true := by
  obtain ⟨flags, hflag⟩ := flagged_writes v b m
  have hin : ((v.queued b m).swapFlag b).inReset = false :=
    ((concludes_swapFlag _ b).inReset.trans (queued_inReset v b m)).trans hreset
  have htransition : ((v.queued b m).swapFlag b).transition = v.transition := by
    rw [hflag]
    exact (queued_beyond v b m).1
  rw [swap_target hkind]
  exact ((concludes_drainTest _).trans (concludes_settleTest (settling_waiting _))).flags _
    (enterSettling_joined hin (by rw [htransition]; exact hjoined))

end Sys2Proof.Machine


/-! CLAIM. The swap of a TARGET map at a scan start (O26). -/

namespace Sys2Proof.Machine

variable {s t u v : State} {b : Build} {m : Map} {i : Slot} {flags : BitVec 14}

/-- A job waits after the swap where one waited that does not go, or where there is something to repaint (R67, R105,
R106). -/
theorem swapping_busy (hwf : m.wf = true) : ((s.swapping flags).queued b m).fill.queue ≠ [] ↔
    (∃ k, ¬ (s.swapping flags).staysQueued b k = false ∧ s.HasJob k)
    ∨ (∃ x, m.changed x = true ∧ m.owner x = none)
    ∨ ∃ (i : Slot) (p : Part) (c : Colour), ((s.swapping flags).swapTicked b m).isShown i = true
      ∧ ((s.swapping flags).swapTicked b m).activePart i = some p ∧ p.source = .fill c
      ∧ ((∃ x, m.changed x = true ∧ m.owner x = some i) ∨ ((s.swapping flags).record i).inBuild = true) := by
  rw [queued_busy, background_ne hwf]
  refine or_congr (exists_congr fun k => ?_) (or_congr_right (exists_congr fun i => ?_))
  · rw [Bool.not_eq_false]
    rfl
  · rw [mem_swapRegions hwf]
    constructor
    · rintro ⟨hshown, ⟨p, c, hp, hsource⟩, howns⟩
      exact ⟨p, c, hshown, hp, hsource, howns⟩
    · rintro ⟨p, c, hshown, hp, hsource, howns⟩
      exact ⟨hshown, ⟨p, c, hp, hsource⟩, howns⟩

/-- The transition after the swap of a TARGET map: SETTLING with a job left, STEADY without (R136, R137). -/
theorem swapEnd_settles (hkind : b.kind = .target) (hreset : s.inReset = false) :
    (((s.swapping flags).queued b m).fill.queue = [] ∧ (s.swapEnd flags b m).transition = s.transition.settling.settled
      ∧ (s.swapEnd flags b m).flag .transitionDone = true)
    ∨ (((s.swapping flags).queued b m).fill.queue ≠ [] ∧ (s.swapEnd flags b m).transition = s.transition.settling) :=
  end_settles hkind hreset

theorem swapEnd_zone (hkind : b.kind = .target) (z : Zone) :
    ((s.zoneState z).follow (s.zones.entry m.layout z)).Stays ((s.swapEnd flags b m).zoneState z) := by
  have hends := (ends_finish ((s.swapping flags).swapTicked b m)).zones z
  have hzone : ((s.swapping flags).swapTicked b m).zoneState z = (s.zoneState z).follow (s.zones.entry m.layout z) := by
    rw [State.zoneState, (swapTicked_rest _ b m).2]
    exact swap_zone hkind z
  rw [hzone] at hends
  exact hends

theorem swapEnd_mode (hkind : b.kind = .target) (z : Zone) : ((s.swapEnd flags b m).zoneState z).mode =
    if (s.zoneState z).mode = .tripped then .tripped else if s.zones.entry m.layout z = true then .on else .off := by
  rw [(swapEnd_zone hkind z).mode, follow_mode]
  rw [follow_mode]
  split
  · nofun
  · split <;> nofun

theorem swapEnd_settings (hkind : b.kind = .target) (z : Zone) :
    ((s.swapEnd flags b m).zoneState z).idleLimit = (s.zoneState z).idleLimit
    ∧ ((s.swapEnd flags b m).zoneState z).activityMask = (s.zoneState z).activityMask
    ∧ ((s.swapEnd flags b m).zoneState z).dimLevel = (s.zoneState z).dimLevel := by
  have hstays := swapEnd_zone (flags := flags) (m := m) (s := s) hkind z
  obtain ⟨hlimit, hmask, hdim⟩ := follow_settings (s.zoneState z) (s.zones.entry m.layout z)
  exact ⟨hstays.idleLimit.trans hlimit, hstays.activityMask.trans hmask, hstays.dimLevel.trans hdim⟩

theorem swapTicked_message (hkind : b.kind = .target) (hreset : s.inReset = false) (z : Zone) :
    ((s.swapping flags).swapTicked b m).link.slots.get z =
      if (s.zoneState z).mode = .tripped then s.link.slots.get z
      else some (toldMessage (s.zones.entry m.layout z)) := by
  have hmessage := swap_message (v := s.swapping flags) (m := m) hkind hreset z
  rw [(swapTicked_link _ b m).1, hmessage]
  rfl

/-- Settles O26: the jobs left decide on SETTLING; the zones and their messages follow the table. -/
theorem transitionSwap : Obligations.TransitionSwap := by
  intro c s b m hreset hc hphase hkind hstate hcount
  obtain ⟨flags, hexec⟩ := exec_swap hreset hc hphase fun _ => ⟨hstate, hcount⟩
  have hends := ends_finish ((s.swapping flags).swapTicked b m)
  have hactive : (s.swapEnd flags b m).engine.active = m := hends.active.trans (swapTicked_active _ b m)
  have hsettles := swapEnd_settles (flags := flags) (m := m) hkind hreset
  have hfields : (s.swapEnd flags b m).transition.commitJoined = false ∧ (s.swapEnd flags b m).transition.holdCount = 0
      ∧ (s.swapEnd flags b m).transition.waitingTarget = none
      ∧ (s.swapEnd flags b m).transition.pin = s.transition.pin := by
    rcases hsettles with ⟨-, h, -⟩ | ⟨-, h⟩ <;> rw [h] <;> exact ⟨rfl, rfl, rfl, rfl⟩
  obtain ⟨hjoined, hhold, hwaiting, hpin⟩ := hfields
  refine ⟨s.swapEnd flags b m, (s.swapping flags).swapTicked b m, hexec, rfl, congrArg Map.layout hactive, hjoined, hhold,
    hwaiting, hpin, ?_, fun hwf => ?_, ?_, fun hcommit => ?_, fun z => ⟨fun htripped => ⟨?_, ?_⟩, fun hother => ⟨?_, ?_⟩, ?_⟩⟩
  · rcases hsettles with ⟨-, h, hdone⟩ | ⟨-, h⟩
    · exact .inr ⟨by rw [h]; rfl, by rw [h]; rfl, hdone⟩
    · exact .inl ⟨by rw [h]; rfl, by rw [h]; rfl⟩
  · have hbusy := swapping_busy (s := s) (flags := flags) (b := b) hwf
    simp only [swapping_goes, swapping_included] at hbusy
    intro included goes waits repaints
    change _ ↔ waits ∨ repaints at hbusy
    rw [← hbusy]
    rcases hsettles with ⟨hqueue, h, -⟩ | ⟨hqueue, h⟩ <;> rw [h]
    · exact ⟨iff_of_false nofun (not_not_intro hqueue), iff_of_true rfl (not_not_intro hqueue)⟩
    · exact ⟨iff_of_true rfl hqueue, iff_of_false nofun (not_not_intro hqueue)⟩
  · rw [swapTicked_linkOf]
  · exact hends.flags _ ((swapTicked_ticked _ b m).flags _ (swap_joined hkind hreset hcommit))
  · rw [swapEnd_mode hkind z, if_pos htripped]
  · rw [swapTicked_message hkind hreset z, if_pos htripped]
  · exact (swapEnd_mode hkind z).trans (if_neg hother)
  · exact (swapTicked_message hkind hreset z).trans (if_neg hother)
  · exact swapEnd_settings hkind z

end Sys2Proof.Machine
